-- ==== Sys2Proof/Word.lean ====
section
/-!
DEFINITION. The byte of every packet and store of the module (spec/00_scope.md R8).
-/

namespace Sys2Proof

/-- One byte as packets, images and the parameter store hold it (R8, R533). -/
abbrev Byte := BitVec 8

end Sys2Proof
end

