-- ==== Sys2Proof/Syntax.lean ====
section
/-!
DEFINITION. The commands of the module: one constructor per row of spec/opcode_table.json.
Operands are unsigned numbers unless said otherwise; WellFormed.lean bounds them to their widths.
-/

namespace Sys2Proof

/-- The header of a served NCP command (R533): CTRL, TAG, the instant of R509 in TB ticks, and the offset in PARAMS
of its first non-zero reserved byte, if any (R13). `cls` is the class requested, 0 to 3. -/
structure Hdr where
  session : Nat
  tag     : Nat
  cls     : Nat
  urgent  : Bool
  push    : Bool
  tick     : Nat
  res     : Option Nat
  deriving DecidableEq, Repr

/-- PARAMS of STREAM_OPEN (R603). -/
structure StreamOpenP where
  wait     : Nat
  stream   : Nat
  pixfmt   : Nat
  route    : Nat
  colStart : Nat
  colCount : Nat
  deriving DecidableEq, Repr

/-- PARAMS of STREAM_MODIFY (R603); `present` bit 0 PIXFMT, bit 1 route, bit 2 columns. -/
structure StreamModifyP where
  wait     : Nat
  stream   : Nat
  present  : Nat
  pixfmt   : Nat
  route    : Nat
  colStart : Nat
  colCount : Nat
  deriving DecidableEq, Repr

/-- PARAMS of READOUT_CONFIG (R603); `present` bit 0 RT, bit 1 INT, bit 2 window, bit 3 P, bit 4 gain mode. -/
structure ReadoutP where
  wait    : Nat
  present : Nat
  gain    : Nat
  rt      : Nat
  int     : Nat
  start   : Nat
  count   : Nat
  period  : Nat
  deriving DecidableEq, Repr

/-- One entry of DEFECT_EDIT (R611): record index, bits [23:21], DEFECT bits to set and to clear. -/
structure DefectEntry where
  index : Nat
  zero  : Nat
  set   : Nat
  clear : Nat
  deriving DecidableEq, Repr

/-- The configuration fields of ACT_CONFIG (R615, R707). -/
structure ActCfg where
  mode       : Nat
  retrigger  : Nat
  iPeak      : Nat
  iHold      : Nat
  band       : Nat
  minPeak    : Nat
  maxPeak    : Nat
  dipStart   : Nat
  dipEnd     : Nat
  peakDelay  : Nat
  dutyLimit  : Nat
  dutyWindow : Nat
  defHold    : Nat
  deriving DecidableEq, Repr

/-- PARAMS of ACT_SCHEDULE (R615): reference 0 TB instant, 1 trigger, 2 frame, 3 angle entry. -/
structure ScheduleP where
  wait   : Nat
  ch     : Nat
  kind   : Nat
  ref    : Nat
  value  : Nat
  offset : Nat
  hold   : Nat
  deriving DecidableEq, Repr

/-- PARAMS of TRIG_CONFIG (R625). -/
structure TrigP where
  pads     : Nat
  dirs     : Nat
  source   : Nat
  mode     : Nat
  edge     : Nat
  filter   : Nat
  func0    : Nat
  func1    : Nat
  func2    : Nat
  func3    : Nat
  gpio     : Nat
  gpioDir  : Nat
  gpioOut  : Nat
  deriving DecidableEq, Repr

/-- PARAMS of ENC_CONFIG (R625). -/
structure EncP where
  mode   : Nat
  invert : Nat
  clearZ : Nat
  cpr    : Nat
  preset : Nat
  deriving DecidableEq, Repr

/-- One entry of ANGLE_TABLE_LOAD (R625, R663). -/
structure AngleEntry where
  position : Nat
  action   : Nat
  handle   : Nat
  deriving DecidableEq, Repr

/-- What the range detector of an ADC finds (R312, R313). -/
inductive Det where
  | inRange | high | low
  deriving DecidableEq, Repr

/-- A row as it leaves the integrators and crosses the Haul link (R310, R347, R352): the physical row; per column the
integrator output in microvolts and the range detector's finding; the bits that the line turns over, as (lane, block counted
from ROW_START, bits); the active columns whose record read corrects a single-bit error or finds a double-bit one; the streams that find no buffer space for the frame this row completes; the instant. -/
structure RowIn where
  row       : Nat
  vd        : List (Int × Det)
  lineErrs  : List (Nat × Nat × BitVec 67)
  corrected : List Nat
  doubles   : List Nat
  noSpace   : List Nat
  tick       : Nat
  deriving DecidableEq, Repr

/-- What a lane shows at the end of a training attempt (R359): block lock, the payload of the TRAIN block received at one instant for all
lanes, and the verification rows received with their header errors and CRC mismatches. -/
structure LaneReport where
  lane : Nat
  lock : Bool
  train : BitVec 64
  rows : Nat
  headerErrors : Nat
  crcErrors : Nat
  deriving DecidableEq, Repr

/-- What a release step reports beside its completion: phases that pass the test pulse (step 6, R244), straps as
TRIG.STRAPS bits (step 7, R127), sensors 1 to 6 in 1/64 °C (steps 2 and 13, R838), blocks lost by the recall (step 11). -/
structure StepInfo where
  phases : Nat
  straps : Nat
  temps  : List Int
  lost   : List Nat
  deriving DecidableEq, Repr

/-- A gang message (R671): the sender, whether the leader sent it, its timebase, counter, state, members present and in
agreement, hash and level; `delay` is the delay to this module that a leader's message carries. -/
structure GangMsg where
  id       : Nat
  leader   : Bool
  tb       : Nat
  counter  : Nat
  state    : Nat
  present  : Nat
  agree    : Nat
  hash     : Nat
  compat   : Nat
  delay    : Nat
  /-- Refusal reason in answer to this module's join request, when the leader answers it (R677). -/
  reply    : Option Nat
  deriving DecidableEq, Repr

/-- A join request as the leader receives it (R677). -/
structure GangJoinReq where
  id     : Nat
  compat : Nat
  tb     : Nat
  delay  : Nat
  deriving DecidableEq, Repr

/-- The commands. Every constructor's docstring would repeat its row; the meanings cite the rules. -/
inductive Instr where
  -- NCP opcodes 0x00 to 0x0F (R597)
  | ping (h : Hdr) (bytes : List Byte)
  | sessionOpen (h : Hdr) (clientId : Nat)
  | sessionClose (h : Hdr) (target : Nat)
  | sessionPolicy (h : Hdr) (tiers enable : Nat)
  | claim (h : Hdr) (code : Nat)
  | release (h : Hdr) (code holder : Nat)
  | statusGet (h : Hdr)
  | eventSubscribe (h : Hdr) (mask : Nat)
  | replyFetch (h : Hdr)
  | cancel (h : Hdr) (target tag : Nat)
  | modeSet (h : Hdr) (mode : Nat)
  | sysReset (h : Hdr) (level : Nat)
  | unitReset (h : Hdr) (unit mode : Nat)
  | timeGet (h : Hdr)
  | hostKeepalive (h : Hdr) (key : Nat)
  | wdgConfig (h : Hdr) (period enable : Nat)
  -- 0x10 to 0x1A (R603)
  | streamOpen (h : Hdr) (p : StreamOpenP)
  | streamClose (h : Hdr) (stream : Nat)
  | streamStart (h : Hdr) (wait stream : Nat)
  | streamHalt (h : Hdr) (stream : Nat)
  | streamModify (h : Hdr) (p : StreamModifyP)
  | readoutConfig (h : Hdr) (p : ReadoutP)
  | readoutArm (h : Hdr) (wait arm : Nat)
  | frameSnap (h : Hdr) (stream count : Nat)
  | pipeConfig (h : Hdr) (wait sharp bypass : Nat)
  | radiometrySet (h : Hdr) (eps tRefl : Nat)
  | qualityConfig (h : Hdr) (qmask : Nat)
  -- 0x20 to 0x29 (R611)
  | adcCal (h : Hdr)
  | shutterCal (h : Hdr) (wait sigma mean temp : Nat)
  | gainCal (h : Hdr) (wait sigma mean temp : Nat)
  | driftConfig (h : Hdr) (bound mode : Nat)
  | shutterInhibit (h : Hdr) (duration : Nat)
  | defectEdit (h : Hdr) (wait : Nat) (entries : List DefectEntry)
  | calsetSelect (h : Hdr) (wait set : Nat)
  | calsetSave (h : Hdr) (wait : Nat)
  | coeffRead (h : Hdr) (first count : Nat)
  | coeffWrite (h : Hdr) (wait first : Nat) (records : List (BitVec 80))
  -- 0x30 to 0x36 (R615)
  | actConfig (h : Hdr) (ch : Nat) (c : ActCfg)
  | actProgramLoad (h : Hdr) (target first : Nat) (words : List Nat)
  | actFire (h : Hdr) (wait ch kind hold : Nat)
  | actSchedule (h : Hdr) (p : ScheduleP)
  | actAbort (h : Hdr) (a b flags : Nat)
  | actDiagGet (h : Hdr) (ch : Nat)
  | shutterMove (h : Hdr) (wait dir : Nat)
  -- 0x40 to 0x46 (R621)
  | pstoRead (h : Hdr) (offset count : Nat)
  | pstoWrite (h : Hdr) (offset : Nat) (bytes : List Byte)
  | pstoErase (h : Hdr) (first count : Nat)
  | pstoProtect (h : Hdr) (code : Nat)
  | counterGet (h : Hdr)
  | logRead (h : Hdr) (first count : Nat)
  | logClear (h : Hdr)
  -- 0x50 to 0x56 (R625)
  | trigConfig (h : Hdr) (p : TrigP)
  | encConfig (h : Hdr) (p : EncP)
  | angleTableLoad (h : Hdr) (first : Nat) (entries : List AngleEntry)
  | gangConfig (h : Hdr) (members rule : Nat)
  | gangJoin (h : Hdr)
  | gangLeave (h : Hdr)
  | gangStatus (h : Hdr)
  -- 0x60 to 0x63 (R629)
  | thermalGet (h : Hdr)
  | thermalConfig (h : Hdr) (level : Nat)
  | powerGet (h : Hdr)
  | rideConfig (h : Hdr) (ms : Nat)
  -- 0x70 to 0x77 (R630)
  | fwInfo (h : Hdr)
  | fwWrite (h : Hdr) (image offset : Nat) (bytes : List Byte)
  | fwVerify (h : Hdr) (image : Nat)
  | fwActivate (h : Hdr) (image later : Nat)
  | regRead (h : Hdr) (addr count : Nat)
  | regWrite (h : Hdr) (addr value : Nat)
  | ledgeExit (h : Hdr)
  | fuseRead (h : Hdr) (first count : Nat)
  -- control space, links, packets (chapters 10 and 11)
  | doorbell (mbox len : Nat) (command : List Byte) (tick : Nat)
  | replyPop (mbox : Nat)
  | connectionConfig (rate links : Nat)
  | connectionReset
  | acquisitionMirrorWrite (addr value : Nat)
  | discovery (link : Nat)
  | triggerPacket (rising : Bool) (tick : Nat)
  | unsupportedPacket (link kind : Nat)
  | hostHeartbeat (link host tick : Nat)
  | heartbeatSend (tick : Nat)
  | cxpLinkLost (link : Nat)
  | cxpLinkRelock (link : Nat)
  | replyReplay
  -- register writes and reads with rows of their own
  | sensRegisterWrite (h : Hdr) (addr value : Nat)
  | sessTierWrite (h : Hdr) (addr value : Nat)
  | wdgHostCtrlWrite (h : Hdr) (value : Nat)
  | thmConfigWrite (h : Hdr) (value : Nat)
  | pwrRideTimerWrite (h : Hdr) (value : Nat)
  | sessTelemWrite (h : Hdr) (addr value : Nat)
  | fuseBlowSelWrite (h : Hdr) (value : Nat)
  | fuseBlowWrite (h : Hdr) (value : Nat)
  | tbaseNowLoRead (h : Hdr)
  | causeStickyClear (h : Hdr) (value : Nat)
  | haulHdrErrClear (h : Hdr) (value : Nat)
  | haulCrcErrClear (h : Hdr) (value : Nat)
  | pipeEccClear (h : Hdr) (value : Nat)
  | pstoEccClear (h : Hdr) (value : Nat)
  | cxpDiscardsClear (h : Hdr) (value : Nat)
  | trigEarlyClear (h : Hdr) (value : Nat)
  | encErrCountClear (h : Hdr) (value : Nat)
  | fwKeyWrite (key tick pc : Nat)
  | benchRead (addr : Nat)
  | benchWrite (addr value : Nat)
  | jtagBypass
  | jtagIdcode
  | jtagSamplePreload (preload : Bool) (value : Nat)
  | jtagExtest
  | jtagHighz
  | jtagClamp
  -- bring-up, power-down, supplies (chapters 02 to 05)
  | vlink0Qualified (mv : Nat)
  | resetnAssert (widthNs : Nat)
  | resetnRelease
  | releaseStepComplete (info : StepInfo)
  | releaseGapExpiry
  | releaseStepLimitExpiry
  | stepRetryBackoffExpiry
  | failedStartWaitExpiry
  | bootOk
  | bootTimeout
  | coreOutageEnd
  | powerdownStepComplete
  | powerdownStepLimitExpiry (rail : Nat)
  | railCollapse (rail : Nat)
  | railFaultRestart
  | vlinkDipBringup
  | vlink1Rise (mv : Nat)
  | linkSupplyLost (link : Nat)
  | rideThroughEntry (vhold tick : Nat)
  | vlinkReturn (mv0 mv1 vhold tick : Nat)
  | rideRetryExpiry (vhold tick : Nat)
  | rideEnergyReserve (vhold tick : Nat)
  | vholdBelowVmin
  | holdupMeasurementStart (vhold dropUv : Nat)
  | holdupMeasurementEnd (deltaUv : Nat)
  | phaseFault (phase kind : Nat)
  | converterStepTimer (currentMa : Nat)
  | pllLockLoss (widthNs : Nat)
  | clockMonitorWindow (toggles : Nat)
  | thermalTrip (sensor : Nat)
  | thermalRestart (t7 t8 : Int)
  | thermalSample (temps : List (Option Int)) (tick : Nat)
  | thermalRaiseTimer (tick : Nat)
  | thermalLowerTimer (tick : Nat)
  | fastSamplingEnd
  | compensationUpdate (tick : Nat) (bias cdie pdie : Int)
  | aonTrim (trim : Nat)
  | wakeQualified (aonTicks : Nat)
  | wakeDetectorRearm
  | vshrReady (mv tick : Nat)
  -- readout, triggers, Haul, pipeline (chapters 06, 07, 08, 13)
  | frameS0 (tick fpaCode : Nat) (fpaValid : Bool)
  | frameStartSlot
  | trigEdge (pad : Nat) (rising : Bool) (tick : Nat)
  | haulRowReceived (r : RowIn)
  | haulRegResp (tag status data : Nat)
  | laneBlockLockLoss (lane : Nat)
  | haulAlmRise
  | haulAlmFall
  | haulAlmTimeout
  | haulTrainingEnd (lanes : List LaneReport) (latencyNs : Nat)
  | actEventReport (ch kind tick : Nat)
  | sievePassStart (corrected doubles : List Nat)
  | recordReload
  | scrubUeEventTimer
  -- calibration (chapters 06, 09, 17)
  | adcCalEnd (failed : Option Nat)
  | seedingEnd (lows highs : List Nat)
  | calSettleExpiry (tick : Nat)
  | captureComplete
  | captureFramesTimeout
  | offsetUpdateDone
  | gainUpdateDone
  | autoShutterCal (tick : Nat)
  | shutterInhibitExpiry
  | calsetRecallDone (lost : List Nat)
  | calsetSaveBlockDone (readBackOk : Bool)
  | calsetSaveEnergyTimeout
  | deferredWaitExpiry (session tag : Nat)
  -- actuators (chapter 14)
  | actSlotGrant (ch hsDelta tick : Nat)
  | actPeakDelayExpiry (ch : Nat)
  | actPeakReached (ch currentMa tick : Nat)
  | actMaxTimeToPeak (ch currentMa tick : Nat)
  | actHoldEntered (ch tick : Nat)
  | actDecayTimeout (ch tick : Nat)
  | actHoldBandCrossing (ch : Nat) (upper : Bool) (tick : Nat)
  | actSwitchOffTime (ch tick : Nat)
  | actTurnOffEnd (ch tick : Nat)
  | actMotionDip (ch dipAt tick : Nat)
  | actDutyLimitReached (ch duty tick : Nat)
  | actSenseFail (ch tick : Nat)
  | actShort (ch tick : Nat)
  | actHsSenseFail (bank tick : Nat)
  | actBankOvercurrent (bank tick : Nat)
  | actSupplyLow (bank mv tick : Nat)
  | scheduledFireInstant (handle tick : Nat)
  | chiselWaitEnd (seq tick : Nat)
  | chiselWaitfEnd (seq tick : Nat)
  | chiselWaitaEnd (seq tick : Nat)
  | chiselWaitiEnd (seq tick : Nat)
  | chiselWaitiTimeout (seq tick : Nat)
  | chiselInstructionLimit (seq tick : Nat)
  | shutterProgramTimeout (tick : Nat)
  | shutterVshrTimeout
  -- encoder and gang (chapter 13)
  | encLegalTransition (lineA : Bool) (tick : Nat)
  | encIllegalTransition (tick : Nat)
  | encLost
  | encIndex (tick : Nat)
  | gangCycle (tick : Nat)
  | gangSyncReceived (stampNs leaderTb : Nat)
  | gangMessage (m : GangMsg)
  | gangJoinRequest (r : GangJoinReq)
  | gangJoinListenEnd
  | gangJoinerAligned
  | gangStartPulse (tick : Nat)
  | gangAckMissing (id : Nat)
  | gangSyncMissing
  | gangSlewPeriod
  -- watchdogs (chapter 15)
  | wdgKeyALapse (host : Bool)
  | wdgWarn (host : Bool)
  | wdgExpiry (host : Bool) (pc : Nat)
  | wdgCountResetTimer
  -- storage and background work (chapters 17, 18)
  | pstoStartupScan
  | pendingEraseResolve (marginOk : Bool)
  | journalCompaction
  | backgroundStoreRetry (vhold : Nat)
  | pstoEraseResume
  | pstoSectorEraseDone
  | ringSectorErase (ring : Nat)
  | counterRingWrite
  | crcWalk (bad : List Nat)
  | crcWalkAbandon
  | logWrite
  | telemetryPeriod (session : Nat)
  | fwWriteBlockDone (readBackOk : Bool)
  | fwVerifyDone
  | converterOverload (currentMa : Nat)
  | gangAckReceived (id roundTripNs : Nat)
  | gangFreeRunStart (tick : Nat)
  | inFlightEnd (session tag : Nat)
  | aonPowerLoss
  | wdgFwCtrlWrite (period tick pc : Nat)
  deriving DecidableEq, Repr

end Sys2Proof
end

