-- ==== Sys2Proof/WellFormed.lean ====
section
/-!
DEFINITION. When a command is well formed: every operand fits the field or the physical range that carries it. A meaning is
total on every term; statements that speak of packets or registers ask for a well-formed command.
-/

namespace Sys2Proof

/-- The header fields of R533: session 4 bits, TAG 8, class 2, instant 64. -/
def Hdr.wf (h : Hdr) : Bool :=
  decide (h.session < 16) && decide (h.tag < 256) && decide (h.cls < 4) && decide (h.tick < 2 ^ 64)

/-- PARAMS of STREAM_OPEN (R603). -/
def StreamOpenP.wf (p : StreamOpenP) : Bool :=
  decide (p.wait < 65536) && decide (p.stream < 256) && decide (p.pixfmt < 256) && decide (p.route < 256)
    && decide (p.colStart < 65536) && decide (p.colCount < 65536)

/-- PARAMS of STREAM_MODIFY (R603). -/
def StreamModifyP.wf (p : StreamModifyP) : Bool :=
  decide (p.wait < 65536) && decide (p.stream < 256) && decide (p.present < 256) && decide (p.pixfmt < 256)
    && decide (p.route < 256) && decide (p.colStart < 65536) && decide (p.colCount < 65536)

/-- PARAMS of READOUT_CONFIG (R603). -/
def ReadoutP.wf (p : ReadoutP) : Bool :=
  decide (p.wait < 65536) && decide (p.present < 256) && decide (p.gain < 256) && decide (p.rt < 65536)
    && decide (p.int < 65536) && decide (p.start < 65536) && decide (p.count < 65536) && decide (p.period < 2 ^ 32)

/-- One entry of DEFECT_EDIT (R611). -/
def DefectEntry.wf (e : DefectEntry) : Bool :=
  decide (e.index < 2 ^ 21) && decide (e.zero < 8) && decide (e.set < 16) && decide (e.clear < 16)

/-- PARAMS of ACT_CONFIG after the channel (R615). -/
def ActCfg.wf (c : ActCfg) : Bool :=
  decide (c.mode < 256) && decide (c.retrigger < 256) && decide (c.iPeak < 65536) && decide (c.iHold < 65536)
    && decide (c.band < 65536) && decide (c.minPeak < 65536) && decide (c.maxPeak < 65536) && decide (c.dipStart < 65536)
    && decide (c.dipEnd < 65536) && decide (c.peakDelay < 65536) && decide (c.dutyLimit < 65536)
    && decide (c.dutyWindow < 65536) && decide (c.defHold < 2 ^ 32)

/-- PARAMS of ACT_SCHEDULE (R615). -/
def ScheduleP.wf (p : ScheduleP) : Bool :=
  decide (p.wait < 65536) && decide (p.ch < 256) && decide (p.kind < 256) && decide (p.ref < 256)
    && decide (p.value < 2 ^ 64) && decide (p.offset < 2 ^ 32) && decide (p.hold < 2 ^ 32)

/-- PARAMS of TRIG_CONFIG (R625). -/
def TrigP.wf (p : TrigP) : Bool :=
  [p.pads, p.dirs, p.source, p.mode, p.edge, p.filter, p.func0, p.func1, p.func2, p.func3, p.gpio, p.gpioDir, p.gpioOut].all
    (fun v => decide (v < 256))

/-- PARAMS of ENC_CONFIG (R625). -/
def EncP.wf (p : EncP) : Bool :=
  decide (p.mode < 256) && decide (p.invert < 256) && decide (p.clearZ < 256) && decide (p.cpr < 2 ^ 32)
    && decide (p.preset < 2 ^ 32)

/-- One entry of ANGLE_TABLE_LOAD (R625). -/
def AngleEntry.wf (e : AngleEntry) : Bool :=
  decide (e.position < 2 ^ 32) && decide (e.action < 256) && decide (e.handle < 256)

/-- A row as the Haul link brings it: one of the 1,048 physical rows (R286). -/
def RowIn.wf (r : RowIn) : Bool :=
  decide (r.row < 1048) && r.lineErrs.all (fun b => decide (b.1 < 4))
    && r.noSpace.all (fun n => decide (n < 16)) && r.corrected.all (fun n => decide (n < 1280)) && r.doubles.all (fun n => decide (n < 1280))

/-- A gang identity (R669). -/
def gangIdOk (n : Nat) : Bool := decide (n < 8)

/-- A link number (R490). -/
def linkOk (n : Nat) : Bool := decide (n < 4)

/-- A channel index: 0 to 3 bank A, 4 to 7 bank B, 8 the shutter. -/
def chanOk (n : Nat) : Bool := decide (n < 9)

/-- Every operand in the field that carries it. -/
def Instr.wf : Instr → Bool
  | .ping h bs => h.wf && decide (bs.length ≤ 244)
  | .sessionOpen h v => h.wf && decide (v < 2 ^ 32)
  | .sessionClose h v => h.wf && decide (v < 256)
  | .sessionPolicy h t e => h.wf && decide (t < 2 ^ 32) && decide (e < 65536)
  | .claim h v => h.wf && decide (v < 256)
  | .release h c v => h.wf && decide (c < 256) && decide (v < 256)
  | .statusGet h => h.wf
  | .eventSubscribe h m => h.wf && decide (m < 2 ^ 32)
  | .replyFetch h => h.wf
  | .cancel h a b => h.wf && decide (a < 256) && decide (b < 256)
  | .modeSet h v => h.wf && decide (v < 256)
  | .sysReset h v => h.wf && decide (v < 256)
  | .unitReset h a b => h.wf && decide (a < 256) && decide (b < 256)
  | .timeGet h => h.wf
  | .hostKeepalive h v => h.wf && decide (v < 65536)
  | .wdgConfig h p e => h.wf && decide (p < 2 ^ 32) && decide (e < 256)
  | .streamOpen h p => h.wf && p.wf
  | .streamClose h v => h.wf && decide (v < 256)
  | .streamStart h w v => h.wf && decide (w < 65536) && decide (v < 256)
  | .streamHalt h v => h.wf && decide (v < 256)
  | .streamModify h p => h.wf && p.wf
  | .readoutConfig h p => h.wf && p.wf
  | .readoutArm h w v => h.wf && decide (w < 65536) && decide (v < 256)
  | .frameSnap h v n => h.wf && decide (v < 256) && decide (n < 65536)
  | .pipeConfig h w a b => h.wf && decide (w < 65536) && decide (a < 65536) && decide (b < 256)
  | .radiometrySet h a b => h.wf && decide (a < 65536) && decide (b < 65536)
  | .qualityConfig h v => h.wf && decide (v < 256)
  | .adcCal h => h.wf
  | .shutterCal h w a b c => h.wf && [w, a, b, c].all (fun v => decide (v < 65536))
  | .gainCal h w a b c => h.wf && [w, a, b, c].all (fun v => decide (v < 65536))
  | .driftConfig h a b => h.wf && decide (a < 65536) && decide (b < 256)
  | .shutterInhibit h v => h.wf && decide (v < 2 ^ 32)
  | .defectEdit h w es => h.wf && decide (w < 65536) && decide (es.length < 256) && es.all DefectEntry.wf
  | .calsetSelect h w v => h.wf && decide (w < 65536) && decide (v < 256)
  | .calsetSave h w => h.wf && decide (w < 65536)
  | .coeffRead h a n => h.wf && decide (a < 2 ^ 32) && decide (n < 256)
  | .coeffWrite h w a rs => h.wf && decide (w < 65536) && decide (a < 2 ^ 32) && decide (rs.length ≤ 101)
  | .actConfig h c g => h.wf && decide (c < 256) && g.wf
  | .actProgramLoad h t a ws => h.wf && decide (t < 256) && decide (a < 65536) && ws.all (fun v => decide (v < 2 ^ 32))
  | .actFire h w c k v => h.wf && decide (w < 65536) && decide (c < 256) && decide (k < 256) && decide (v < 2 ^ 32)
  | .actSchedule h p => h.wf && p.wf
  | .actAbort h a b f => h.wf && [a, b, f].all (fun v => decide (v < 256))
  | .actDiagGet h c => h.wf && decide (c < 256)
  | .shutterMove h w d => h.wf && decide (w < 65536) && decide (d < 256)
  | .pstoRead h a n => h.wf && decide (a < 2 ^ 32) && decide (n < 256)
  | .pstoWrite h a bs => h.wf && decide (a < 2 ^ 32) && decide (bs.length ≤ 1016)
  | .pstoErase h a n => h.wf && decide (a < 256) && decide (n < 256)
  | .pstoProtect h v => h.wf && decide (v < 256)
  | .counterGet h => h.wf
  | .logRead h a n => h.wf && decide (a < 65536) && decide (n < 256)
  | .logClear h => h.wf
  | .trigConfig h p => h.wf && p.wf
  | .encConfig h p => h.wf && p.wf
  | .angleTableLoad h a es => h.wf && decide (a < 256) && es.all AngleEntry.wf
  | .gangConfig h a b => h.wf && decide (a < 256) && decide (b < 256)
  | .gangJoin h => h.wf
  | .gangLeave h => h.wf
  | .gangStatus h => h.wf
  | .thermalGet h => h.wf
  | .thermalConfig h v => h.wf && decide (v < 65536)
  | .powerGet h => h.wf
  | .rideConfig h v => h.wf && decide (v < 65536)
  | .fwInfo h => h.wf
  | .fwWrite h i a bs => h.wf && decide (i < 256) && decide (a < 2 ^ 32) && decide (bs.length ≤ 1016)
  | .fwVerify h i => h.wf && decide (i < 256)
  | .fwActivate h i v => h.wf && decide (i < 256) && decide (v < 256)
  | .regRead h a n => h.wf && decide (a < 2 ^ 32) && decide (n < 256)
  | .regWrite h a v => h.wf && decide (a < 2 ^ 32) && decide (v < 2 ^ 32)
  | .ledgeExit h => h.wf
  | .fuseRead h a n => h.wf && decide (a < 256) && decide (n < 256)
  | .doorbell m n _ t => decide (m < 16) && decide (n < 2 ^ 32) && decide (t < 2 ^ 64)
  | .replyPop m => decide (m < 16)
  | .connectionConfig _ n => decide (n ≤ 4)
  | .connectionReset => true
  | .acquisitionMirrorWrite a v => decide (a < 2 ^ 32) && decide (v < 2 ^ 32)
  | .discovery n => linkOk n
  | .triggerPacket _ t => decide (t < 2 ^ 64)
  | .unsupportedPacket n _ => linkOk n
  | .hostHeartbeat n a t => linkOk n && decide (a < 2 ^ 64) && decide (t < 2 ^ 64)
  | .heartbeatSend t => decide (t < 2 ^ 64)
  | .cxpLinkLost n => linkOk n
  | .cxpLinkRelock n => linkOk n
  | .replyReplay => true
  | .sensRegisterWrite h a v => h.wf && decide (a < 2 ^ 32) && decide (v < 2 ^ 32)
  | .sessTierWrite h a v => h.wf && decide (a < 2 ^ 32) && decide (v < 2 ^ 32)
  | .wdgHostCtrlWrite h v => h.wf && decide (v < 2 ^ 32)
  | .thmConfigWrite h v => h.wf && decide (v < 2 ^ 32)
  | .pwrRideTimerWrite h v => h.wf && decide (v < 2 ^ 32)
  | .sessTelemWrite h a v => h.wf && decide (a < 2 ^ 32) && decide (v < 2 ^ 32)
  | .fuseBlowSelWrite h v => h.wf && decide (v < 2 ^ 32)
  | .fuseBlowWrite h v => h.wf && decide (v < 2 ^ 32)
  | .tbaseNowLoRead h => h.wf
  | .causeStickyClear h v => h.wf && decide (v < 2 ^ 32)
  | .haulHdrErrClear h v => h.wf && decide (v < 2 ^ 32)
  | .haulCrcErrClear h v => h.wf && decide (v < 2 ^ 32)
  | .pipeEccClear h v => h.wf && decide (v < 2 ^ 32)
  | .pstoEccClear h v => h.wf && decide (v < 2 ^ 32)
  | .cxpDiscardsClear h v => h.wf && decide (v < 2 ^ 32)
  | .trigEarlyClear h v => h.wf && decide (v < 2 ^ 32)
  | .encErrCountClear h v => h.wf && decide (v < 2 ^ 32)
  | .fwKeyWrite k t p => decide (k < 65536) && decide (t < 2 ^ 64) && decide (p < 2 ^ 32)
  | .benchRead a => decide (a < 2 ^ 32)
  | .benchWrite a v => decide (a < 2 ^ 32) && decide (v < 2 ^ 32)
  | .jtagBypass => true
  | .jtagIdcode => true
  | .jtagSamplePreload _ _ => true
  | .jtagExtest => true
  | .jtagHighz => true
  | .jtagClamp => true
  | .vlink0Qualified mv => decide (mv < 65536)
  | .resetnAssert _ => true
  | .resetnRelease => true
  | .releaseStepComplete i => decide (i.phases < 16) && decide (i.straps < 2 ^ 32)
  | .releaseGapExpiry => true
  | .releaseStepLimitExpiry => true
  | .stepRetryBackoffExpiry => true
  | .failedStartWaitExpiry => true
  | .bootOk => true
  | .bootTimeout => true
  | .coreOutageEnd => true
  | .powerdownStepComplete => true
  | .powerdownStepLimitExpiry r => decide (r < 16)
  | .railCollapse r => decide (r < 16)
  | .railFaultRestart => true
  | .vlinkDipBringup => true
  | .vlink1Rise mv => decide (mv < 65536)
  | .linkSupplyLost n => decide (n < 2)
  | .rideThroughEntry v t => decide (v < 65536) && decide (t < 2 ^ 64)
  | .vlinkReturn a b v t => decide (a < 65536) && decide (b < 65536) && decide (v < 65536) && decide (t < 2 ^ 64)
  | .rideRetryExpiry v t => decide (v < 65536) && decide (t < 2 ^ 64)
  | .rideEnergyReserve v t => decide (v < 65536) && decide (t < 2 ^ 64)
  | .vholdBelowVmin => true
  | .holdupMeasurementStart v _ => decide (v < 65536)
  | .holdupMeasurementEnd _ => true
  | .phaseFault p k => decide (p < 4) && decide (k < 2)
  | .converterStepTimer _ => true
  | .pllLockLoss _ => true
  | .clockMonitorWindow _ => true
  | .thermalTrip n => decide (0 < n ∧ n < 9)
  | .thermalRestart _ _ => true
  | .thermalSample l t => decide (l.length = 9) && decide (t < 2 ^ 64)
  | .thermalRaiseTimer t => decide (t < 2 ^ 64)
  | .thermalLowerTimer t => decide (t < 2 ^ 64)
  | .fastSamplingEnd => true
  | .compensationUpdate _ _ _ _ => true
  | .aonTrim v => decide (v < 65536)
  | .wakeQualified _ => true
  | .wakeDetectorRearm => true
  | .vshrReady mv t => decide (mv < 65536) && decide (t < 2 ^ 64)
  | .frameS0 t c _ => decide (t < 2 ^ 64) && decide (c < 65536)
  | .frameStartSlot => true
  | .trigEdge p _ t => decide (p < 4) && decide (t < 2 ^ 64)
  | .haulRowReceived r => r.wf
  | .haulRegResp t s d => decide (t < 256) && decide (s < 256) && decide (d < 2 ^ 32)
  | .laneBlockLockLoss n => linkOk n
  | .haulAlmRise => true
  | .haulAlmFall => true
  | .haulAlmTimeout => true
  | .haulTrainingEnd l _ => l.all (fun x => decide (x.lane < 4))
  | .actEventReport c k t => chanOk c && decide (k < 256) && decide (t < 2 ^ 64)
  | .sievePassStart _ _ => true
  | .recordReload => true
  | .scrubUeEventTimer => true
  | .adcCalEnd f => (match f with
    | some n => decide (n < 36)
    | none => true)
  | .seedingEnd a b => decide (a.length = 36) && decide (b.length = 36)
  | .calSettleExpiry t => decide (t < 2 ^ 64)
  | .captureComplete => true
  | .captureFramesTimeout => true
  | .offsetUpdateDone => true
  | .gainUpdateDone => true
  | .autoShutterCal t => decide (t < 2 ^ 64)
  | .shutterInhibitExpiry => true
  | .calsetRecallDone l => l.all (fun n => decide (n < 256))
  | .calsetSaveBlockDone _ => true
  | .calsetSaveEnergyTimeout => true
  | .deferredWaitExpiry a b => decide (a < 16) && decide (b < 256)
  | .actSlotGrant c _ t => chanOk c && decide (t < 2 ^ 64)
  | .actPeakDelayExpiry c => chanOk c
  | .actPeakReached c _ t => chanOk c && decide (t < 2 ^ 64)
  | .actMaxTimeToPeak c _ t => chanOk c && decide (t < 2 ^ 64)
  | .actHoldEntered c t => chanOk c && decide (t < 2 ^ 64)
  | .actDecayTimeout c t => chanOk c && decide (t < 2 ^ 64)
  | .actHoldBandCrossing c _ t => chanOk c && decide (t < 2 ^ 64)
  | .actSwitchOffTime c t => chanOk c && decide (t < 2 ^ 64)
  | .actTurnOffEnd c t => chanOk c && decide (t < 2 ^ 64)
  | .actMotionDip c _ t => chanOk c && decide (t < 2 ^ 64)
  | .actDutyLimitReached c _ t => chanOk c && decide (t < 2 ^ 64)
  | .actSenseFail c t => chanOk c && decide (t < 2 ^ 64)
  | .actShort c t => chanOk c && decide (t < 2 ^ 64)
  | .actHsSenseFail b t => decide (b < 2) && decide (t < 2 ^ 64)
  | .actBankOvercurrent b t => decide (b < 2) && decide (t < 2 ^ 64)
  | .actSupplyLow b _ t => decide (b < 2) && decide (t < 2 ^ 64)
  | .scheduledFireInstant n t => decide (n < 16) && decide (t < 2 ^ 64)
  | .chiselWaitEnd q t => decide (q < 3) && decide (t < 2 ^ 64)
  | .chiselWaitfEnd q t => decide (q < 3) && decide (t < 2 ^ 64)
  | .chiselWaitaEnd q t => decide (q < 3) && decide (t < 2 ^ 64)
  | .chiselWaitiEnd q t => decide (q < 3) && decide (t < 2 ^ 64)
  | .chiselWaitiTimeout q t => decide (q < 3) && decide (t < 2 ^ 64)
  | .chiselInstructionLimit q t => decide (q < 3) && decide (t < 2 ^ 64)
  | .shutterProgramTimeout t => decide (t < 2 ^ 64)
  | .shutterVshrTimeout => true
  | .encLegalTransition _ t => decide (t < 2 ^ 64)
  | .encIllegalTransition t => decide (t < 2 ^ 64)
  | .encLost => true
  | .encIndex t => decide (t < 2 ^ 64)
  | .gangCycle t => decide (t < 2 ^ 64)
  | .gangSyncReceived _ t => decide (t < 2 ^ 64)
  | .gangMessage m => gangIdOk m.id
  | .gangJoinRequest r => gangIdOk r.id
  | .gangJoinListenEnd => true
  | .gangJoinerAligned => true
  | .gangStartPulse t => decide (t < 2 ^ 64)
  | .gangAckMissing n => gangIdOk n
  | .gangSyncMissing => true
  | .gangSlewPeriod => true
  | .wdgKeyALapse _ => true
  | .wdgWarn _ => true
  | .wdgExpiry _ p => decide (p < 2 ^ 32)
  | .wdgCountResetTimer => true
  | .pstoStartupScan => true
  | .pendingEraseResolve _ => true
  | .journalCompaction => true
  | .backgroundStoreRetry v => decide (v < 65536)
  | .pstoEraseResume => true
  | .pstoSectorEraseDone => true
  | .ringSectorErase n => decide (n < 4)
  | .counterRingWrite => true
  | .crcWalk l => l.all (fun n => decide (n < 1024))
  | .crcWalkAbandon => true
  | .logWrite => true
  | .telemetryPeriod n => decide (n < 16)
  | .fwWriteBlockDone _ => true
  | .fwVerifyDone => true
  | .converterOverload _ => true
  | .gangAckReceived n _ => gangIdOk n
  | .gangFreeRunStart t => decide (t < 2 ^ 64)
  | .inFlightEnd a b => decide (a < 16) && decide (b < 256)
  | .aonPowerLoss => true
  | .wdgFwCtrlWrite p t c => decide (p < 2 ^ 32) && decide (t < 2 ^ 64) && decide (c < 2 ^ 32)

end Sys2Proof
end

