-- ==== Sys2Proof/Config.lean ====
section
/-!
DEFINITION. What an implementation fixes and the spec leaves open: free values, each a constant with no body.
-/

namespace Sys2Proof.Config

/-- SHA-256 of a byte string. spec/00_scope.md names the standard and does not restate it (log entry 6). -/
opaque sha256 : List Byte → Nat

/-- ECDSA over P-256: key bytes, r and s bytes, message bytes. Named and not restated by the spec (log entry 6). -/
opaque ecdsaValid : List Byte → List Byte → List Byte → Bool

/-- The factory temperature curve of the reference (R254): correction in 0.01 ppm at a reading of sensor 6 in 1/64 °C. The spec gives no
curve (log entry 158). -/
opaque refCurve : Int → Int

/-- A byte of the compressed device description file, and its length (R501): the spec gives the format's name, at most 32 KiB, and what it
describes (log entry 165). -/
opaque descriptionByte : Nat → BitVec 8
opaque descriptionLength : Nat

/-- The silicon step of the C die, and the bits of IDCODE below 0x1296 (R944): the spec states neither (log entry 168). -/
opaque siliconStep : BitVec 4
opaque idcodeLow : BitVec 12

/-- A 32-bit value the spec leaves open, one per counter value (log entry 2). -/
opaque freeValue : Nat → BitVec 32

end Sys2Proof.Config
end

