-- ==== Sys2Proof/Machine/State.lean ====
section
/-!
DEFINITION. The state of the module as plain data, its reset value, and the reasons a step can stop.
Each field's docstring names the rule that gives it. Log entries: notes/assumptions.
-/

namespace Sys2Proof.Machine

open Sys2Proof

/-- The reasons the machine stops with a fault. -/
inductive Fault where
  /-- Raised by every meaning but those of resets and of the test access port while EXTEST, HIGHZ or CLAMP has put the module's
  functions outside the ratings (R946), where behaviour is not defined (R4). Safe: the model stops where the spec gives no
  behaviour. -/
  | outsideRatings
  deriving DecidableEq, Repr

/-- The reasons a command has no meaning. -/
inductive Refusal where
  /-- An arm of exec that has no meaning yet, by its mnemonic. Safe. No arm answers it. -/
  | notModelled (mnemonic : String)
  deriving DecidableEq, Repr

/-! ## Power and module state (chapters 01, 02, 04) -/

/-- The six module states, the two phases between them, and Off (R35, R36). -/
inductive ModState where
  | bringUp | run | idle | keepWarm | keep | ride | ledge | powerDown | off
  deriving DecidableEq, Repr

/-- The purposes of a reverse walk (R181). -/
inductive Walk where
  | none | ride | keepWarm | keep | system | failedStep | powerDown
  deriving DecidableEq, Repr

/-- A record of PWR.DOWN_FAULT (R246). -/
structure DownFault where
  valid : Bool
  kind  : Nat
  step  : Nat
  order : Nat
  rail  : Nat
  deriving DecidableEq, Repr

/-- The power block. -/
structure Pwr where
  /-- R47 STATE, and Off (R36). -/
  mode : ModState
  /-- R47 PREV. -/
  prev : ModState
  /-- R47 TRANSITIONS, 16 bits. -/
  transitions : Nat
  /-- The reverse walk in progress and the step it is on (R180, R181). -/
  walk : Walk
  walkStep : Nat
  /-- The MODE_SET whose standby entry is in progress (R196, R600). -/
  standbyBy : Option Hdr
  /-- Supplies in mV (R66, R71, R77). -/
  vlink0 : Nat
  vlink1 : Nat
  vhold : Nat
  vshr : Nat
  vactA : Nat
  vactB : Nat
  /-- R245 SHARE. -/
  share : Bool
  /-- R246. -/
  downFault : DownFault
  /-- R247 CMEAS in µF, R245 CMEAS_VALID, R247 ESR in 5 mΩ. -/
  cmeas : Nat
  cmeasValid : Bool
  esr : Nat
  /-- A measurement in progress, with the voltage step in µV at its start (R222, R223). -/
  measuring : Option Nat
  /-- R248. -/
  rideCount : Nat
  rideLast : Nat
  rideTimer : Nat
  /-- State Ride-through was entered from (R198) and the instant (R200). -/
  rideFrom : ModState
  rideStart : Nat
  /-- Instant at which the retry timer of the present Ride-through expires (R205). -/
  rideDue : Nat
  /-- Instant of the return and the energy at it (R211). -/
  rideEndAt : Nat
  rideEndE : Nat
  /-- R249. -/
  convStep : Nat
  phOpen : Nat
  phSense : Nat
  healthy : Nat
  /-- Phases idled at thermal level 3 (R830). -/
  phIdled : Nat
  /-- Step 3 demanded at the end of the frame in transfer (R239, two phases). -/
  convAtFrameEnd : Bool
  deriving DecidableEq, Repr

/-! ## Reset controller (chapter 03) -/

/-- Kinds of start (R117), and the steps 12 to 15 that a return from Ride-through performs (R209). -/
inductive Order where
  | none | powerOn | system | wakeKeep | wakeKeepWarm | rideReturn
  deriving DecidableEq, Repr

/-- What the sequencer waits for outside an order (R136, R146, R147, R188, R189, R265, R837, R185). -/
inductive Waiting where
  | none | failedStart | railFault | thermal | vlinkDip | aonOnly | rideCollapse | clkLoss
  deriving DecidableEq, Repr

/-- The reset controller. -/
structure Rstc where
  /-- R176. -/
  lastStep : Nat
  lastLevel : Nat
  lastCause : Nat
  /-- R177, 16 bits. -/
  sticky : Nat
  /-- R178. -/
  step : Nat
  bootOk : Bool
  failCount : Nat
  optBad : Nat
  ledgeCause : Nat
  /-- R179. -/
  wakeFailStep : Nat
  wakeAttempts : Nat
  wakeRail : Nat
  wakeResult : Bool
  /-- The order in progress (R117), its gap and back-off, and the attempt (R115, R145). -/
  order : Order
  inGap : Bool
  backoff : Bool
  attempt : Nat
  waiting : Waiting
  /-- A SYSTEM order that enters Ledge at step 10 (R790). -/
  ledgeWanted : Bool
  /-- The core is released; a core outage runs, with its cause (R113, R938, R112). -/
  coreUp : Bool
  outage : Bool
  outageCause : Nat
  /-- RESETN held low: the order in progress begins when it rises (R132). -/
  resetnLow : Bool
  /-- Steps 1 to this one have their rails and clocks up (R115, R117, R180). -/
  rails : Nat
  /-- The wake detector armed (R163). -/
  wakeArmed : Bool
  /-- FAULTN once driven: none is the PADMAP state (R97, R155, R841). -/
  faultn : Option Bool
  /-- ALERT and FAULTN are driven: BOOT_OK or Ledge has come since the last order (R97, R840). -/
  padsDriven : Bool
  /-- A thermal shutdown has tripped and the C die still has VIO (R834). -/
  tripVio : Bool
  /-- The last unit reset in progress: unit code and mode (R166, R175). -/
  unitBusy : Option (Nat × Nat)
  deriving DecidableEq, Repr

/-! ## Timebase and clocks (chapter 05) -/

/-- The timebase block. -/
structure Tbase where
  /-- R268, 64 bits; R269: whether it counts. -/
  now : Nat
  running : Bool
  /-- R283. -/
  nowHi : Nat
  /-- R284. -/
  bridged : Bool
  slewing : Bool
  compHold : Bool
  aonCal : Bool
  /-- R285, 0.01 ppm; R256: the first update is still due. -/
  target : Int
  corr : Int
  firstComp : Bool
  /-- R271: the stored value and the AON ticks counted since. -/
  stored : Nat
  standbyTicks : Nat
  /-- R260: the AON trim in force. -/
  aonTrim : Nat
  /-- R818: trims of the detector bias, C die and P die references. -/
  biasTrim : Int
  cdieTrim : Int
  pdieTrim : Int
  /-- R279: per link, host time and TB at receipt. -/
  heartbeats : List (Option (Nat × Nat))
  deriving DecidableEq, Repr

/-! ## Packets, events, sessions (chapters 10 and 11) -/

/-- A reply (R534). -/
structure Reply where
  session : Nat
  tag     : Nat
  opcode  : Nat
  cls     : Nat
  urgent  : Bool
  push    : Bool
  status  : Nat
  result  : List Byte
  deriving DecidableEq, Repr

/-- An event as raised (R536, R542): a completion names its session and TAG; `only` names the one session that an event is for
(R582, R962), `forced` a session that receives it whatever its mask (R739, R962). -/
structure Event where
  code   : Nat
  status : Nat
  target : Option (Nat × Nat)
  only   : Option Nat
  forced : Option Nat
  data   : List Byte
  time   : Nat
  deriving DecidableEq, Repr

/-- A part of a stream's image (R518 to R522). -/
inductive ImagePart where
  /-- The image header: Xsize, Ysize and bits of a monochrome pixel (R519). -/
  | header (xsize ysize bits : Nat)
  /-- The pixel bytes of one row of a frame (R414). -/
  | line (frame row : Nat) (bytes : List Byte)
  /-- The trailer that ends a frame (R417, R520). -/
  | trailer (bytes : List Byte)
  /-- The end marker of a truncated frame (R522). -/
  | endMarker (bytes : List Byte)
  deriving DecidableEq, Repr

/-- What leaves the module, oldest first in `Cxp.tx`. -/
inductive TxItem where
  /-- A pushed or mailbox-level reply (R510, R545). -/
  | reply (r : Reply)
  /-- An event delivered to a session with its SEQ and OVERFLOW (R536). -/
  | event (session seq : Nat) (overflow : Bool) (e : Event)
  /-- A control acknowledgement: 0 done, 1 wait then done, 2 error, 3 address error (R495, R496, R499, R507, R508). -/
  | ack (code : Nat)
  /-- A discovery answer on a link at a rate code (R493). -/
  | discovery (link rate : Nat)
  /-- A trigger packet's acknowledgement (R515). -/
  | triggerAck
  /-- A heartbeat with its stamp (R277). -/
  | heartbeat (link stamp : Nat)
  /-- A part of a stream's image and the link of each of its packets in turn (R518, R521). -/
  | image (stream : Nat) (links : List Nat) (x : ImagePart)
  /-- Gang bus: SYNC with the timebase, START with t, ACK, message, join request (R669, R671). -/
  | gangSync (stamp : Nat)
  | gangStart (t : Nat)
  | gangAck (id : Nat)
  | gangMessage (m : GangMsg) (delays : List Nat)
  | gangJoin (r : GangJoinReq)
  /-- Bench port status, refusal byte and data (R940). -/
  | bench (status refusal : Nat) (data : Option Nat)
  deriving DecidableEq, Repr

/-- What a served command still waits for before its reply. -/
inductive Wait where
  | frameEnd (stream : Nat)
  | slot (ch : Nat)
  | unit (code : Nat)
  | reg
  deriving DecidableEq, Repr

/-- States of an in-flight command (R546, R547). -/
inductive FlightSt where
  | queued
  | waiting (w : Wait)
  | running
  /-- Resource it waits for and the instant its WAIT ends (R576, R579). -/
  | deferred (resource waitEnd arrival : Nat)
  | answered
  | held
  deriving DecidableEq, Repr

/-- An in-flight entry: the header, the command, its state, the reply it holds and its replay mark (R217). -/
structure Flight where
  hdr    : Hdr
  opcode : Nat
  cls    : Nat
  slot   : Bool
  /-- The command while it waits to be served. -/
  cmd    : Option Instr
  st     : FlightSt
  reply  : Option Reply
  replay : Bool
  /-- Instant at which its latest reply was handed over (R217). -/
  sentAt : Nat
  deriving DecidableEq, Repr

/-- One session (R557 to R568). -/
structure Session where
  opened      : Bool
  tier        : Nat
  enabled     : Bool
  clientId    : Nat
  mask        : Nat
  evCount     : Nat
  overflow    : Bool
  undelivered : List Event
  telem       : Nat
  /-- MBOX_STATUS.LAST (R503). -/
  last        : Nat
  deriving DecidableEq, Repr

/-- Sessions, mailboxes and claims. -/
structure Sess where
  list    : List Session
  flights : List Flight
  /-- Claims held: (claim code, session) (R565). -/
  claims  : List (Nat × Nat)
  /-- The first complete command packet after Ride-through or a wake is still due (R212, R783). -/
  firstPacketDue : Bool
  /-- Interim replies marked for replay whose commands have been answered since (R217, R219). -/
  owed    : List Reply
  deriving DecidableEq, Repr

/-- One link (R490, R532). -/
structure Link where
  powered    : Bool
  up         : Bool
  rate       : Nat
  configured : Bool
  deriving DecidableEq, Repr

/-- The CoaXPress block. -/
structure Cxp where
  links    : List Link
  losses   : Nat
  discards : Nat
  /-- Configured rate code and link count (R495). -/
  cfgRate  : Nat
  /-- Mirrors of stream 0 (R500). -/
  width    : Nat
  height   : Nat
  pixfmt   : Nat
  /-- R498 StreamPacketSizeMax. -/
  packetMax : Nat
  tx       : List TxItem
  deriving DecidableEq, Repr

/-- An event that the AON queue holds. `due` names, for an event of a start, the sessions that have not had it yet (R157); any other
event, none, goes out once to those that subscribe (R45). -/
structure HeldEv where
  ev  : Event
  due : Option (List Nat)
  deriving DecidableEq, Repr

/-- AON event queue (R45, R46, R157). -/
structure Aon where
  events   : List HeldEv
  overflow : Bool
  deriving DecidableEq, Repr

/-! ## Streams and readout (chapters 06, 08, 11, 12) -/

/-- A stream (R571, R581, R603, R609) and the counters of its frame in transfer (R417). -/
structure Stream where
  opened    : Bool
  running   : Bool
  owner     : Nat
  cls       : Nat
  pixfmt    : Nat
  route     : Nat
  colStart  : Nat
  colCount  : Nat
  decim     : Nat
  qmask     : Nat
  /-- QMASK in force for the frame (R609). -/
  qApplied  : Nat
  admitSeq  : Nat
  dropped   : Nat
  ovr       : Nat
  replaced  : Nat
  unresolved : Nat
  /-- A frame of this stream is in transfer (rows delivered in `Rd.rowsDone`). -/
  inFrame   : Bool
  /-- Halt at the end of the frame in transfer; close then (R603). -/
  haltDue   : Bool
  closeDue  : Bool
  /-- The link of the route, counted from its lowest, that takes the next packet (R521). -/
  turn      : Nat
  /-- FRAME_SNAP: (session, tag, frames asked, first frame, frames sent) (R608). -/
  snap      : Option (Nat × Nat × Nat × Nat × Nat)
  deriving DecidableEq, Repr

/-- SENS.STATUS.READOUT (R341). -/
inductive RdState where
  | off | disarmed | armed | running | adcCal | seeding
  deriving DecidableEq, Repr

/-- Who armed the readout (R446, R606). -/
inductive ArmedBy where
  | nobody | readoutArm | streamStart | calibration
  /-- A readout that a calibration armed in free-run and that a stream running at the calibration's end keeps (R446). -/
  | calKept
  deriving DecidableEq, Repr

/-- What a frame-start slot fixes for the frame that follows (R304, R307, R396, R403, R408, R413, R480). -/
structure SlotVals where
  int : Nat
  /-- Frame period in force (R300, R307). -/
  period : Nat
  throttled : Bool
  kint : Nat
  kinv : Nat
  dtEff : Int
  bias : Int
  unc : Nat
  mark : Bool
  sharp : Nat
  bypass : Nat
  eps : Nat
  tRefl : Nat
  deriving DecidableEq, Repr

/-- A frame whose S_0 has passed: S_0, the stamp t of its start, FRAME_NUMBER, encoder position, interval, whether it is the first
of the readout, whether a capture takes it, and the streams that carry it (R280, R281, R417, R448, R607). -/
structure FrameInfo where
  s0 : Nat
  t : Nat
  number : Nat
  encPos : Nat
  interval : Nat
  first : Bool
  capture : Bool
  streams : List Nat
  deriving DecidableEq, Repr

/-- The factors of one ADC: its stage weights as one number, its offset and its gain (chapter 06, R322). The spec gives no widths. -/
structure AdcFactors where
  weights : Nat
  offset : Nat
  gain : Nat
  deriving DecidableEq, Repr

/-- The readout. -/
structure Rd where
  /-- R335 to R339, configuration in the C die. -/
  rt : Nat
  int : Nat
  start : Nat
  count : Nat
  period : Nat
  gain : Nat
  /-- INT and P to apply at the next frame-start slot (R304). -/
  pendInt : Option Nat
  pendPeriod : Option Nat
  state : RdState
  armedBy : ArmedBy
  /-- Disarm at the end of the frame in transfer (R603, R41). -/
  disarmDue : Bool
  calAdvised : Bool
  trackLimit : Bool
  throttled : Bool
  fpaValid : Bool
  fpaCode : Nat
  /-- The latest valid code the C die has, and whether it is that of the latest S_0 (R332). -/
  fpaLast : Nat
  fpaFresh : Bool
  /-- The code stage 4 uses and whether it is stale (R24). -/
  fpaUsed : Nat
  fpaStale : Bool
  /-- Focal-plane code at the last ADC_CAL or restoration (R327). -/
  calFpa : Nat
  /-- The latest result of the focal-plane sensor, which converts continuously while the S die has power (R331). -/
  fpaNow : Nat
  /-- Factors of the 36 ADCs: in the ADC block of the S die, and the copy of the C die (R322, R326). -/
  adcBlock : List AdcFactors
  adcCopy : List AdcFactors
  /-- Number of the next frame, latest S_0, grid origin, and whether a frame has begun since the readout was armed (R417, R644). -/
  frameNumber : Nat
  sPrev : Nat
  gridOrigin : Nat
  anyFrame : Bool
  /-- The accepted start not yet begun: S_0, t and FRAME_NUMBER (R644 to R651, R686, R688). -/
  nextS0 : Option (Nat × Nat × Nat)
  /-- What the latest frame-start slot fixed, until its frame is in transfer (R396). -/
  slot : Option SlotVals
  /-- A frame whose S_0 has passed while the last rows of the one before are in transfer. -/
  next : Option FrameInfo
  /-- Of the frame in transfer: number, timestamp, interval, first of the readout, stamp of its start (R417). -/
  frame : Nat
  stamp : Nat
  interval : Nat
  firstFrame : Bool
  trigTb : Nat
  /-- Encoder position at S_0 (R280, R417 ENC_POS). -/
  encPos : Nat
  /-- Throttle: the next accepted start is discarded (R307). -/
  skipNext : Bool
  /-- A frame is in transfer, and its rows received so far (R296). -/
  frameOpen : Bool
  rowsDone : Nat
  linkErr : Bool
  refsubRows : Nat
  refsubFirst : Nat
  refDefault : Bool
  blindNorth : Nat × Nat
  blindSouth : Nat × Nat
  lagLow : Bool
  lagChanged : Bool
  /-- Applied sharpness at the first active row of the frame in transfer (R417 SHARP). -/
  sharpFirst : Nat
  /-- Columns whose sample in the previous converted row carried OVR (R316). -/
  prevOvr : List Nat
  /-- ADC trims in 1/16 LSB and targets: means at the low and high level in 1/16 LSB (R328). -/
  trims : List Int
  targetLow : List Nat
  targetHigh : List Nat
  /-- Test-row sums of the frame: per ADC low count, low sum, high count, high sum (R328). -/
  testSums : List (Nat × Nat × Nat × Nat)
  deriving DecidableEq, Repr

/-- The sender of an upstream lane: its scrambler and its running disparity (R347, R348). -/
structure LaneTx where
  scrambler : BitVec 58
  disparity : Int
  deriving DecidableEq, Repr

/-- The receiver of an upstream lane: its descrambler, and which of its last 64 blocks had an invalid header, newest first (R347,
R367). -/
structure LaneRx where
  scrambler : BitVec 58
  headers : List Bool
  deriving DecidableEq, Repr

/-- A frame of the downstream lane (R354): ROW_GO with the TB stamp it names and the instant in ns at which it is sent (R356). -/
inductive DownFrame where
  | rowGo (stamp sendNs : Nat)
  | arm
  | disarm
  | apply
  | wait
  | fpaRead
  | regRead (tag addr : Nat)
  | regWrite (tag addr data : Nat)
  /-- 0 start, 1 deskew, 2 echo, 3 end of training. -/
  | training (phase : Nat)
  | idle
  deriving DecidableEq, Repr

/-- A register access of a command, or of the Bench port, that goes over the Haul link (R357, R379): its transaction tag, the
address of the next word, the words still to come and those read so far, and the value of a write. -/
structure RegAccess where
  tag   : Nat
  hdr   : Option Hdr
  first : Nat
  addr  : Nat
  left  : Nat
  got   : List Nat
  write : Option Nat
  /-- It came during a reset of HAUL or SENSOR and waits for its end (R379). -/
  late  : Bool
  deriving DecidableEq, Repr

/-- The Haul link (chapter 07). -/
structure Haul where
  state : Nat
  lanesUp : Nat
  lanesFailed : Nat
  alarm : Bool
  retrains : Nat
  hdrErr : List Nat
  crcErr : List Nat
  minRt : Nat
  dsLat : Nat
  /-- Training in progress: 0 none, 1 step 14, 2 unit reset, 3 automatic; the attempt (R359 to R370). -/
  training : Nat
  attempt : Nat
  /-- Register accesses over the link, oldest first; the first four are outstanding (R357). -/
  pendingRegs : List RegAccess
  /-- HAUL_ALM has risen and the retrain waits for its fall (R370). -/
  almWait : Bool
  /-- The priority read of SENS.FPA_TEMP is outstanding (R332). -/
  fpaRead : Bool
  /-- The sideband reset is released (R345, R363). -/
  released : Bool
  /-- Lanes that may not be trained before the next POWER-ON or SYSTEM order or unit reset (R372). -/
  barred : Nat
  /-- The last training of step 14 or of a unit reset ended with no lane, and none has been trained since (R363). -/
  noLane : Bool
  /-- The ends of the four upstream lanes (R347, R348, R367). -/
  tx : List LaneTx
  rx : List LaneRx
  /-- Frames that wait for the downstream lane, the next one first (R354, R355). -/
  down : List DownFrame
  deriving DecidableEq, Repr

/-! ## Coefficient store, pipeline and calibration sets (chapters 08, 09, 17) -/

/-- A pixel record (R389). -/
abbrev Rec := BitVec 80

/-- Parameters of a calibration set (R437). -/
structure SetParams where
  mode : Nat
  intCal : Nat
  tCal : Nat
  tauSub : Nat
  kRate : Int
  uCal : Nat
  cT : Nat
  cX : Nat
  sigmaDef : Nat
  meanDef : Nat
  tempDef : Nat
  refCal : Nat
  bb : List Nat
  deriving DecidableEq, Repr

/-- A store of records: those that differ from `base`, by rising index. -/
structure RecStore where
  base : Rec
  recs : List (Nat × Rec)
  deriving DecidableEq, Repr

/-- A set in the calibration flash (R899 to R902). -/
structure CalSet where
  params : SetParams
  headerOk : Bool
  paramCrcOk : Bool
  /-- 0 absent, 1 valid, 2 invalid (R900). -/
  setState : Nat
  store : RecStore
  /-- Data blocks that are not good (R901). -/
  badBlocks : List Nat
  deriving DecidableEq, Repr

/-- The correction pipeline. -/
structure Pipe where
  /-- R432. -/
  sharp : Nat
  bypass : Nat
  /-- R433; a calibration holds the sharpness at 0 (R447). -/
  sharpApplied : Nat
  calHeld : Bool
  /-- R434 and the reload queue (R425). -/
  ce : Nat
  ue : Nat
  /-- Records that wait for reload, and whether the pipeline found each. -/
  queue : List (Nat × Bool)
  /-- Records whose reload failed: not reloaded before the next recall (R428). -/
  failedRecs : List Nat
  /-- R435. -/
  passes : Nat
  position : Nat
  /-- R436 and the count since the last EV_SCRUB_UE (R430). -/
  ueByPipe : Bool
  ueReloadFailed : Bool
  ueIndex : Nat
  ueSince : Nat
  /-- An EV_SCRUB_UE is due, and when the last one was raised (R430). -/
  ueDue : Bool
  ueLast : Option Nat
  /-- Per-frame values (R396). -/
  kint : Nat
  kinv : Nat
  dtEff : Int
  biasQ : Int
  driftUnc : Nat
  driftMark : Bool
  /-- R413, set and in force for the frame, with the bypass bits in force. -/
  eps : Nat
  tRefl : Nat
  epsApplied : Nat
  tReflApplied : Nat
  bypassApplied : Nat
  /-- REF_q of the last valid row of the readout (R398). -/
  lastRef : Option Int
  /-- a_rep_q of the previous active row: value and validity per column (R410 rule 4). -/
  prevRow : List (Int × Bool)
  /-- The coefficient store and the set in force (R388, R437). -/
  csto : RecStore
  setNo : Nat
  params : SetParams
  changed : Bool
  /-- A recall is running (R24). -/
  recalling : Bool
  /-- The next frame passes stage 5 unchanged after a calibration, and the frame in transfer does (R450). -/
  lagReload : Bool
  lagFirst : Bool
  deriving DecidableEq, Repr

/-- Phases of SHUTTER_CAL and GAIN_CAL (R467). -/
inductive CalPhase where
  | closing | settle | capture | offsetUpdate | opening
  | gClosing | gSettle | gCapture | gOpening | gOpenSettle | gOpenCapture | gUpdate
  deriving DecidableEq, Repr

/-- A calibration in flight (chapter 09). -/
structure Cal where
  gain : Bool
  /-- Instant of acceptance (R473). -/
  start : Nat
  origin : Nat
  tag : Nat
  sigma : Nat
  mean : Nat
  temp : Nat
  phase : CalPhase
  /-- Frames captured in the present capture, and the frame numbers of the first and last ever captured. -/
  frames : Nat
  firstFrame : Nat
  lastFrame : Nat
  firstCapture : Bool
  /-- Per captured frame, per tile: count, sum, sum of squares of stage 4 output (R451). -/
  tiles : List (List (Nat × Int × Nat))
  fpaCodes : List Nat
  dtEffs : List Int
  failed : Nat
  tileFail : Nat
  worstTile : Nat
  worstSigma : Nat
  worstMean : Nat
  temporal : Nat
  rateMax : Nat
  updated : Nat
  excluded : Nat
  driftErr : Int
  status : Nat
  deriving DecidableEq, Repr

/-- The drift estimator (R474a to R483). x, A and u are IEEE 754 doubles held as their 64 bits. -/
structure Drift where
  started : Bool
  x : UInt64
  a : UInt64
  u : UInt64
  lastT : Nat
  codes : List Nat
  taken : Nat
  /-- Latest valid rate sample as the sum of the last 50 codes less that of the 50 before, 5/32 mK/s each (R475), and the rest
  interval in samples (R476). -/
  rate : Option Int
  restSamples : Nat
  lastSample : Nat
  bound : Nat
  /-- u was at or above BOUND when it was last evaluated (R481, R483, R487). -/
  exceeded : Bool
  auto : Bool
  /-- EV_DRIFT_BOUND is armed (R483). -/
  armed : Bool
  /-- The rate samples of the last 500 ms, or since 500 ms before a capture's first S_0 while one runs, oldest first (R453). -/
  rateLog : List Int
  lastAuto : Option Nat
  deriving DecidableEq, Repr

/-- Calibration state. -/
structure CalState where
  cal : Option Cal
  /-- ADC_CAL in flight: (session, tag, status so far, failed ADC). -/
  adcCal : Option (Nat × Nat × Option Nat)
  /-- The shutter inhibit: session and end instant (R486). -/
  inhibit : Option (Nat × Nat)
  drift : Drift
  deriving DecidableEq, Repr

/-! ## Actuators (chapter 14) -/

/-- Phases of a channel (R709, R763). -/
inductive ChPhase where
  | off | boost | decay | hold | turnOff | free
  deriving DecidableEq, Repr

/-- Who asked for a fire. -/
inductive FireSrc where
  | command (session tag : Nat)
  | schedule (handle : Nat)
  | program
  | move
  deriving DecidableEq, Repr

/-- A fire waiting for the slot (R714). -/
structure Fire where
  src     : FireSrc
  hold    : Nat
  asked   : Nat
  restart : Bool
  deriving DecidableEq, Repr

/-- A channel (R705 to R734). -/
structure Chan where
  cfg : ActCfg
  phase : ChPhase
  disabled : Bool
  /-- Driven by the Chisel program rather than a profile. -/
  chisel : Bool
  /-- Low-side path within a regulated phase: on (true) or freewheel, from the tick `lastSwitch` on (R709, R711). -/
  pathOn : Bool
  /-- The present boost has reached its peak: a program's ON then regulates at I_PEAK (R744). -/
  peaked : Bool
  onAt : Nat
  offAt : Nat
  /-- Start of the present interval in which the phase is not off (R726). -/
  busyFrom : Nat
  lastSwitch : Nat
  motion : Bool
  waiting : Option Fire
  /-- Hold level and band a Chisel program set (R744 LEVEL). -/
  level : Nat
  levelBand : Nat
  /-- Intervals in which the phase was not off, oldest first (R726). -/
  onTimes : List (Nat × Nat)
  lastFault : Nat
  lastPeak : Nat
  lastTtp : Nat
  lastDip : Nat
  fires : Nat
  faults : Nat
  deriving DecidableEq, Repr

/-- What a Chisel program waits for (R744). -/
inductive ChWait where
  | none
  | untilTick (tick : Nat)
  | strobes (n : Nat)
  | angle (entry : Nat)
  | current (ch : Nat) (rise : Bool) (level deadline : Nat)
  | slot (ch : Nat)
  deriving DecidableEq, Repr

/-- A Chisel sequencer (R742 to R748). -/
structure Chisel where
  words : List Nat
  loaded : Bool
  run : Bool
  pc : Nat
  timedOut : Bool
  dip : Bool
  loopA : Nat
  loopB : Nat
  mark : Nat
  wait : ChWait
  pfault : Nat
  /-- Channels the program drove and the motion detection armed on one (R744 DIP, R749). -/
  drove : List Nat
  dipArm : Option (Nat × Nat)
  /-- Shutter direction of the last DRIVE. -/
  dir : Nat
  deriving DecidableEq, Repr

/-- A scheduled fire (R735 to R740). -/
structure Schedule where
  handle : Nat
  session : Nat
  ch : Nat
  kind : Nat
  ref : Nat
  value : Nat
  offset : Nat
  hold : Nat
  /-- The fire instant once known (R736). -/
  fireAt : Option Nat
  deriving DecidableEq, Repr

/-- Who asked for a shutter move: SHUTTER_MOVE with its session and TAG, one whose command a core outage has ended (R938), a
calibration, or the parking of R150. -/
inductive MoveBy where
  | command (session tag : Nat)
  | orphan
  | calibration
  | parking
  deriving DecidableEq, Repr

/-- Shutter move requested or in progress (R752 to R757): direction 0 open, 1 close. -/
structure Move where
  dir : Nat
  asker : MoveBy
  asked : Nat
  deriving DecidableEq, Repr

/-- A trailer entry (R419). -/
structure ActEvent where
  time : Nat
  ch   : Nat
  kind : Nat
  late : Bool
  deriving DecidableEq, Repr

/-- The actuator and shutter drive. Channels are numbered 0 to 3 bank A, 4 to 7 bank B, 8 shutter. -/
structure Act where
  chans : List Chan
  bankDisabled : List Bool
  /-- Channel index that holds each bank's peak slot (R712). -/
  slots : List (Option Nat)
  chisels : List Chisel
  schedules : List Schedule
  /-- 0 unknown, 1 open, 2 closed (R754, R766). -/
  position : Nat
  move : Option Move
  vshrWait : Bool
  events : List ActEvent
  deriving DecidableEq, Repr

/-! ## Triggers, encoder, gang (chapter 13) -/

/-- Trigger configuration (every pad named since the last POWER-ON or SYSTEM reset, R96), pad levels and counters. -/
structure Trig where
  cfg : TrigP
  levels : Nat
  gpioLevels : Nat
  accepted : Nat
  early : Nat
  gangId : Nat
  vsel : Nat
  deriving DecidableEq, Repr

/-- The encoder. -/
structure Enc where
  cfg : EncP
  a : Bool
  b : Bool
  position : Nat
  errCount : Nat
  errStamps : List Nat
  zref : Option Nat
  correction : Int
  /-- 0 tracking, 1 LOST, 2 not configured (R699). -/
  state : Nat
  /-- Three illegal transitions have fallen within 100,000 ticks and LOST is not declared yet (R657). -/
  lostDue : Bool
  table : List AngleEntry
  deriving DecidableEq, Repr

/-- Phases of a join (R676 to R679). -/
inductive GangJoining where
  | none
  | listening (session tag : Nat)
  | requested (session tag : Nat)
  /-- Admitted to a gang in this state, and not yet aligned (R679). -/
  | aligning (state : Nat)
  deriving DecidableEq, Repr

/-- The gang logic. -/
structure Gang where
  /-- 0 not a member, 1 IDLE, 2 ARMED, 3 RUNNING (R700). -/
  state : Nat
  leader : Nat
  present : Nat
  agree : Nat
  slips : Nat
  delay : Nat
  offset : Int
  expected : Nat
  rule : Nat
  counter : Nat
  memberDelays : List Nat
  joining : GangJoining
  /-- Slew in progress: advance by 2 (true) or 0 (false) (R273). -/
  slew : Option Bool
  /-- CONFIG disagreement: return to ARMED at the end of the frame (R692). -/
  toArmed : Bool
  /-- The leader's last free-run start stamp (R690). -/
  lastStart : Option Nat
  /-- Members whose CONFIG_HASH is known to differ (R692). -/
  differs : Nat
  /-- The state that the leader's latest message carried (R671, R692). -/
  leaderState : Nat
  /-- A forward step of the timebase is due at the next SYNC (R678, R679). -/
  stepDue : Bool
  deriving DecidableEq, Repr

/-! ## Watchdogs (chapter 15) -/

/-- One watchdog. -/
structure Dog where
  enabled : Bool
  suspended : Bool
  /-- Period in µs in force and the one that applies from the next period (R788). -/
  period : Nat
  nextPeriod : Nat
  start : Nat
  opening : Bool
  /-- T of the running period in ticks. -/
  t : Nat
  /-- Pending KEY_A: session and tick (R773). -/
  keyA : Option (Nat × Nat)
  warned : Bool
  lastServe : Nat
  deriving DecidableEq, Repr

/-- The watchdog block. -/
structure Wdg where
  host : Dog
  fw : Dog
  count : Nat
  rung : Nat
  kind : Nat
  which : Nat
  lastPc : Nat
  lastServeTb : Nat
  violationTb : Nat
  /-- Tick of the core release of the last watchdog-caused CORE reset (R790). -/
  coreRelease : Option Nat
  /-- The evidence is not in the log yet (R803). -/
  unlogged : Bool
  deriving DecidableEq, Repr

/-! ## Thermal management (chapter 16) -/

/-- The thermal block. Readings in 1/64 °C. -/
structure Thm where
  readings : List (Option Int)
  /-- Consecutive bad and good samples per sensor (R813). -/
  bad : List Nat
  good : List Nat
  invalid : Nat
  maxSensor : Nat
  max : Int
  fast : Bool
  warn : Bool
  level : Nat
  lastRaise : Nat
  shutdowns : Nat
  tripValid : Bool
  tripSensor : Nat
  warnLevel : Int
  deriving DecidableEq, Repr

/-! ## Storage (chapters 17, 18) -/

/-- A programmed group of the parameter store: its eight bytes, and whether a double-bit error stands in it (R848, R849, R860). -/
structure Group where
  bytes : List Byte
  ue : Bool
  deriving DecidableEq, Repr

/-- A journal or ring slot: the groups programmed in it so far, in order; none where it is erased (R863, R864, R868, R886). -/
abbrev Slot := List Group

/-- A journal entry, with its SEQ (R861, R862). -/
inductive JEntry where
  | header (generation seq : Nat)
  | eraseStart (sector seq : Nat)
  | eraseDone (sector seq : Nat)
  | writeStart (offset length seq : Nat)
  | writeCommit (offset length seq : Nat)
  | void (offset length seq : Nat)
  | protect (code seq : Nat)
  | run (seq : Nat)
  | cleanOff (seq : Nat)
  deriving DecidableEq, Repr

/-- Background stores that can wait for energy (R230). -/
inductive BgJob where
  | runMarker
  | counters
  /-- A write of ring 0 or ring 2, which needs no energy check and waits for the end of Ride-through alone (R202, R231, R936). -/
  | ring0
  | ring2
  | ringErase (ring : Nat)
  | resolve (marginOk : Bool)
  /-- The new journal of a store whose two headers are lost (R873). -/
  | rebuild
  | compaction
  | log
  deriving DecidableEq, Repr

/-- An erase in progress on behalf of PSTO_ERASE: session, tag, next sector, sectors left, sectors erased. -/
structure EraseJob where
  session : Nat
  tag : Nat
  sector : Nat
  left : Nat
  done : Nat
  deriving DecidableEq, Repr

/-- What the option rows hold (R122): trims in their units, one regulator and one sensor per entry. -/
structure Options where
  serial : Nat
  refTrim : Int
  aonTrim : Nat
  regTrim : List Int
  tsensTrim : List Int
  pllCfg : Nat
  haulEq : Nat
  cxpStart : Nat
  calsetDefault : Nat
  deriving DecidableEq, Repr

/-- The parameter store. -/
structure Psto where
  /-- User-area bytes by offset; an unlisted byte reads 0xFF (R849, R855). -/
  mem : List Host.Cell
  /-- Programmed 8-byte groups of the user area, rising (R853). -/
  groups : List Nat
  /-- The slots of journal sectors 2 and 3 from slot 0 on; slots above those listed are erased (R864). -/
  jsectors : List (List Slot)
  /-- SEQ of the latest journal entry written (R865). -/
  seq : Nat
  protect : Nat
  voids : List (Nat × Nat)
  pendingErase : Option Nat
  scan : Nat
  resolving : Bool
  erasing : Nat
  busy : Bool
  suspended : Bool
  job : Option EraseJob
  /-- PSTO_ERASE commands that wait for the one in progress (R851, R884). -/
  queued : List EraseJob
  /-- Background stores that wait, each with VHOLD in mV when its check failed, or none where Ride-through alone holds it
  (R202, R230). -/
  bg : List (BgJob × Option Nat)
  /-- The slots of rings 0 to 3: 0 to 15 in the first sector of the ring, 16 to 31 in the second; slots above those listed are erased
  (R885, R886). -/
  rings : List (List Slot)
  ce : Nat
  ue : Nat
  ueAddr : Nat
  /-- Groups that hold a single-bit and a double-bit error (R858, R859). -/
  singleBad : List Nat
  doubleBad : List Nat
  /-- The 128 bytes of the two option-row copies, at offset 0 of sectors 0 and 1 (R122, R854). -/
  optA : List Byte
  optB : List Byte
  /-- The trims in force: those of the copy that the last load used, or the built-in defaults (R124, R126). -/
  opt : Options
  deriving DecidableEq, Repr

/-- A firmware image header (R919). -/
structure ImgHdr where
  ok : Bool
  version : Nat × Nat × Nat
  compat : Nat
  length : Nat
  keyDigest : Nat
  deriving DecidableEq, Repr

/-- A firmware image and its directory (R921, R922). -/
structure Image where
  /-- DIR_STATE and VER_STATE: 0 absent, 1 valid, 2 invalid (R921). -/
  dirState : Nat
  verState : Nat
  bytes : List Host.Cell
  written : Nat
  /-- Blocks erased since the offset-0 mark, and blocks tabulated valid (R631, R925). -/
  erased : List Nat
  tabulated : List Nat
  badBlocks : List Nat
  /-- The header of an image placed at the factory, whose bytes are not listed. -/
  factory : Option ImgHdr
  deriving DecidableEq, Repr

/-- A log entry (R947a). -/
structure LogEntry where
  seq : Nat
  code : Nat
  source : Nat
  tb : Nat
  epoch : Nat
  data : List Byte
  crcOk : Bool
  deriving DecidableEq, Repr

/-- A CALSET_SAVE in flight: the block being written (200 stands for the header), whether it waits for energy, and whether its
read-back has failed once (R445, R910, R911). -/
structure SaveJob where
  session : Nat
  tag : Nat
  block : Nat
  waiting : Bool
  retried : Bool
  deriving DecidableEq, Repr

/-- The calibration flash, images, selection and log. -/
structure Cfl where
  sets : List CalSet
  loaded : Nat
  requested : Nat
  lost : Nat
  userValid : Bool
  result : Nat
  /-- Blocks of the set in force whose CRC failed in its recall (R428, R905). -/
  recallLost : List Nat
  walkFails : Nat
  walkPasses : Nat
  walkLast : Nat
  images : List Image
  /-- Running image 0, 1, or 255 the maintenance monitor (R630). -/
  running : Nat
  confirmed : Nat
  nextImg : Nat
  trial : Bool
  activations : Nat
  /-- A CALSET_SELECT recall in flight (session, tag, set); a save in flight;
  an FW_WRITE or FW_VERIFY in flight (session, tag, image). -/
  recalling : Option (Nat × Nat × Nat)
  save : Option SaveJob
  saveCancel : Bool
  /-- Instant the recall or save in flight was accepted (R576). -/
  holdStart : Nat
  fwWrite : Option (Nat × Nat × Nat)
  fwVerify : Option (Nat × Nat × Nat)
  /-- Log: entries in flash, oldest first; buffered entries; next SEQ, CLEAR_SEQ, entries in the active half (R955). -/
  log : List LogEntry
  logBuf : List LogEntry
  logSeq : Nat
  clearSeq : Nat
  half : Nat
  halfUsed : Nat
  deriving DecidableEq, Repr

/-- The fuse array, its shadow and the arming of a blow (R949 to R953). -/
structure Fuse where
  words : List (BitVec 32)
  shadow : List (BitVec 32)
  armed : Option (Nat × Nat)
  deriving DecidableEq, Repr

/-- The test access port and the Bench port (R939 to R948). -/
structure Jtag where
  ir : Nat
  /-- The data register that the last instruction selected, as captured: IDCODE's word, or the single 0 of BYPASS (R943, R944). -/
  dr : BitVec 32
  boundary : Nat
  /-- JTAG_TRSTN driven high; an open land is low, and the port is held in reset (R89). -/
  trstn : Bool
  /-- EXTEST, HIGHZ or CLAMP was selected and no POWER-ON or SYSTEM reset has followed leaving them (R946). -/
  tainted : Bool
  deriving DecidableEq, Repr

/-- The state of the module and the queue of waiting commands. -/
structure State where
  pending : List Instr
  freeCtr : Nat
  pwr : Pwr
  rstc : Rstc
  tb : Tbase
  aon : Aon
  cxp : Cxp
  sess : Sess
  streams : List Stream
  rd : Rd
  haul : Haul
  pipe : Pipe
  cal : CalState
  act : Act
  trig : Trig
  enc : Enc
  gang : Gang
  wdg : Wdg
  thm : Thm
  psto : Psto
  cfl : Cfl
  fuse : Fuse
  jtag : Jtag
  /-- The ten counters of COUNTER_GET, present values (R621). -/
  counters : List Nat
  deriving DecidableEq, Repr

/-! ## Reset: right after a POWER-ON order has begun

Values the spec gives stand with their rule in the field's docstring; every other value is a DESIGN CHOICE of log entry 3,
the storage as shipped of log entry 5. -/

/-- Power block after POWER-ON (R47, R245 to R249). -/
def Pwr.reset : Pwr where
  mode := .bringUp
  prev := .bringUp
  transitions := 0
  walk := .none
  walkStep := 0
  standbyBy := none
  vlink0 := 24000
  vlink1 := 0
  vhold := 0
  vshr := 0
  vactA := 24000
  vactB := 24000
  share := false
  downFault := { valid := false, kind := 0, step := 0, order := 0, rail := 0 }
  cmeas := 0
  cmeasValid := false
  esr := 0
  measuring := none
  rideCount := 0
  rideLast := 0
  rideTimer := 0x0FA
  rideFrom := .idle
  rideStart := 0
  rideDue := 0
  rideEndAt := 0
  rideEndE := 0
  convStep := 0
  phOpen := 0
  phSense := 0
  healthy := 0xF
  phIdled := 0
  convAtFrameEnd := false

/-- Reset controller after POWER-ON (R176 to R179): cause POR at level POWER-ON. -/
def Rstc.reset : Rstc where
  lastStep := 0
  lastLevel := 3
  lastCause := 0
  sticky := 1
  step := 1
  bootOk := false
  failCount := 0
  optBad := 0
  ledgeCause := 0
  wakeFailStep := 0
  wakeAttempts := 0
  wakeRail := 0
  wakeResult := false
  order := .powerOn
  inGap := false
  backoff := false
  attempt := 1
  waiting := .none
  ledgeWanted := false
  coreUp := false
  outage := false
  outageCause := 0
  resetnLow := false
  rails := 0
  wakeArmed := true
  faultn := none
  padsDriven := false
  tripVio := false
  unitBusy := none

/-- Timebase after POWER-ON (R269, R283 to R285). -/
def Tbase.reset : Tbase where
  now := 0
  running := false
  nowHi := 0
  bridged := false
  slewing := false
  compHold := false
  aonCal := false
  target := 0
  corr := 0
  firstComp := true
  stored := 0
  standbyTicks := 0
  aonTrim := 0
  biasTrim := 0
  cdieTrim := 0
  pdieTrim := 0
  heartbeats := [none, none, none, none]

/-- A closed session of a tier (R559). -/
def Session.closed (tier : Nat) (enabled : Bool) : Session where
  opened := false
  tier := tier
  enabled := enabled
  clientId := 0
  mask := 0
  evCount := 0
  overflow := false
  undelivered := []
  telem := 0
  last := 0

/-- Sessions after a POWER-ON or SYSTEM order: the Steward, seven Operators, eight Observers (R559, R589). -/
def Sess.reset : Sess where
  list := Session.closed 0 true :: (List.replicate 7 (Session.closed 2 true) ++ List.replicate 8 (Session.closed 3 true))
  flights := []
  claims := []
  firstPacketDue := false
  owed := []

/-- A link without power (R490). -/
def Link.off : Link where
  powered := false
  up := false
  rate := 0
  configured := false

/-- CoaXPress after POWER-ON or SYSTEM (R532). -/
def Cxp.reset : Cxp where
  links := List.replicate 4 Link.off
  losses := 0
  discards := 0
  cfgRate := 0
  width := 0
  height := 0
  pixfmt := 0
  packetMax := 16384
  tx := []

/-- AON event queue after POWER-ON (R110). -/
def Aon.reset : Aon where
  events := []
  overflow := false

/-- A closed stream (R110, R609). -/
def Stream.reset : Stream where
  opened := false
  running := false
  owner := 0
  cls := 0
  pixfmt := 0
  route := 0
  colStart := 0
  colCount := 0
  decim := 1
  qmask := 0xF
  qApplied := 0xF
  admitSeq := 0
  dropped := 0
  ovr := 0
  replaced := 0
  unresolved := 0
  inFrame := false
  haltDue := false
  closeDue := false
  turn := 0
  snap := none

/-- Factors that no calibration has written yet (log entry 3). -/
def AdcFactors.none : AdcFactors where
  weights := 0
  offset := 0
  gain := 0

/-- The 36 ADCs of a block that holds no factors. -/
def noFactors : List AdcFactors := List.replicate 36 AdcFactors.none

/-- Readout after POWER-ON or SYSTEM (R335 to R341). -/
def Rd.reset : Rd where
  rt := 0x00C8
  int := 3000
  start := 0
  count := 0x400
  period := 0x000334A4
  gain := 0
  pendInt := none
  pendPeriod := none
  state := .off
  armedBy := .nobody
  disarmDue := false
  calAdvised := false
  trackLimit := false
  throttled := false
  fpaValid := false
  fpaCode := 0
  fpaLast := 0
  fpaFresh := false
  fpaUsed := 0
  fpaStale := false
  calFpa := 0
  fpaNow := 0
  adcBlock := noFactors
  adcCopy := noFactors
  frameNumber := 0
  sPrev := 0
  gridOrigin := 0
  anyFrame := false
  nextS0 := none
  slot := none
  next := none
  frame := 0
  stamp := 0
  interval := 0
  firstFrame := true
  trigTb := 0
  encPos := 0
  skipNext := false
  frameOpen := false
  rowsDone := 0
  linkErr := false
  refsubRows := 0
  refsubFirst := 0
  refDefault := false
  blindNorth := (0, 0)
  blindSouth := (0, 0)
  lagLow := false
  lagChanged := false
  sharpFirst := 0
  prevOvr := []
  trims := List.replicate 36 0
  targetLow := List.replicate 36 0
  targetHigh := List.replicate 36 0
  testSums := List.replicate 36 (0, 0, 0, 0)

/-- A lane's sender before its first block; the spec gives no start value (DESIGN CHOICE, log entry 163). -/
def LaneTx.fresh : LaneTx where
  scrambler := 0
  disparity := 0

/-- A lane's receiver before its first block (log entry 163). -/
def LaneRx.fresh : LaneRx where
  scrambler := 0
  headers := []

/-- Haul link after POWER-ON or SYSTEM (R384 to R387). -/
def Haul.reset : Haul where
  state := 0
  lanesUp := 0
  lanesFailed := 0
  alarm := false
  retrains := 0
  hdrErr := [0, 0, 0, 0]
  crcErr := [0, 0, 0, 0]
  minRt := 0x00C8
  dsLat := 0
  training := 0
  attempt := 0
  pendingRegs := []
  almWait := false
  fpaRead := false
  released := false
  barred := 0
  noLane := false
  tx := List.replicate 4 LaneTx.fresh
  rx := List.replicate 4 LaneRx.fresh
  down := []

/-- A blackbody table that rises by 64 TEMP16 codes a knot: the shipped table is not in the spec. -/
def SetParams.shipped (mode int : Nat) : SetParams where
  mode := mode
  intCal := int
  tCal := 0x7A40
  tauSub := 6000
  kRate := 0
  uCal := 25
  cT := 480
  cX := 800
  sigmaDef := 0
  meanDef := 0
  tempDef := 0
  refCal := 0
  bb := (List.range 513).map (fun k => 8000 + 64 * k)

/-- A store whose every record is `base`. -/
def RecStore.all (base : Rec) : RecStore where
  base := base
  recs := []

/-- Pipeline after POWER-ON or SYSTEM (R413, R432 to R436). -/
def Pipe.reset : Pipe where
  sharp := 0x100
  bypass := 0
  sharpApplied := 0
  calHeld := false
  ce := 0
  ue := 0
  queue := []
  failedRecs := []
  passes := 0
  position := 0
  ueByPipe := false
  ueReloadFailed := false
  ueIndex := 0
  ueSince := 0
  ueDue := false
  ueLast := none
  kint := 4096
  kinv := 4096
  dtEff := 0
  biasQ := 0
  driftUnc := 0
  driftMark := false
  eps := 1000
  tRefl := 9381
  epsApplied := 1000
  tReflApplied := 9381
  bypassApplied := 0
  lastRef := none
  prevRow := []
  csto := RecStore.all 0
  setNo := 0
  params := SetParams.shipped 0 3000
  changed := false
  recalling := false
  lagReload := false
  lagFirst := false

/-- Drift estimator before its first sample (R474a, R482). -/
def Drift.reset : Drift where
  started := false
  x := 0
  a := 0
  u := 0
  lastT := 0
  codes := []
  taken := 0
  rate := none
  restSamples := 0
  lastSample := 0
  bound := 150
  exceeded := false
  auto := false
  armed := true
  rateLog := []
  lastAuto := none

/-- Calibration state at reset. -/
def CalState.reset : CalState where
  cal := none
  adcCal := none
  inhibit := none
  drift := Drift.reset

/-- A channel configuration of zeros, mode off (R708). -/
def ActCfg.off : ActCfg where
  mode := 0
  retrigger := 0
  iPeak := 0
  iHold := 0
  band := 0
  minPeak := 0
  maxPeak := 0
  dipStart := 0
  dipEnd := 0
  peakDelay := 0
  dutyLimit := 0
  dutyWindow := 0
  defHold := 0

/-- A channel with its switch off (R708). -/
def Chan.reset : Chan where
  cfg := ActCfg.off
  phase := .off
  disabled := false
  chisel := false
  pathOn := false
  peaked := false
  onAt := 0
  offAt := 0
  busyFrom := 0
  lastSwitch := 0
  motion := false
  waiting := none
  level := 0
  levelBand := 0
  onTimes := []
  lastFault := 0
  lastPeak := 0
  lastTtp := 0
  lastDip := 0
  fires := 0
  faults := 0

/-- The shutter channel after a POWER-ON or SYSTEM order (R708). -/
def Chan.shutter : Chan :=
  { Chan.reset with
    cfg := { mode := 1, retrigger := 0, iPeak := 1200, iHold := 300, band := 100, minPeak := 14000, maxPeak := 30000,
             dipStart := 4000, dipEnd := 14000, peakDelay := 0, dutyLimit := 200, dutyWindow := 10000, defHold := 40000 } }

/-- A sequencer with its program cleared (R110). -/
def Chisel.reset : Chisel where
  words := List.replicate 512 0
  loaded := false
  run := false
  pc := 0
  timedOut := false
  dip := false
  loopA := 0
  loopB := 0
  mark := 0
  wait := .none
  pfault := 0
  drove := []
  dipArm := none
  dir := 0

/-- Actuators after POWER-ON or SYSTEM (R708, R766). -/
def Act.reset : Act where
  chans := List.replicate 8 Chan.reset ++ [Chan.shutter]
  bankDisabled := [false, false]
  slots := [none, none]
  chisels := List.replicate 3 Chisel.reset
  schedules := []
  position := 0
  move := none
  vshrWait := false
  events := []

/-- Trigger configuration with no pad configured (R95). -/
def TrigP.reset : TrigP where
  pads := 0
  dirs := 0
  source := 0
  mode := 0
  edge := 0
  filter := 0
  func0 := 0
  func1 := 0
  func2 := 0
  func3 := 0
  gpio := 0
  gpioDir := 0
  gpioOut := 0

/-- Triggers after POWER-ON; the straps as open lands read them (R85, R695). -/
def Trig.reset : Trig where
  cfg := TrigP.reset
  levels := 0
  gpioLevels := 0
  accepted := 0
  early := 0
  gangId := 7
  vsel := 1

/-- Encoder after POWER-ON or SYSTEM (R663, R697 to R699); a pair left open reads 1 (R91). -/
def Enc.reset : Enc where
  cfg := { mode := 0, invert := 0, clearZ := 0, cpr := 0, preset := 0 }
  a := true
  b := true
  position := 0
  errCount := 0
  errStamps := []
  zref := none
  correction := 0
  state := 2
  lostDue := false
  table := List.replicate 64 { position := 0, action := 1, handle := 0xFF }

/-- Gang logic after POWER-ON or SYSTEM (R700 to R702). -/
def Gang.reset : Gang where
  state := 0
  leader := 0
  present := 0
  agree := 0
  slips := 0
  delay := 0
  offset := 0
  expected := 0
  rule := 0
  counter := 0
  memberDelays := List.replicate 8 0
  joining := .none
  slew := none
  toArmed := false
  lastStart := none
  differs := 0
  leaderState := 0
  stepDue := false

/-- A watchdog that is disabled. -/
def Dog.reset (period : Nat) : Dog where
  enabled := false
  suspended := false
  period := period
  nextPeriod := period
  start := 0
  opening := false
  t := period * 100
  keyA := none
  warned := false
  lastServe := 0

/-- Watchdogs after POWER-ON (R767, R805 to R810). -/
def Wdg.reset : Wdg where
  host := Dog.reset 1000000
  fw := Dog.reset 500000
  count := 0
  rung := 0
  kind := 0
  which := 0
  lastPc := 0
  lastServeTb := 0
  violationTb := 0
  coreRelease := none
  unlogged := false

/-- Thermal block after POWER-ON (R844 to R847). -/
def Thm.reset : Thm where
  readings := List.replicate 9 none
  bad := List.replicate 9 0
  good := List.replicate 9 0
  invalid := 0
  maxSensor := 0
  max := 0
  fast := false
  warn := false
  level := 0
  lastRaise := 0
  shutdowns := 0
  tripValid := false
  tripSensor := 0
  warnLevel := 0x21C0

/-- The active journal sector as shipped: a HEADER of generation 1 and a clean-off marker (R862, R864). -/
def journalShipped : List Slot :=
  [[{ bytes := [0x01#8, 0x00#8, 0x00#8, 0x00#8, 0x01#8, 0x00#8, 0x00#8, 0x00#8], ue := false },
      { bytes := [0x00#8, 0x00#8, 0x00#8, 0x00#8, 0x9E#8, 0x8A#8, 0xDA#8, 0x2C#8], ue := false }],
   [{ bytes := [0x09#8, 0x00#8, 0x00#8, 0x00#8, 0x00#8, 0x00#8, 0x00#8, 0x00#8], ue := false },
      { bytes := [0x01#8, 0x00#8, 0x00#8, 0x00#8, 0x9B#8, 0x9B#8, 0xC0#8, 0x5E#8], ue := false }]]

/-- The built-in default trims that a start with no accepted copy goes on with (R126). The spec gives no values: every trim 0,
discovery at CXP-1 and the Sensitive set are DESIGN CHOICE, log entry 157. -/
def Options.builtIn : Options where
  serial := 0
  refTrim := 0
  aonTrim := 0
  regTrim := List.replicate 16 0
  tsensTrim := List.replicate 9 0
  pllCfg := 0
  haulEq := 0
  cxpStart := 1
  calsetDefault := 0

/-- An option-row copy as shipped (R122): trims of 0, CXP-1, Sensitive, with the CRC over its first 124 bytes. -/
def optRowShipped : List Byte :=
  [0x31#8, 0x54#8, 0x50#8, 0x4F#8, 0x01#8, 0x00#8, 0x80#8, 0x00#8] ++ List.replicate 50 0#8 ++ [0x01#8, 0x00#8] ++ List.replicate 64 0#8
    ++ [0xA3#8, 0x74#8, 0xEA#8, 0x23#8]

/-- Parameter store as shipped: user area erased, option rows accepted with no trims, a journal that ends with the
clean-off marker (R914 to R916). -/
def Psto.reset : Psto where
  mem := []
  groups := []
  jsectors := [journalShipped, []]
  seq := 1
  protect := 0
  voids := []
  pendingErase := none
  scan := 0
  resolving := false
  erasing := 0xFF
  busy := false
  suspended := false
  job := none
  queued := []
  bg := []
  rings := List.replicate 4 []
  ce := 0
  ue := 0
  ueAddr := 0
  singleBad := []
  doubleBad := []
  optA := optRowShipped
  optB := optRowShipped
  opt := Options.builtIn

/-- A factory set as shipped. -/
def CalSet.shipped (mode int : Nat) : CalSet where
  params := SetParams.shipped mode int
  headerOk := true
  paramCrcOk := true
  setState := 1
  store := RecStore.all 0
  badBlocks := []

/-- An image with nothing written. -/
def Image.empty : Image where
  dirState := 0
  verState := 0
  bytes := []
  written := 0
  erased := []
  tabulated := []
  badBlocks := []
  factory := none

/-- Image A as placed at the factory. -/
def Image.shipped : Image :=
  { Image.empty with
    dirState := 1
    verState := 1
    factory := some { ok := true, version := (3, 2, 0), compat := 1, length := 1048576, keyDigest := 1 } }

/-- The calibration flash as shipped: three factory sets, no user set, image A verified and running (R917, R918). -/
def Cfl.reset : Cfl where
  sets := [CalSet.shipped 0 3000, CalSet.shipped 1 1200, CalSet.shipped 2 400,
    { CalSet.shipped 0 3000 with setState := 0, headerOk := false }]
  loaded := 0
  requested := 0
  lost := 0
  userValid := false
  result := 0
  recallLost := []
  walkFails := 0
  walkPasses := 0
  walkLast := 0x3FF
  images := [Image.shipped, Image.empty]
  running := 0
  confirmed := 0
  nextImg := 0
  trial := false
  activations := 0
  recalling := none
  save := none
  saveCancel := false
  holdStart := 0
  fwWrite := none
  fwVerify := none
  log := []
  logBuf := []
  logSeq := 0
  clearSeq := 0
  half := 0
  halfUsed := 0

/-- Fuse words as shipped: every fuse unblown but one bit of KEYHASH, the digest of the shipped image's key. -/
def Fuse.reset : Fuse where
  words := [0, 0, 1] ++ List.replicate 61 0
  shadow := [0, 0, 1] ++ List.replicate 61 0
  armed := none

/-- Test access port after POWER-ON: IDCODE (R943). -/
def Jtag.reset : Jtag where
  ir := 1
  dr := 0
  boundary := 0
  trstn := true
  tainted := false

/-- The machine right after a POWER-ON order has begun. Log entry 7 says how commands come to run from here. -/
def State.reset : State where
  pending := []
  freeCtr := 0
  pwr := Pwr.reset
  rstc := Rstc.reset
  tb := Tbase.reset
  aon := Aon.reset
  cxp := Cxp.reset
  sess := Sess.reset
  streams := List.replicate 16 Stream.reset
  rd := Rd.reset
  haul := Haul.reset
  pipe := Pipe.reset
  cal := CalState.reset
  act := Act.reset
  trig := Trig.reset
  enc := Enc.reset
  gang := Gang.reset
  wdg := Wdg.reset
  thm := Thm.reset
  psto := Psto.reset
  cfl := Cfl.reset
  fuse := Fuse.reset
  jtag := Jtag.reset
  counters := 1 :: List.replicate 9 0

end Sys2Proof.Machine
end

