-- ==== Sys2Proof/Machine/Ops.lean ====
section
/-!
DEFINITION. The named operations every meaning is built from: bytes and CRC, time, events, replies, in-flight entries, the
checks every command passes (spec/11_command_packets_and_sessions.md) and the module state.
-/

namespace Sys2Proof.Machine

open Sys2Proof

/-- What a meaning answers. -/
abbrev Out := Host.Outcome State Fault Refusal

/-- Every meaning but those of resets and of the test access port: the effect, or the stop outside the ratings (R4, R946). -/
def live (s : State) (f : State → State) : Out :=
  if s.jtag.tainted then .fault .outsideRatings else .next (f s)

/-! ## Replacing one part of the state -/

/-- The state with `pwr` replaced by a function of it. -/
def State.onPwr (f : Pwr → Pwr) (s : State) : State := { s with pwr := f s.pwr }

/-- The state with `rstc` replaced by a function of it. -/
def State.onRstc (f : Rstc → Rstc) (s : State) : State := { s with rstc := f s.rstc }

/-- The state with `tb` replaced by a function of it. -/
def State.onTb (f : Tbase → Tbase) (s : State) : State := { s with tb := f s.tb }

/-- The state with `aon` replaced by a function of it. -/
def State.onAon (f : Aon → Aon) (s : State) : State := { s with aon := f s.aon }

/-- The state with `cxp` replaced by a function of it. -/
def State.onCxp (f : Cxp → Cxp) (s : State) : State := { s with cxp := f s.cxp }

/-- The state with `sess` replaced by a function of it. -/
def State.onSess (f : Sess → Sess) (s : State) : State := { s with sess := f s.sess }

/-- The state with `streams` replaced by a function of it. -/
def State.onStreams (f : List Stream → List Stream) (s : State) : State := { s with streams := f s.streams }

/-- The state with `rd` replaced by a function of it. -/
def State.onRd (f : Rd → Rd) (s : State) : State := { s with rd := f s.rd }

/-- The state with `haul` replaced by a function of it. -/
def State.onHaul (f : Haul → Haul) (s : State) : State := { s with haul := f s.haul }

/-- The state with `pipe` replaced by a function of it. -/
def State.onPipe (f : Pipe → Pipe) (s : State) : State := { s with pipe := f s.pipe }

/-- The state with `cal` replaced by a function of it. -/
def State.onCal (f : CalState → CalState) (s : State) : State := { s with cal := f s.cal }

/-- The state with `act` replaced by a function of it. -/
def State.onAct (f : Act → Act) (s : State) : State := { s with act := f s.act }

/-- The state with `trig` replaced by a function of it. -/
def State.onTrig (f : Trig → Trig) (s : State) : State := { s with trig := f s.trig }

/-- The state with `enc` replaced by a function of it. -/
def State.onEnc (f : Enc → Enc) (s : State) : State := { s with enc := f s.enc }

/-- The state with `gang` replaced by a function of it. -/
def State.onGang (f : Gang → Gang) (s : State) : State := { s with gang := f s.gang }

/-- The state with `wdg` replaced by a function of it. -/
def State.onWdg (f : Wdg → Wdg) (s : State) : State := { s with wdg := f s.wdg }

/-- The state with `thm` replaced by a function of it. -/
def State.onThm (f : Thm → Thm) (s : State) : State := { s with thm := f s.thm }

/-- The state with `psto` replaced by a function of it. -/
def State.onPsto (f : Psto → Psto) (s : State) : State := { s with psto := f s.psto }

/-- The state with `cfl` replaced by a function of it. -/
def State.onCfl (f : Cfl → Cfl) (s : State) : State := { s with cfl := f s.cfl }

/-- The state with `fuse` replaced by a function of it. -/
def State.onFuse (f : Fuse → Fuse) (s : State) : State := { s with fuse := f s.fuse }

/-- The state with `jtag` replaced by a function of it. -/
def State.onJtag (f : Jtag → Jtag) (s : State) : State := { s with jtag := f s.jtag }

/-- The state with `counters` replaced by a function of it. -/
def State.onCounters (f : List Nat → List Nat) (s : State) : State := { s with counters := f s.counters }

/-! ## Numbers and bytes (R8) -/

/-- The low `k` bytes of a number, least significant first (R8). -/
def le : Nat → Nat → List Byte
  | 0, _ => []
  | k + 1, v => BitVec.ofNat 8 v :: le k (v / 256)

/-- The number that bytes spell, least significant first (R8). -/
def ofLe : List Byte → Nat
  | [] => 0
  | b :: bs => b.toNat + 256 * ofLe bs

/-- The nearest signed number of `w` bits (R8, saturation). -/
def saturate (w : Nat) (v : Int) : Int :=
  if v < -((2 ^ (w - 1) : Nat) : Int) then -((2 ^ (w - 1) : Nat) : Int)
  else if ((2 ^ (w - 1) : Nat) : Int) ≤ v then ((2 ^ (w - 1) : Nat) : Int) - 1
  else v

/-- Two's complement in `k` bytes, saturating (R8). -/
def leInt (k : Nat) (v : Int) : List Byte := le k (saturate (8 * k) v % ((256 ^ k : Nat) : Int)).toNat

/-- Two's complement of a `w`-bit number (R8). -/
def signed (w v : Nat) : Int := if v % 2 ^ w < 2 ^ (w - 1) then (v % 2 ^ w : Nat) else ((v % 2 ^ w : Nat) : Int) - (2 ^ w : Nat)

/-- The `w`-bit field that a signed number takes, saturating (R8). -/
def field (w : Nat) (v : Int) : Nat := (saturate w v % ((2 ^ w : Nat) : Int)).toNat

/-- Quotient rounded half away from zero (R8). -/
def roundDiv (a b : Nat) : Nat := (2 * a + b) / (2 * b)

/-- Signed quotient rounded half away from zero (R8). -/
def roundDivI (a : Int) (b : Nat) : Int := if a < 0 then -(roundDiv a.natAbs b : Int) else (roundDiv a.natAbs b : Int)

/-- Quotient rounded up. -/
def ceilDiv (a b : Nat) : Nat := (a + b - 1) / b

/-- Nearest value between two ends (R8). -/
def clamp (lo hi v : Int) : Int := if v < lo then lo else if hi < v then hi else v

/-- A count that stops at its largest value. -/
def satAdd (top v n : Nat) : Nat := if top < v + n then top else v + n

/-- 0 or 1. -/
def bit (b : Bool) : Nat := if b then 1 else 0

/-- One bit of the reflected IEEE 802.3 division (R537). -/
def crcBit (c : BitVec 32) : BitVec 32 := if c.getLsbD 0 then (c >>> 1) ^^^ 0xEDB88320#32 else c >>> 1

/-- One byte of it. -/
def crcByte (c : BitVec 32) (b : Byte) : BitVec 32 :=
  crcBit (crcBit (crcBit (crcBit (crcBit (crcBit (crcBit (crcBit (c ^^^ b.zeroExtend 32))))))))

/-- The CRC-32 of NCP (R537). -/
def crc32 (bs : List Byte) : BitVec 32 := ~~~ (bs.foldl crcByte 0xFFFFFFFF#32)

/-- The number that `n` bytes spell from an offset on. -/
def bytesAt (bs : List Byte) (off n : Nat) : Nat := ofLe ((bs.drop off).take n)

/-! ## Reading the journal and the slot rings (R860 to R864, R876, R885 to R887) -/

/-- The bytes of a slot all of whose `n` groups are programmed; none of one cut short or with a double-bit error (R860). -/
def Slot.bytes (n : Nat) (s : Slot) : Option (List Byte) :=
  if s.length = n && s.all (fun g => !g.ue) then some ((s.map Group.bytes).flatten) else none

/-- The entry that 16 bytes spell; none where the CRC does not match or the TYPE is another (R861 to R863). -/
def JEntry.ofBytes (b : List Byte) : Option JEntry :=
  let sector := bytesAt b 1 1
  let length := bytesAt b 2 2
  let arg := bytesAt b 4 4
  let seq := bytesAt b 8 4
  if bytesAt b 12 4 = (crc32 (b.take 12)).toNat then
    match bytesAt b 0 1 with
    | 1 => some (.header arg seq)
    | 2 => some (.eraseStart sector seq)
    | 3 => some (.eraseDone sector seq)
    | 4 => some (.writeStart arg length seq)
    | 5 => some (.writeCommit arg length seq)
    | 6 => some (.void arg length seq)
    | 7 => some (.protect arg seq)
    | 8 => some (.run seq)
    | 9 => some (.cleanOff seq)
    | _ => none
  else none

/-- The valid entry of a journal slot (R860, R863). -/
def Slot.entry (s : Slot) : Option JEntry := (Slot.bytes 2 s).bind JEntry.ofBytes

/-- The generation of a HEADER. -/
def JEntry.generation : JEntry → Option Nat
  | .header g _ => some g
  | .eraseStart _ _ => none
  | .eraseDone _ _ => none
  | .writeStart _ _ _ => none
  | .writeCommit _ _ _ => none
  | .void _ _ _ => none
  | .protect _ _ => none
  | .run _ => none
  | .cleanOff _ => none

/-- The generation of journal sector 2 + `k`; none where its slot 0 holds no valid HEADER (R864). -/
def Psto.generation (p : Psto) (k : Nat) : Option Nat :=
  ((((p.jsectors.getD k []).head?).bind Slot.entry)).bind JEntry.generation

/-- The active journal sector, 0 for sector 2 and 1 for sector 3: the one with the larger generation (R864, R873). -/
def Psto.active (p : Psto) : Option Nat :=
  match p.generation 0, p.generation 1 with
  | none, none => none
  | some _, none => some 0
  | none, some _ => some 1
  | some a, some b => some (if a < b then 1 else 0)

/-- The slots of the active sector. -/
def Psto.sectorSlots (p : Psto) : List Slot := p.jsectors.getD (p.active.getD 0) []

/-- The first slot after the last one that holds any programmed group (R864). -/
def Psto.used (p : Psto) : Nat := (p.sectorSlots.reverse.dropWhile List.isEmpty).length

/-- The valid entries of the active sector, oldest first (R863, R864). -/
def Psto.journal (p : Psto) : List JEntry :=
  match p.active with
  | none => []
  | some _ => (p.sectorSlots.drop 1).filterMap Slot.entry

/-- SEQ and payload of a valid slot of ring `k`: MAGIC, CRC and COMMIT are correct (R860, R886, R887). -/
def Slot.ring (k : Nat) (s : Slot) : Option (Nat × List Byte) :=
  match Slot.bytes 16 s with
  | none => none
  | some b =>
    if bytesAt b 0 4 = 0x534C4F30 + k && bytesAt b 120 4 = (crc32 (b.take 120)).toNat && bytesAt b 124 4 = 0x5A5A5A5A then
      some (bytesAt b 4 4, (b.drop 8).take 112)
    else none

/-- First sector of a ring (R885). -/
def ringSector (ring : Nat) : Nat := 4 + 2 * ring

/-- Number, SEQ and payload of the valid slots of a ring; none lies in a sector with a pending erase (R876, R887). -/
def Psto.ringSlots (p : Psto) (k : Nat) : List (Nat × Nat × List Byte) :=
  (((p.rings.getD k []).mapIdx (fun i s => (Slot.ring k s).map (fun r => (i, r)))).filterMap id).filter
    (fun x => p.pendingErase ≠ some (ringSector k + x.1 / 16))

/-- The valid slot of a ring with the highest SEQ (R887). -/
def Psto.inForce (p : Psto) (k : Nat) : Option (Nat × Nat × List Byte) :=
  match p.ringSlots k with
  | [] => none
  | x :: xs => some (xs.foldl (fun a b => if a.2.1 < b.2.1 then b else a) x)

/-- The payload of a ring; all zeros where no slot is valid (R887). -/
def Psto.payload (p : Psto) (k : Nat) : List Byte := ((p.inForce k).map (fun x => x.2.2)).getD (List.replicate 112 0#8)

/-- Ring 0: the failed-start count and the watchdog reset count (R885). -/
def Psto.ringFail (p : Psto) : Nat := bytesAt (p.payload 0) 0 1
def Psto.ringWdg (p : Psto) : Nat := bytesAt (p.payload 0) 1 1

/-- Ring 1: the ten counters (R885). -/
def Psto.ringCounters (p : Psto) : List Nat := (List.range 10).map (fun i => bytesAt (p.payload 1) (4 * i) 4)

/-! ## Sparse bytes in canonical form: addresses rise, nothing equal to 0xFF is listed -/

/-- The byte at an address; an unlisted one reads erased (R849). -/
def cellGet : List Host.Cell → Nat → Byte
  | [], _ => 0xFF#8
  | (a, b) :: rest, x => if a = x then b else cellGet rest x

/-- Adds or replaces a byte, or removes it when it is 0xFF. -/
def cellSet : List Host.Cell → Nat → Byte → List Host.Cell
  | [], x, v => if v = 0xFF#8 then [] else [(x, v)]
  | (a, b) :: rest, x, v =>
    if x < a then (if v = 0xFF#8 then (a, b) :: rest else (x, v) :: (a, b) :: rest)
    else if x = a then (if v = 0xFF#8 then rest else (x, v) :: rest)
    else (a, b) :: cellSet rest x v

/-- Bytes from an address upward. -/
def cellSetRun : List Host.Cell → Nat → List Byte → List Host.Cell
  | m, _, [] => m
  | m, a, v :: vs => cellSetRun (cellSet m a v) (a + 1) vs

/-- Removes every byte of a range: an erase (R849). -/
def cellErase (m : List Host.Cell) (lo len : Nat) : List Host.Cell := m.filter (fun c => c.1 < lo || lo + len ≤ c.1)

/-- `n` bytes from an address upward. -/
def cellRun (m : List Host.Cell) (a n : Nat) : List Byte := (List.range n).map (fun k => cellGet m (a + k))

/-- Every address listed is at least `lo`, addresses rise, and no byte is 0xFF. -/
def cellsFrom : Nat → List Host.Cell → Bool
  | _, [] => true
  | lo, (a, b) :: rest => decide (lo ≤ a) && decide (b ≠ 0xFF#8) && cellsFrom (a + 1) rest

/-- The canonical form of a sparse memory. -/
def Memory.wf (m : List Host.Cell) : Bool := cellsFrom 0 m

/-! ## Status codes (R535) -/

def stOk : Nat := 0x00
def stAccepted : Nat := 0x01
def stDeferred : Nat := 0x02
def stBusy : Nat := 0x10
def stCapacity : Nat := 0x11
def stOwnership : Nat := 0x12
def stState : Nat := 0x13
def stWindow : Nat := 0x14
def stRecall : Nat := 0x15
def stProtect : Nat := 0x16
def stEnergy : Nat := 0x17
def stThermal : Nat := 0x18
def stPrivilege : Nat := 0x19
def stErrCrc : Nat := 0x20
def stErrLength : Nat := 0x21
def stErrOpcode : Nat := 0x22
def stErrParam : Nat := 0x23
def stFailHw : Nat := 0x30
def stFailAborted : Nat := 0x31
def stFailFenced : Nat := 0x32
def stFailCal : Nat := 0x33
def stFailVerify : Nat := 0x34

/-! ## Time -/

/-- Time has reached a tick. It never goes back while the timebase runs (R270), and does not move before step 8 (R269). -/
def Tbase.reach (t : Nat) (b : Tbase) : Tbase := if b.running then { b with now := max b.now t } else b

/-- The state at a tick. -/
def State.atTick (t : Nat) (s : State) : State := s.onTb (Tbase.reach t)

/-- The present tick. -/
def State.now (s : State) : Nat := s.tb.now

/-- Ticks of a number of microseconds (R8). -/
def usTicks (us : Nat) : Nat := us * 100

/-- Ticks of a number of milliseconds (R8). -/
def msTicks (ms : Nat) : Nat := ms * 100000

/-! ## The module state (R36, R47, R48) -/

/-- Code of PWR.STATE.STATE (R47); Off has none and is given the last one. -/
def modeCode : ModState → Nat
  | .bringUp => 0
  | .run => 1
  | .idle => 2
  | .keepWarm => 3
  | .keep => 4
  | .ride => 5
  | .ledge => 6
  | .powerDown => 7
  | .off => 7

/-- A transition writes STATE, PREV and TRANSITIONS together (R48). -/
def Pwr.setMode (m : ModState) (p : Pwr) : Pwr :=
  if p.mode = m then p else { p with mode := m, prev := p.mode, transitions := (p.transitions + 1) % 0x10000 }

/-- The same on the whole state. -/
def State.setMode (m : ModState) (s : State) : State := s.onPwr (Pwr.setMode m)

/-- Core released and not in an outage: the core serves commands (R113). -/
def State.coreServes (s : State) : Bool := s.rstc.coreUp && !s.rstc.outage

/-- The throttle level in force, the deeper of the thermal and the converter level (R241). -/
def State.level (s : State) : Nat := max s.thm.level s.pwr.convStep

/-! ## Links -/

/-- Link 0 is up. -/
def Cxp.up0 (c : Cxp) : Bool := (c.links.getD 0 Link.off).up

/-- Hands items to link 0 while it is up (R492). -/
def Cxp.send (xs : List TxItem) (c : Cxp) : Cxp := if c.up0 then { c with tx := c.tx ++ xs } else c

/-- Hands items to the outbox whatever link 0 is: stream packets of another link, the Gang bus, the Bench port. -/
def Cxp.emit (xs : List TxItem) (c : Cxp) : Cxp := { c with tx := c.tx ++ xs }

/-! ## Events (R536, R539, R541, R542, R568, R45, R46) -/

/-- The event as session `i` receives it: a completion goes to its own session whatever the mask, and to others that
subscribe to its code with COMPLETION clear (R542). -/
def Session.sees (i : Nat) (x : Session) (e : Event) : Option Event :=
  if !x.opened then none
  else match e.target with
    | some (t, _) =>
      if t = i then some e
      else if x.mask.testBit e.code then some { e with target := none, status := 0 } else none
    | none =>
      if (e.only = none || e.only = some i) && (e.forced = some i || x.mask.testBit e.code) then some e else none

/-- A session takes an event; the seventeenth undelivered one pushes the oldest out and uses up its SEQ (R568). -/
def Session.push (e : Event) (x : Session) : Session :=
  if x.undelivered.length < 16 then { x with undelivered := x.undelivered ++ [e] }
  else { x with undelivered := x.undelivered.tail ++ [e], overflow := true, evCount := (x.evCount + 1) % 256 }

/-- The packets of undelivered events: SEQ is the TAG of a completion, else the session's count (R536); the first one carries
OVERFLOW (R538). -/
def eventPackets (i : Nat) : Bool → Nat → List Event → List TxItem
  | _, _, [] => []
  | o, n, e :: es =>
    match e.target with
    | some (_, tag) => .event i tag o e :: eventPackets i false n es
    | none => .event i (n % 256) o e :: eventPackets i false (n + 1) es

/-- How many of them count. -/
def countedEvents (es : List Event) : Nat := (es.filter (fun e => e.target.isNone)).length

/-- A session whose events have all been delivered. -/
def Session.drained (x : Session) : Session :=
  { x with undelivered := [], evCount := (x.evCount + countedEvents x.undelivered) % 256,
           overflow := x.overflow && x.undelivered.isEmpty }

/-- Session `i` with an event taken if it sees it. -/
def Session.take (i : Nat) (e : Event) (x : Session) : Session :=
  match x.sees i e with
  | some e' => x.push e'
  | none => x

/-- The AON event queue: 16 events, the oldest discarded first (R45, R46). -/
def Aon.hold (e : HeldEv) (a : Aon) : Aon :=
  if a.events.length < 16 then { a with events := a.events ++ [e] }
  else { a with events := a.events.tail ++ [e], overflow := true }

/-- An event that is no event of a start joins the queue. -/
def Aon.push (e : Event) (a : Aon) : Aon := a.hold { ev := e, due := none }

/-- Every session after an event: taken and delivered while link 0 is up. -/
def sessionsAfter (up : Bool) (e : Event) (l : List Session) : List Session :=
  if up then l.mapIdx (fun i x => (x.take i e).drained) else l

/-- The packets an event gives rise to. -/
def packetsOf (e : Event) (l : List Session) : List TxItem :=
  (l.mapIdx (fun i x => let y := x.take i e; eventPackets i y.overflow y.evCount y.undelivered)).flatten

/-- An event is raised: delivered over link 0, or held in AON retention while link 0 is down (R45, R513). -/
def State.raiseEv (e : Event) (s : State) : State :=
  { s with
    sess := { s.sess with list := sessionsAfter s.cxp.up0 e s.sess.list },
    cxp := s.cxp.send (packetsOf e s.sess.list),
    aon := if s.cxp.up0 then s.aon else s.aon.push e }

/-- An event that is no completion, stamped with the present tick (R280). -/
def State.raise (code : Nat) (data : List Byte) (s : State) : State :=
  s.raiseEv { code := code, status := 0, target := none, only := none, forced := none, data := data, time := s.tb.now }

/-- An event for one session, when it subscribes (R582). -/
def State.raiseTo (session code : Nat) (data : List Byte) (s : State) : State :=
  s.raiseEv { code := code, status := 0, target := none, only := some session, forced := none, data := data, time := s.tb.now }

/-- An event that reaches one session whatever its mask, and the subscribers of its code (R739). -/
def State.raiseForced (session code : Nat) (data : List Byte) (s : State) : State :=
  s.raiseEv { code := code, status := 0, target := none, only := none, forced := some session, data := data, time := s.tb.now }

/-- EV_MODE of the present state (R539, R40). -/
def State.raiseMode (s : State) : State :=
  s.raise 0x02 [BitVec.ofNat 8 (modeCode s.pwr.mode), BitVec.ofNat 8 (modeCode s.pwr.prev), 0, 0]

/-- A transition that ends in Run, Idle or Ledge, with its EV_MODE (R40); none when the state stands already. -/
def State.enter (m : ModState) (s : State) : State :=
  if s.pwr.mode = m then s else (s.setMode m).raiseMode

/-! ## The log (R947a, R955) -/

/-- The EPOCH of an entry: POWER-ON and SYSTEM orders in ring 1 (R947a). -/
def Psto.epoch (p : Psto) : Nat := (p.ringCounters.getD 0 0 + p.ringCounters.getD 1 0) % 2 ^ 32

/-- Eight bytes of log DATA. -/
def logData (bs : List Byte) : List Byte := (bs ++ List.replicate 8 0).take 8

/-- An entry joins the 32 buffered ones; a 33rd discards the oldest and counts it in a Log lost entry ahead of the others
(R955). -/
def Cfl.buffer (e : LogEntry) (c : Cfl) : Cfl :=
  match c.logBuf with
  | l :: rest =>
    if l.code = 0x000D then
      (if rest.length < 32 then { c with logBuf := l :: (rest ++ [e]) }
       else { c with logBuf := { l with data := logData (le 4 (ofLe (l.data.take 4) + 1)) } :: (rest.tail ++ [e]) })
    else if (l :: rest).length < 32 then { c with logBuf := l :: (rest ++ [e]) }
    else { c with logBuf := { e with code := 0x000D, data := logData (le 4 1) } :: (rest ++ [e]) }
  | [] => { c with logBuf := [e] }

/-- A log entry is raised (R954). SEQ is given when it is written. -/
def State.logEntry (code : Nat) (data : List Byte) (s : State) : State :=
  s.onCfl (Cfl.buffer { seq := 0, code := code, source := if s.pwr.mode = .ledge then 1 else 0, tb := s.tb.now,
                        epoch := s.psto.epoch, data := logData data, crcOk := true })

/-- A log entry under a condition. -/
def State.logIf (b : Bool) (code : Nat) (data : List Byte) (s : State) : State := if b then s.logEntry code data else s

/-- The ten counters of COUNTER_GET after one of them has risen by `k`: each stops at the end of its 32 bits (R8, R621). -/
def countersUp (i k : Nat) (l : List Nat) : List Nat := l.modify i (fun n => satAdd 0xFFFFFFFF n k)

/-- One of the ten counters of COUNTER_GET rises (R621). -/
def State.count (i : Nat) (s : State) : State := s.onCounters (countersUp i 1)

/-! ## Sessions and in-flight entries (R546 to R554, R559 to R561) -/

/-- A session by number. -/
def Sess.get (x : Sess) (i : Nat) : Session := x.list.getD i (Session.closed 3 false)

/-- A session replaced by a function of it. -/
def Sess.modify (i : Nat) (f : Session → Session) (x : Sess) : Sess := { x with list := x.list.modify i f }

/-- Class of a tier (R560). -/
def tierClass : Nat → Nat
  | 0 => 0
  | 1 => 0
  | 2 => 1
  | _ => 2

/-- Effective class of a command (R560). -/
def Sess.effClass (x : Sess) (h : Hdr) : Nat := max h.cls (tierClass (x.get h.session).tier)

/-- Opcodes with an urgent path (R549, R552). -/
def urgentPath (op : Nat) : Bool := op = 0x13 || op = 0x34

/-- Commands that use the session's slot (R549). -/
def slotted (h : Hdr) (op : Nat) : Bool := op = 0x00 || op = 0x08 || op = 0x09 || (h.urgent && urgentPath op)

/-- In-flight commands of a session, the slot apart (R548). -/
def Sess.inflight (x : Sess) (i : Nat) : Nat := (x.flights.filter (fun f => !f.slot && f.hdr.session = i)).length

/-- Free in-flight entries (R503, R588). -/
def Sess.free (x : Sess) : Nat := 64 - (x.flights.filter (fun f => !f.slot)).length

/-- The slot of a session is in flight (R550). -/
def Sess.slotBusy (x : Sess) (i : Nat) : Bool := x.flights.any (fun f => f.slot && f.hdr.session = i)

/-- A flight is queued under this header and opcode. -/
def Flight.queuedAs (h : Hdr) (op : Nat) (f : Flight) : Bool :=
  f.st = .queued && f.hdr.session = h.session && f.hdr.tag = h.tag && f.opcode = op

/-- The command with this session and TAG is in flight (R543, check 5). -/
def Sess.tagBusy (x : Sess) (i tag : Nat) : Bool := x.flights.any (fun f => f.hdr.session = i && f.hdr.tag = tag)

/-- The queued commands that stand first in their session. -/
def Sess.heads (x : Sess) : List Flight :=
  let q := x.flights.filter (fun f => f.st = .queued && !f.slot)
  q.filter (fun f => (q.find? (fun g => g.hdr.session = f.hdr.session)).map (·.hdr.tag) = some f.hdr.tag)

/-- The command taken next: the smallest effective class, then the earliest doorbell (R554). -/
def Sess.next (x : Sess) : Option Flight :=
  x.heads.foldl (fun best f => match best with
    | none => some f
    | some b => if f.cls < b.cls then some f else some b) none

/-- It is this command's turn (R554). -/
def Sess.turn (x : Sess) (h : Hdr) : Bool :=
  match x.next with
  | some f => f.hdr.session = h.session && f.hdr.tag = h.tag
  | none => true

/-- An in-flight entry for a header. -/
def flightOf (s : State) (h : Hdr) (op : Nat) (cmd : Option Instr) (st : FlightSt) (r : Option Reply) (replay : Bool) : Flight :=
  { hdr := h, opcode := op, cls := s.sess.effClass h, slot := slotted h op, cmd := cmd, st := st, reply := r, replay := replay,
    sentAt := s.tb.now }

/-- Appends an in-flight entry. -/
def Sess.addFlight (f : Flight) (x : Sess) : Sess := { x with flights := x.flights ++ [f] }

/-- Removes the in-flight entries a test picks. -/
def Sess.dropFlights (p : Flight → Bool) (x : Sess) : Sess := { x with flights := x.flights.filter (fun f => !p f) }

/-- The reply of a command (R534). Slot replies are always pushed (R549). -/
def replyOf (s : State) (h : Hdr) (op st : Nat) (res : List Byte) : Reply :=
  { session := h.session, tag := h.tag, opcode := op, cls := s.sess.effClass h, urgent := h.urgent,
    push := h.push || slotted h op, status := st, result := res }

/-- The flight of a final reply: pushed and being transmitted, or held for poll (R510, R512, R218, R513). -/
def answeredFlight (s : State) (h : Hdr) (op : Nat) (r : Reply) : Flight :=
  flightOf s h op none (if r.push then .answered else .held) (some r) (r.push && (!s.cxp.up0 || s.pwr.mode = .ride))

/-- The final reply of a command: sent over link 0 or held for poll; a slot command holds no entry (R549, R550). -/
def State.answer (h : Hdr) (op st : Nat) (res : List Byte) (s : State) : State :=
  let r := replyOf s h op st res
  { s with
    sess := if slotted h op then s.sess else s.sess.addFlight (answeredFlight s h op r),
    cxp := s.cxp.send (if r.push then [.reply r] else []) }

/-- An interim reply, ACCEPTED or DEFERRED; the command stays in flight (R547). -/
def State.interim (h : Hdr) (op : Nat) (cmd : Option Instr) (fst : FlightSt) (st : Nat) (res : List Byte) (s : State) : State :=
  let r := replyOf s h op st res
  { s with
    sess := s.sess.addFlight (flightOf s h op cmd fst (some r) (r.push && (!s.cxp.up0 || s.pwr.mode = .ride))),
    cxp := s.cxp.send (if r.push then [.reply r] else []) }

/-- ACCEPTED: the long operation has started (R595). -/
def State.accept (h : Hdr) (op : Nat) (s : State) : State := s.interim h op none .running stAccepted []

/-- A command that has taken effect in part and whose reply follows (R603, R617). -/
def State.park (h : Hdr) (op : Nat) (w : Wait) (s : State) : State :=
  s.onSess (Sess.addFlight (flightOf s h op none (.waiting w) none false))

/-- The in-flight command of a session and TAG that a test on its state picks. -/
def Sess.find (x : Sess) (session tag : Nat) (p : FlightSt → Bool) : Option Flight :=
  x.flights.find? (fun f => !f.slot && f.hdr.session = session && f.hdr.tag = tag && p f.st)

/-- Started and unanswered, waiting to be answered, or running. -/
def FlightSt.isOpen : FlightSt → Bool
  | .queued => false
  | .waiting _ => true
  | .running => true
  | .deferred _ _ _ => true
  | .answered => false
  | .held => false

/-- Removes the open entry of a session and TAG. -/
def Sess.closeOpen (session tag : Nat) (x : Sess) : Sess :=
  x.dropFlights (fun f => !f.slot && f.hdr.session = session && f.hdr.tag = tag && f.st.isOpen)

/-- An interim reply that is marked for replay stays owed when its command is answered (R217, R219). -/
def Sess.owe (f : Flight) (x : Sess) : Sess := if f.replay then { x with owed := x.owed ++ f.reply.toList } else x

/-- The final reply of a command that was waiting or deferred. -/
def State.answerOpen (f : Flight) (st : Nat) (res : List Byte) (s : State) : State :=
  (s.onSess (fun x => (x.owe f).closeOpen f.hdr.session f.hdr.tag)).answer f.hdr f.opcode st res

/-- Ends a long operation of a session and TAG with its completion event: the entry is answered, and the event goes to the
session that still holds it; after SESSION_CLOSE the result reaches no session of its own (R542, R564, R595). -/
def State.complete (session tag code st : Nat) (data : List Byte) (s : State) : State :=
  match s.sess.find session tag FlightSt.isOpen with
  | some f =>
    ((s.onSess (fun x => ((x.owe f).closeOpen session tag).addFlight
        { f with st := .answered, reply := none, cmd := none, replay := false })).raiseEv
      { code := code, status := st, target := some (session, tag), only := none, forced := none, data := data, time := s.tb.now })
  | none => s.raiseEv { code := code, status := 0, target := none, only := none, forced := none, data := data, time := s.tb.now }

/-- A completion under code 0x00: OPCODE and the results of the catalogue (R539). -/
def State.complete0 (session tag op st : Nat) (res : List Byte) (s : State) : State :=
  s.complete session tag 0x00 st (BitVec.ofNat 8 op :: res)

/-! ## The checks of a command (R543, R544, R561, R594, R596) -/

/-- What a command's own row of the catalogue asks: parameter offsets with what is wrong at each (check 9), the tier (check
10), the holder and claim code in the way (check 11), and the status its own state conditions give (check 12). -/
structure Gate where
  params : List (Nat × Bool)
  tier   : Nat
  owner  : Option (Nat × Nat)
  state  : Option Nat

/-- Module states an opcode is accepted in (R596): 1 Run, 2 Idle, 4 Ride-through, 8 Ledge. -/
def statesOf (op : Nat) : Nat :=
  if op = 0x00 || op = 0x01 || op = 0x02 || op = 0x06 || op = 0x07 || op = 0x08 || op = 0x0D || op = 0x40 || op = 0x44
    || op = 0x45 || op = 0x60 || op = 0x62 || op = 0x70 then 15
  else if op = 0x03 || op = 0x04 || op = 0x05 || op = 0x09 || op = 0x63 then 7
  else if op = 0x0A || op = 0x26 then 2
  else if op = 0x0B || op = 0x46 || op = 0x71 || op = 0x72 || op = 0x73 || op = 0x74 || op = 0x75 || op = 0x77 || op = 0x0C then 11
  else if op = 0x76 then 8
  else 3

/-- The bit of a module state in `statesOf`; Bring-up counts as Idle once link 0 is up (R594), and a wake from standby is such
a bring-up from core release on. -/
def modeBit : ModState → Nat
  | .run => 1
  | .ride => 4
  | .ledge => 8
  | _ => 2

/-- Module state and recall (check 12: R594, R880). From core release to BOOT_OK opcodes 0x10 to 0x3F wait (R120), during a recall the
calibration and stream opcodes 0x10 to 0x2F (R24, R440); in a core outage, where urgent commands alone are served, the core is not
released and they take effect as at any other time (R114, R552). While no lane of the Haul link is trained the readout and calibration
opcodes, 0x10 to 0x2F, are refused (R363). -/
def stateGate (op : Nat) (s : State) : Option Nat :=
  if statesOf op &&& modeBit s.pwr.mode = 0 then some stState
  else if !s.rstc.outage && 0x10 ≤ op && op ≤ 0x3F && (!s.rstc.bootOk || (op ≤ 0x2F && s.pipe.recalling)) then some stRecall
  else if 0x10 ≤ op && op ≤ 0x2F && s.haul.noLane then some stState
  else if 0x40 ≤ op && op ≤ 0x46 && (s.psto.scan ≠ 2 || s.psto.resolving) then some stRecall
  else none

/-- First offending parameter byte, the lowest of all: the reserved byte of R13 among them (R544). -/
def firstBad (res : Option Nat) (l : List (Nat × Bool)) : Option Nat :=
  match ((l.filter (·.2)).map (·.1)).min?, res with
  | some a, some b => some (min a b)
  | some a, none => some a
  | none, r => r

/-- The first failing check from 5 on, with its RESULT (R543, R544). -/
def verdict (h : Hdr) (op : Nat) (dup : Bool) (g : Gate) (s : State) : Option (Nat × List Byte) :=
  if h.cls = 3 || dup || (h.urgent && !urgentPath op) then some (stErrParam, [])
  else if !(s.sess.get h.session).opened && !(op = 0x00 || op = 0x01) then some (stState, [])
  else match firstBad h.res g.params with
    | some o => some (stErrParam, le 2 o ++ [0, 0])
    | none =>
      if g.tier < (s.sess.get h.session).tier then
        some (stPrivilege, [BitVec.ofNat 8 g.tier, BitVec.ofNat 8 (s.sess.get h.session).tier, 0, 0])
      else match g.owner with
        | some (holder, code) => some (stOwnership, [BitVec.ofNat 8 holder, BitVec.ofNat 8 code, 0, 0])
        | none =>
          match stateGate op s with
          | some st => some (st, [])
          | none => g.state.map (fun st => (st, []))

/-- What becomes of a command when its row comes. -/
inductive Intake where
  /-- No link brings it. -/
  | lost
  /-- Beyond the bounds of R548, or the slot is in flight (R551). -/
  | busy
  /-- It joins the queue, or waits in it for its turn (R554, R113). -/
  | queue
  | wait
  /-- It is served now; `dup` when its TAG is in flight already. -/
  | take (dup : Bool)
  deriving DecidableEq, Repr

/-- How a command comes in: a queued one is taken in its turn; another is submitted by this row. -/
def intake (h : Hdr) (op : Nat) (s : State) : Intake :=
  if s.sess.flights.any (Flight.queuedAs h op) then
    (if slotted h op || (s.coreServes && s.sess.turn h) then .take false else .wait)
  else if !s.cxp.up0 then .lost
  else if slotted h op then (if s.sess.slotBusy h.session then .busy else .take (s.sess.tagBusy h.session h.tag))
  else if 8 ≤ s.sess.inflight h.session || s.sess.free = 0 then .busy
  else if s.coreServes && s.sess.heads.isEmpty then .take (s.sess.tagBusy h.session h.tag)
  else .queue

/-- Records a doorbell's result (R503). -/
def Sess.setLast (i v : Nat) (x : Sess) : Sess := x.modify i (fun y => { y with last := v })

/-- RESULT of REFUSED_BUSY (R544). -/
def busyResult (x : Sess) (i : Nat) : List Byte := [BitVec.ofNat 8 (x.inflight i), BitVec.ofNat 8 x.free, 0, 0]

/-- A mailbox-level answer: pushed, holding no entry, class as received (R545). -/
def State.mailboxAnswer (session tag op cls : Nat) (urgent : Bool) (last st : Nat) (res : List Byte) (s : State) : State :=
  { s with
    sess := s.sess.setLast session last,
    cxp := s.cxp.send [.reply { session := session, tag := tag, opcode := op, cls := cls, urgent := urgent, push := true,
                                status := st, result := res }] }

/-- The host watchdog resumes with a full opening period at the first complete command packet after Ride-through or a wake
(R212, R783). -/
def Dog.resume (t : Nat) (d : Dog) : Dog :=
  { d with suspended := false, start := t, opening := true, t := usTicks d.nextPeriod, period := d.nextPeriod,
           keyA := none, warned := false }

/-- A complete command packet has been received. -/
def State.packetIn (s : State) : State :=
  { s with
    wdg := if s.sess.firstPacketDue && s.pwr.mode ≠ .ride then { s.wdg with host := s.wdg.host.resume s.tb.now } else s.wdg,
    sess := if s.sess.firstPacketDue && s.pwr.mode ≠ .ride then { s.sess with firstPacketDue := false } else s.sess }

/-- The state in which a taken command is checked: its queue entry is gone, its packet counted, LAST recorded. -/
def State.taken (h : Hdr) (op : Nat) (s : State) : State :=
  (s.packetIn).onSess (fun x => (x.dropFlights (Flight.queuedAs h op)).setLast h.session 0)

/-- A command joins its session's queue (R504). -/
def State.enqueue (h : Hdr) (op : Nat) (cmd : Instr) (s : State) : State :=
  (s.packetIn).onSess (fun x => (x.addFlight (flightOf s h op (some cmd) .queued none false)).setLast h.session 0)

/-- The mailbox refuses a command beyond its bounds (R548, R551). -/
def State.refuseBusy (h : Hdr) (op : Nat) (s : State) : State :=
  (s.packetIn).mailboxAnswer h.session h.tag op h.cls h.urgent 3 stBusy (busyResult s.sess h.session)

/-- A command as it comes in: the checks in their order, then its own effect. -/
def serveAs (i : Intake) (h : Hdr) (op : Nat) (cmd : Instr) (gate : State → Gate) (body : State → State) (s : State) : State :=
  match i with
  | .lost => s
  | .wait => s
  | .busy => s.refuseBusy h op
  | .queue => s.enqueue h op cmd
  | .take dup =>
    match verdict h op dup (gate (s.taken h op)) (s.taken h op) with
    | some (st, res) => (s.taken h op).answer h op st res
    | none => body (s.taken h op)

/-- Every NCP row that the core or the hardware takes in its turn. -/
def serve (h : Hdr) (op : Nat) (cmd : Instr) (gate : State → Gate) (body : State → State) (s : State) : State :=
  serveAs (intake h op (s.atTick h.tick)) h op cmd gate body (s.atTick h.tick)

/-- How a command that the mailbox hardware answers at once comes in (R771). -/
def intakeNow (h : Hdr) (op : Nat) (s : State) : Intake :=
  if s.sess.flights.any (Flight.queuedAs h op) then .take false
  else if !s.cxp.up0 then .lost
  else if 8 ≤ s.sess.inflight h.session || s.sess.free = 0 then .busy
  else .take (s.sess.tagBusy h.session h.tag)

/-- A row that the mailbox hardware answers at once. -/
def serveNow (h : Hdr) (op : Nat) (cmd : Instr) (gate : State → Gate) (body : State → State) (s : State) : State :=
  serveAs (intakeNow h op (s.atTick h.tick)) h op cmd gate body (s.atTick h.tick)

/-- The state as a command sees it while it is served: its own in-flight entry counts (R546). -/
def State.seen (h : Hdr) (op : Nat) (s : State) : State := s.onSess (Sess.addFlight (flightOf s h op none .running none false))

/-- An event of the core: nothing in a core outage (R938). -/
def onCore (f : State → State) (s : State) : State := if s.coreServes then f s else s

/-- A gate that asks for a tier alone. -/
def Gate.plain (tier : Nat) : Gate := { params := [], tier := tier, owner := none, state := none }

/-- The claim of another session on any of these codes (R565). -/
def Sess.claimedBy (x : Sess) (session : Nat) (codes : List Nat) : Option (Nat × Nat) :=
  (x.claims.find? (fun c => codes.contains c.1 && c.2 ≠ session)).map (fun c => (c.2, c.1))

end Sys2Proof.Machine
end

