-- ==== Sys2Proof/Machine/Flags.lean ====
section
/-!
DEFINITION. Every register word of the spec, assembled from its fields, and the values the fuses give.
-/

namespace Sys2Proof.Machine

open Sys2Proof

/-! ## Fuses (spec/18_firmware_security_background.md R949) -/

/-- A fuse word of the shadow, in force (R110, R953). -/
def Fuse.word (f : Fuse) (w : Nat) : Nat := (f.shadow.getD w 0).toNat

/-- Bits of word 1 in force. -/
def Fuse.bits (f : Fuse) (lo width : Nat) : Nat := f.word 1 / 2 ^ lo % 2 ^ width

/-- k of R780. -/
def Fuse.windowK (f : Fuse) : Nat :=
  match f.bits 0 2 with
  | 0 => 4
  | 1 => 2
  | 2 => 6
  | _ => 7

/-- FUSE.WDG_LADDER (R791). -/
def Fuse.ladder (f : Fuse) : Nat := if f.bits 2 3 = 0 then 3 else f.bits 2 3

/-- FUSE.BOOT_TRIES (R949). -/
def Fuse.bootTries (f : Fuse) : Nat := if f.bits 5 3 = 0 then 4 else f.bits 5 3

/-- FUSE.SHUT_PARK: the shutter direction of the parking move, 0 open, 1 close, or none (R949). -/
def Fuse.parkDir (f : Fuse) : Option Nat :=
  match f.bits 8 2 with
  | 1 => some 0
  | 2 => none
  | _ => some 1

/-- FUSE.DBG_LOCK acts at once (R947, R953). -/
def Fuse.dbgLock (f : Fuse) : Bool := (f.words.getD 1 0).getLsbD 11

/-- FUSE.JTAG_OFF acts at once (R948, R953). -/
def Fuse.jtagOff (f : Fuse) : Bool := (f.words.getD 1 0).getLsbD 12

/-- FUSE.KEYHASH in force: byte i of the digest at bits [8i + 7 : 8i] (R949). -/
def Fuse.keyHash (f : Fuse) : Nat := ((List.range 8).map (fun i => f.word (2 + i) * 2 ^ (32 * i))).sum

/-! ## Reset controller (spec/03 R176 to R179) -/

/-- RSTC.LASTCAUSE (R176). -/
def Rstc.lastCauseWord (r : Rstc) : Nat := r.lastStep * 0x10000 + r.lastLevel * 0x100 + r.lastCause

/-- RSTC.BOOT (R178). -/
def Rstc.bootWord (r : Rstc) : Nat :=
  r.ledgeCause * 0x1000000 + r.optBad * 0x80000 + r.failCount * 0x10000 + bit r.bootOk * 0x100 + r.step

/-- RSTC.WAKE (R179). -/
def Rstc.wakeWord (r : Rstc) : Nat :=
  r.wakeFailStep * 0x10000 + r.wakeAttempts * 0x1000 + r.wakeRail * 0x100 + bit r.wakeResult

/-! ## Power (spec/01 R47, spec/04 R245 to R249) -/

/-- VLINK, the greater of the two supplies (R66). -/
def Pwr.vlink (p : Pwr) : Nat := max p.vlink0 p.vlink1

/-- A supply within 20.4 V to 26.4 V (R245). -/
def supplyOk (mv : Nat) : Bool := 20400 ≤ mv && mv ≤ 26400

/-- VHOLD within 0.6 V of its charge target, VLINK − 0.4 V (R245, R71). -/
def Pwr.vholdOk (p : Pwr) : Bool := p.vhold + 600 + 400 ≥ p.vlink && p.vhold + 400 ≤ p.vlink + 600

/-- PWR.STATUS (R245). -/
def Pwr.statusWord (p : Pwr) : Nat :=
  bit (p.vlink > 27500) * 0x800 + bit (p.mode = .ride) * 0x400 + bit p.cmeasValid * 0x200 + bit (18000 ≤ p.vshr) * 0x100
    + bit p.vholdOk * 0x80 + bit p.share * 0x40 + bit (supplyOk p.vlink1) * 0x20 + bit (supplyOk p.vlink0) * 0x10

/-- PWR.STATE (R47). -/
def Pwr.stateWord (p : Pwr) : Nat := p.transitions * 0x10000 + modeCode p.prev * 0x100 + modeCode p.mode

/-- PWR.DOWN_FAULT (R246). -/
def DownFault.word (d : DownFault) : Nat :=
  bit d.valid * 2 ^ 31 + d.kind * 2 ^ 24 + d.step * 0x10000 + d.order * 0x1000 + d.rail

/-- PWR.HOLDUP (R247). -/
def Pwr.holdupWord (p : Pwr) : Nat := p.esr * 2 ^ 24 + p.cmeas

/-- PWR.RIDE (R248). -/
def Pwr.rideWord (p : Pwr) : Nat := p.rideCount * 2 ^ 24 + p.rideLast * 2 ^ 22 + p.rideTimer

/-- PWR.PHASE (R249). -/
def Pwr.phaseWord (p : Pwr) : Nat := p.convStep * 0x1000 + p.phOpen * 0x100 + p.phSense * 0x10 + p.healthy

/-- Usable energy above V_MIN in units of 1/2,000,000 µJ: C in µF times (V² − 144 V²), V in mV (R227). -/
def Pwr.energyFine (p : Pwr) : Nat := p.cmeas * (p.vhold * p.vhold - 144000000)

/-- The same in µJ, rounded as R8 asks. -/
def Pwr.energy (p : Pwr) : Nat := roundDiv p.energyFine 2000000

/-- E has fallen to 120 mJ (R206). -/
def Pwr.reserved (p : Pwr) : Bool := p.energyFine ≤ 120000 * 2000000

/-! ## Timebase (spec/05 R282 to R285) -/

/-- TBASE.STATUS (R284). -/
def Tbase.statusWord (b : Tbase) : Nat :=
  bit b.bridged * 2 ^ 31 + bit b.slewing * 2 ^ 30 + bit b.compHold * 2 ^ 29 + bit b.aonCal * 2 ^ 28

/-- TBASE.COMP (R285). -/
def Tbase.compWord (b : Tbase) : Nat := field 16 b.target * 0x10000 + field 16 b.corr

/-! ## Sessions (spec/11 R588 to R591, spec/18 R965) -/

/-- Bit n set for each item that passes a test. -/
def maskOf {α : Type} (p : α → Bool) (l : List α) : Nat := (l.mapIdx (fun i x => bit (p x) * 2 ^ i)).sum

/-- SESS.OPEN (R588). -/
def Sess.openWord (x : Sess) : Nat := x.free * 0x10000 + maskOf (·.opened) x.list

/-- SESS.TIER (R589). -/
def Sess.tierWord (x : Sess) : Nat := (x.list.mapIdx (fun i y => y.tier * 4 ^ i)).sum

/-- SESS.ENABLE (R590). -/
def Sess.enableWord (x : Sess) : Nat := maskOf (·.enabled) x.list

/-- SESS.TELEM_LO and SESS.TELEM_HI (R965). -/
def Sess.telemWord (x : Sess) (first : Nat) : Nat :=
  (((x.list.drop first).take 8).mapIdx (fun i y => y.telem * 16 ^ i)).sum

/-- Deferred requests. -/
def Sess.deferred (x : Sess) : List Flight :=
  x.flights.filter (fun f => match f.st with
    | .deferred _ _ _ => true
    | _ => false)

/-! ## CoaXPress (spec/10 R532) -/

/-- CXP.STATUS (R532). -/
def Cxp.statusWord (c : Cxp) : Nat :=
  c.losses * 2 ^ 24 + (if c.links.any (·.configured) then c.cfgRate else 0) * 2 ^ 20
    + maskOf (·.configured) c.links * 0x10000 + maskOf (·.up) c.links * 0x1000 + c.discards

/-! ## Readout and Haul link (spec/06 R335 to R341, spec/07 R384 to R387) -/

/-- Code of SENS.STATUS.READOUT (R341). -/
def rdCode : RdState → Nat
  | .off => 0
  | .disarmed => 1
  | .armed => 2
  | .running => 3
  | .adcCal => 4
  | .seeding => 5

/-- SENS.STATUS (R341). -/
def Rd.statusWord (r : Rd) : Nat :=
  bit r.trackLimit * 0x20 + bit r.calAdvised * 0x10 + bit r.throttled * 8 + rdCode r.state

/-- HAUL.STATUS (R384). -/
def Haul.statusWord (h : Haul) : Nat :=
  h.retrains * 2 ^ 24 + h.lanesUp * 0x10000 + h.lanesFailed * 0x1000 + bit h.alarm * 0x100 + h.state

/-- Four counts, lane 0 in the low byte (R385, R386). -/
def lanesWord (l : List Nat) : Nat := (l.mapIdx (fun i n => n * 256 ^ i)).sum

/-! ## Pipeline (spec/08 R432 to R436) -/

/-- PIPE.CONFIG (R432). -/
def Pipe.configWord (p : Pipe) : Nat := p.sharp * 0x10000 + p.bypass

/-- PIPE.STATUS (R433). -/
def Pipe.statusWord (level : Nat) (p : Pipe) : Nat := p.sharpApplied * 0x10000 + bit (0 < level || p.calHeld)

/-- PIPE.ECC (R434). -/
def Pipe.eccWord (p : Pipe) : Nat := p.ce * 0x10000 + p.ue * 0x100 + (p.queue.length + p.failedRecs.length)

/-- PIPE.SIEVE (R435). -/
def Pipe.sieveWord (p : Pipe) : Nat := p.passes * 2 ^ 24 + p.position

/-- PIPE.UE_LAST (R436). -/
def Pipe.ueWord (p : Pipe) : Nat := bit p.ueByPipe * 2 ^ 31 + bit p.ueReloadFailed * 2 ^ 30 + p.ueIndex

/-! ## Actuators (spec/14 R763 to R766) -/

/-- State code of a channel (R763). -/
def Chan.code (c : Chan) : Nat :=
  if c.disabled then 7
  else match c.phase with
    | .boost => 1
    | .decay => 2
    | .hold => 3
    | .turnOff => 4
    | .free => 5
    | .off => if c.waiting.isSome then 6 else 0

/-- Supply of a bank, 0 A, 1 B (R764). -/
def Pwr.bankMv (p : Pwr) (bank : Nat) : Nat := if bank = 0 then p.vactA else p.vactB

/-- A channel by index: 0 to 3 bank A, 4 to 7 bank B, 8 the shutter. -/
def Act.chan (a : Act) (i : Nat) : Chan := a.chans.getD i Chan.reset

/-- The paths of a channel's coil current (R705): on, freewheel through the recirculation path, fast decay against the clamp of R82. -/
inductive ChPath where
  | on | freewheel | fastDecay
  deriving DecidableEq, Repr

/-- The low-side switch is closed at a tick: a path that a band edge changed inside the 2.5 µs of R711 changes when they have passed. -/
def Chan.lowSide (c : Chan) (t : Nat) : Bool := if t < c.lastSwitch then !c.pathOn else c.pathOn

/-- The path of a channel at a tick (R705, R709). -/
def Chan.path (c : Chan) (t : Nat) : ChPath :=
  match c.phase with
  | .boost => if c.lowSide t then .on else .freewheel
  | .hold => if c.lowSide t then .on else .freewheel
  | .free => .freewheel
  | .decay => .fastDecay
  | .turnOff => .fastDecay
  | .off => .fastDecay

/-- The high-side switch of a bank is on while any of its four channels is in a phase other than off (R703, R704). -/
def Act.highSide (a : Act) (bank : Nat) : Bool := (List.range 4).any (fun n => (a.chan (4 * bank + n)).phase ≠ .off)

/-- A sequencer by number: 0 bank A, 1 bank B, 2 the shutter. -/
def Act.chisel (a : Act) (i : Nat) : Chisel := a.chisels.getD i Chisel.reset

/-- A bank's domain is on: a configuration or a Chisel program is loaded for it (R34). DESIGN CHOICE (log entry 20): a channel configured
with mode off counts as no configuration loaded, since it can be driven by nothing; the spec does not say. -/
def Act.bankOn (a : Act) (bank : Nat) : Bool :=
  (a.chisel bank).loaded || (List.range 4).any (fun n => (a.chan (4 * bank + n)).cfg.mode ≠ 0)

/-- ACT.STATUS of a bank (R764). -/
def actWord (a : Act) (p : Pwr) (bank : Nat) : Nat :=
  let slot := a.slots.getD bank none
  bit (a.bankDisabled.getD bank false) * 2 ^ 31 + bit (9000 ≤ p.bankMv bank) * 2 ^ 30 + bit (a.chisel bank).run * 2 ^ 29
    + bit slot.isSome * 2 ^ 18 + (slot.getD 0 % 4) * 2 ^ 16
    + (((List.range 4).map (fun n => (a.chan (4 * bank + n)).code * 16 ^ n))).sum

/-- ACT.CHISEL and SHUT.CHISEL; PC has 9 bits, and a program that waits at word 511 stands at it (R8, R765). -/
def Chisel.word (c : Chisel) : Nat := c.pfault * 0x10000 + bit c.dip * 0x2000 + bit c.timedOut * 0x1000 + min c.pc 511

/-- State code of the shutter bridge; 6 while a move waits for VSHR (R763, R766). -/
def Act.shutCode (a : Act) : Nat := if a.vshrWait && !(a.chan 8).disabled then 6 else (a.chan 8).code

/-- SHUT.STATUS (R766). -/
def Act.shutWord (a : Act) : Nat :=
  bit (a.chan 8).disabled * 0x80 + bit a.vshrWait * 0x40 + a.position * 0x10 + a.shutCode

/-! ## Triggers, encoder, gang (spec/13 R695 to R702, spec/02 R108) -/

/-- TRIG.STATUS (R695). -/
def Trig.statusWord (t : Trig) : Nat := t.accepted * 0x10000 + t.early * 0x100

/-- TRIG.STRAPS (R108). -/
def Trig.strapsWord (t : Trig) : Nat := t.gangId * 0x10 + t.vsel

/-- ENC.STATUS (R699). -/
def Enc.statusWord (e : Enc) : Nat := field 16 e.correction * 0x10000 + bit e.zref.isSome * 4 + e.state

/-- GANG.STATUS (R700). -/
def Gang.statusWord (g : Gang) : Nat := g.present * 2 ^ 24 + g.agree * 0x10000 + g.leader * 0x100 + g.state

/-- GANG.TIMING (R701). -/
def Gang.timingWord (g : Gang) : Nat := g.slips * 0x10000 + g.delay

/-! ## Watchdogs (spec/15 R780, R783, R805 to R809) -/

/-- O of a running period: 0 in an opening period (R780, R783). -/
def Dog.openAfter (d : Dog) (k : Nat) : Nat := if d.opening then 0 else d.t * k / 8

/-- The window is open at a tick (R781). -/
def Dog.windowOpen (d : Dog) (k t : Nat) : Bool := d.start + d.openAfter k ≤ t && t < d.start + d.t

/-- WDG.HOST_CTRL (R805). -/
def Dog.ctrlWord (d : Dog) : Nat := bit d.enabled * 2 ^ 31 + d.nextPeriod

/-- The host watchdog is suspended in Ride-through, Keep-warm, Keep and Ledge (R767, R806). -/
def Pwr.hostDogStops (p : Pwr) : Bool := p.mode = .ride || p.mode = .keepWarm || p.mode = .keep || p.mode = .ledge

/-- WDG.HOST_STATUS (R806). -/
def hostStatusWord (s : State) : Nat :=
  let d := s.wdg.host
  let runs := d.enabled && !d.suspended && !s.pwr.hostDogStops
  bit (runs && d.windowOpen s.fuse.windowK s.tb.now) * 2 ^ 31 + bit (runs && d.opening) * 2 ^ 30
    + bit d.keyA.isSome * 2 ^ 29 + bit (d.enabled && s.pwr.hostDogStops) * 2 ^ 28
    + (match d.keyA with
       | some (session, _) => session
       | none => 0) * 2 ^ 24
    + (if runs then (d.start + d.t - s.tb.now) / 100000 else 0)

/-- WDG.EVIDENCE (R807). -/
def Wdg.evidenceWord (w : Wdg) : Nat := w.count * 0x200 + w.rung * 0x80 + w.kind * 0x10 + w.which

/-! ## Thermal (spec/16 R844 to R847) -/

/-- THM.STATUS (R844). -/
def Thm.statusWord (t : Thm) : Nat :=
  t.shutdowns * 2 ^ 24 + t.invalid * 2 ^ 15 + t.maxSensor * 2 ^ 11 + bit t.fast * 0x400 + bit t.warn * 0x200 + t.level

/-- The die of a sensor is powered (R810, R814). -/
def Rstc.sensorPowered (r : Rstc) (n : Nat) : Bool := if n < 3 then 12 ≤ r.rails else if n < 7 then 2 ≤ r.rails else 1 ≤ r.rails

/-- The thermal block as the core reports it: a sensor without power is invalid at once (R814). -/
def State.thmNow (s : State) : Thm :=
  if s.rstc.coreUp then
    { s.thm with invalid := maskOf (fun n => s.thm.invalid.testBit n || !s.rstc.sensorPowered n) (List.range 9) }
  else s.thm

/-- THM.TRIP (R846). -/
def Thm.tripWord (t : Thm) : Nat := bit t.tripValid * 2 ^ 31 + t.tripSensor

/-! ## Storage (spec/17 R914 to R918) -/

/-- PSTO.STATUS (R914). -/
def Psto.statusWord (p : Psto) : Nat :=
  p.voids.length * 2 ^ 24 + p.protect * 0x10000 + p.erasing * 0x100 + bit p.busy * 8 + bit p.resolving * 4 + p.scan

/-- PSTO.ECC (R915). -/
def Psto.eccWord (p : Psto) : Nat := p.ce * 0x10000 + p.ue * 0x100

/-- CFL.STATUS (R917). -/
def Cfl.statusWord (c : Cfl) : Nat :=
  c.loaded * 2 ^ 28 + c.requested * 2 ^ 24 + c.lost * 0x10000 + bit c.userValid * 0x10 + c.result

/-- CFL.WALK (R918). -/
def Cfl.walkWord (c : Cfl) : Nat := c.walkFails * 2 ^ 24 + c.walkPasses * 0x10000 + c.walkLast

/-! ## SESS.ADMIT (spec/11 R591) -/

/-- A rate as numerator and denominator. -/
abbrev Frac := Nat × Nat

/-- Sum of two rates. -/
def Frac.add (a b : Frac) : Frac := (a.1 * b.2 + b.1 * a.2, a.2 * b.2)

/-- Sum of rates. -/
def Frac.sum (l : List Frac) : Frac := l.foldl Frac.add (0, 1)

/-- The frame period in force under the frame-rate step: doubled, saturating (R307). -/
def doubledPeriod (p : Nat) : Nat := min (2 * p) 0xFFFFFFFF

/-- The period at which admission counts a stream of a class when P is configured: under thermal level 2 or 3 class 0 at P and
the others at the period in force (R831); otherwise the period in force (R524). -/
def State.countedPeriod (s : State) (cls p : Nat) : Nat :=
  if 2 ≤ s.thm.level then (if cls = 0 then p else doubledPeriod p)
  else if 2 ≤ s.pwr.convStep then doubledPeriod p else p

/-- Formatter load of a stream in pixels per second (R569). -/
def Stream.pixelRate (x : Stream) (rows period : Nat) : Frac := (x.colCount * rows * 100000000, period * x.decim)

/-- INT and P as configured; a change accepted while the readout is armed waits for a frame-start slot, and INT for the frame that
follows it (R304, R338). -/
def Rd.cfgInt (r : Rd) : Nat := r.pendInt.getD ((r.slot.map (·.int)).getD r.int)
def Rd.cfgPeriod (r : Rd) : Nat := r.pendPeriod.getD r.period

/-- Admitted formatter load after decimation. -/
def State.formatterLoad (s : State) : Frac :=
  Frac.sum ((s.streams.filter (·.opened)).map (fun x => x.pixelRate s.rd.count (s.countedPeriod x.cls s.rd.cfgPeriod)))

/-- SESS.ADMIT (R591). -/
def State.admitWord (s : State) : Nat :=
  roundDiv s.formatterLoad.1 (s.formatterLoad.2 * 1000000) * 0x10000 + s.sess.deferred.length * 0x100
    + (s.streams.filter (fun x => x.opened && 1 < x.decim)).length

/-! ## ALERT and the TRIG pads (spec/16 R840, spec/13 R636, R639, R696) -/

/-- ALERT is high (R155, R840); before BOOT_OK or Ledge the pad is not driven (R97). -/
def State.alert (s : State) : Bool := s.rstc.padsDriven && (s.thm.warn || 0 < s.level)

/-- Output function of a TRIG pad. -/
def trigFunc (p : TrigP) (n : Nat) : Nat :=
  match n with
  | 0 => p.func0
  | 1 => p.func1
  | 2 => p.func2
  | _ => p.func3

/-- What stands at a pad (R94, R95): nothing without VIO, a driver, a weak pull-up, or an input. -/
inductive PadState where
  | unpowered | highZ | low | high | pullUp
  deriving DecidableEq, Repr

/-- The I/O rail is up (R60, R95, R115). -/
def Rstc.vioUp (r : Rstc) : Bool := 4 ≤ r.rails

/-- VIO_OUT is on from release step VIO onward (R60, R95). -/
def State.vioOut (s : State) : Bool := s.rstc.vioUp || s.rstc.tripVio

/-- FUSE.PADMAP: the shadow, or before step 7 of an order has loaded it the fuses themselves (R93, R110, log entry 170). -/
def State.padmap (s : State) : Nat :=
  if (s.rstc.order = .powerOn || s.rstc.order = .system) && s.rstc.rails < 7 then (s.fuse.words.getD 0 0).toNat else s.fuse.word 0

/-- The meaning of a two-bit PADMAP entry (R94). -/
def padmapCode : Nat → PadState
  | 0 => .highZ
  | 1 => .low
  | 2 => .high
  | _ => .pullUp

/-- The PADMAP state of a fuse-mapped pad: 0 to 3 TRIG, 4 to 11 GPIO, 12 ALERT, 13 FAULTN (R93, R95). -/
def State.mapped (s : State) (k : Nat) : PadState := if s.vioOut then padmapCode (s.padmap / 4 ^ k % 4) else .unpowered

/-- A driver at a level. -/
def drivenPad (high : Bool) : PadState := if high then .high else .low

/-- The level at a land: what the module drives, nothing without VIO, else what the board and the pulls make of it. -/
def PadState.level (p : PadState) (board : Bool) : Bool :=
  match p with
  | .unpowered => false
  | .low => false
  | .high => true
  | .highZ => board
  | .pullUp => board

/-- ALERT: its PADMAP state until BOOT_OK or Ledge, then its meaning (R95, R97, R840). -/
def State.alertPad (s : State) : PadState := if s.rstc.padsDriven then drivenPad s.alert else s.mapped 12

/-- FAULTN: low from a thermal shutdown until VIO is lost, its PADMAP state until BOOT_OK or Ledge, then its meaning (R97, R834, R841). -/
def State.faultnPad (s : State) : PadState :=
  if s.rstc.tripVio then .low
  else match s.rstc.faultn with
    | some v => drivenPad v
    | none => s.mapped 13

/-- BP_IRQ: high-impedance until the port opens at step 9 and once DBG_LOCK is blown; low in Ledge and until the BOOT_OK of the last order,
high otherwise (R95, R939, R942, R947). -/
def State.bpIrq (s : State) : PadState :=
  if !s.vioOut then .unpowered
  else if s.fuse.dbgLock || s.rstc.rails < 9 then .highZ
  else drivenPad (s.rstc.padsDriven && s.pwr.mode ≠ .ledge)

/-- JTAG_TDO between scans (R95, R948). -/
def State.jtagTdo (s : State) : PadState := if s.vioOut then .highZ else .unpowered

/-- The test access port is out of reset: JTAG_TRSTN is driven high and JTAG_OFF is not blown (R89, R948). -/
def State.tapOpen (s : State) : Bool := s.jtag.trstn && !s.fuse.jtagOff

/-- A TRIG pad that TRIG_CONFIG has named is an input; an unnamed one has its input buffer disabled (R95, R96, R636). -/
def Trig.isInput (x : Trig) (pad : Nat) : Bool := x.cfg.pads.testBit pad && !x.cfg.dirs.testBit pad

/-- Level at a TRIG pad: what its function drives, what the board drives, or before a TRIG_CONFIG names it its PADMAP state (R96, R98,
R639, R696). -/
def State.padLevel (s : State) (n : Nat) : Bool :=
  if !s.trig.cfg.pads.testBit n then (s.mapped n).level (s.trig.levels.testBit n)
  else if s.trig.cfg.dirs.testBit n then
    (match trigFunc s.trig.cfg n with
     | 0 => false
     | 1 => true
     | 2 => s.rd.anyFrame && s.rd.sPrev ≤ s.tb.now && s.tb.now < s.rd.sPrev + 100
     | 3 => s.rd.anyFrame && s.rd.sPrev ≤ s.tb.now && s.tb.now < s.rd.sPrev + (s.rd.count - 1) * s.rd.rt + s.rd.int
     | _ => s.alert)
  else s.trig.levels.testBit n

/-- Level at a GPIO pad (R96, R98, R636, R696). -/
def State.gpioLevel (s : State) (n : Nat) : Bool :=
  if !s.trig.cfg.gpio.testBit n then (s.mapped (4 + n)).level (s.trig.gpioLevels.testBit n)
  else if s.trig.cfg.gpio.testBit n && s.trig.cfg.gpioDir.testBit n then s.trig.cfg.gpioOut.testBit n else s.trig.gpioLevels.testBit n

/-- TRIG.LEVELS (R696). -/
def State.levelsWord (s : State) : Nat :=
  ((List.range 4).map (fun n => bit (s.padLevel n) * 2 ^ n)).sum + ((List.range 8).map (fun n => bit (s.gpioLevel n) * 2 ^ (4 + n))).sum

/-! ## All registers by address -/

/-- A byte of the CSTO window (R391). -/
def RecStore.byte (x : RecStore) (k : Nat) : Nat :=
  (((x.recs.find? (fun p => p.1 = k / 10)).map (·.2)).getD x.base).toNat / 256 ^ (k % 10) % 256

/-- A 4-byte word of the CSTO window (R391). -/
def RecStore.word (x : RecStore) (k : Nat) : Nat :=
  x.byte k + x.byte (k + 1) * 256 + x.byte (k + 2) * 65536 + x.byte (k + 3) * 16777216

/-- The word at a register address, none where no block decodes it (R634). Write-only registers read zero (R9). -/
def State.reg (s : State) (a : Nat) : Option Nat :=
  if 0x4000F000 ≤ a && a < 0x4000F100 then some (s.fuse.words.getD ((a - 0x4000F000) / 4) 0).toNat
  else if 0x60000000 ≤ a && a < 0x60000000 + 13107200 then some (s.pipe.csto.word (a - 0x60000000))
  else match a with
    | 0x40000000 => some s.rstc.lastCauseWord
    | 0x40000004 => some s.rstc.sticky
    | 0x40000008 => some s.rstc.bootWord
    | 0x4000000C => some s.rstc.wakeWord
    | 0x40001800 => some (s.tb.now % 2 ^ 32)
    | 0x40001804 => some s.tb.nowHi
    | 0x40001808 => some s.tb.statusWord
    | 0x4000180C => some s.tb.compWord
    | 0x40002000 => some s.pwr.statusWord
    | 0x40002004 => some s.pwr.stateWord
    | 0x40002008 => some s.pwr.downFault.word
    | 0x4000200C => some s.pwr.holdupWord
    | 0x40002010 => some s.pwr.rideWord
    | 0x40002014 => some s.pwr.phaseWord
    | 0x40003000 => some s.thmNow.statusWord
    | 0x40003004 => some (field 16 s.thm.max)
    | 0x40003008 => some s.thm.tripWord
    | 0x4000300C => some (field 16 s.thm.warnLevel)
    | 0x40004000 => some s.wdg.host.ctrlWord
    | 0x40004004 => some (hostStatusWord s)
    | 0x40004008 => some s.wdg.evidenceWord
    | 0x4000400C => some s.wdg.lastPc
    | 0x40004010 => some (s.wdg.lastServeTb % 2 ^ 32)
    | 0x40004014 => some (s.wdg.lastServeTb / 2 ^ 32)
    | 0x40004018 => some (s.wdg.violationTb % 2 ^ 32)
    | 0x4000401C => some (s.wdg.violationTb / 2 ^ 32)
    | 0x40005000 => some s.psto.statusWord
    | 0x40005004 => some s.psto.eccWord
    | 0x40005008 => some s.psto.ueAddr
    | 0x40006000 => some s.cfl.statusWord
    | 0x40006004 => some s.cfl.walkWord
    | 0x4000F100 => some 0
    | 0x4000F104 => some 0
    | 0x40010000 => some s.sess.openWord
    | 0x40010004 => some s.sess.tierWord
    | 0x40010008 => some s.sess.enableWord
    | 0x4001000C => some s.admitWord
    | 0x40010010 => some (s.sess.telemWord 0)
    | 0x40010014 => some (s.sess.telemWord 8)
    | 0x40012000 => some s.cxp.statusWord
    | 0x40020000 => some s.trig.statusWord
    | 0x40020004 => some s.levelsWord
    | 0x40020FF0 => some s.trig.strapsWord
    | 0x40021000 => some s.enc.position
    | 0x40021004 => some s.enc.errCount
    | 0x40021008 => some s.enc.statusWord
    | 0x40022000 => some s.gang.statusWord
    | 0x40022004 => some s.gang.timingWord
    | 0x40022008 => some (field 32 s.gang.offset)
    | 0x40030000 => some (actWord s.act s.pwr 0)
    | 0x40030004 => some (s.act.chisel 0).word
    | 0x40031000 => some (actWord s.act s.pwr 1)
    | 0x40031004 => some (s.act.chisel 1).word
    | 0x40032000 => some s.act.shutWord
    | 0x40032004 => some (s.act.chisel 2).word
    | 0x40040000 => some s.haul.statusWord
    | 0x40040004 => some (lanesWord s.haul.hdrErr)
    | 0x40040008 => some (lanesWord s.haul.crcErr)
    | 0x4004000C => some (s.haul.minRt * 0x10000 + s.haul.dsLat)
    | 0x40050000 => some s.pipe.configWord
    | 0x40050004 => some (s.pipe.statusWord s.level)
    | 0x40050008 => some s.pipe.eccWord
    | 0x4005000C => some s.pipe.sieveWord
    | 0x40050010 => some s.pipe.ueWord
    | 0x50000000 => some s.rd.rt
    | 0x50000004 => some s.rd.cfgInt
    | 0x50000008 => some (s.rd.count * 0x10000 + s.rd.start)
    | 0x5000000C => some s.rd.cfgPeriod
    | 0x50000010 => some s.rd.gain
    | 0x50000014 => some (bit s.rd.fpaValid * 2 ^ 31 + s.rd.fpaCode)
    | 0x50000018 => some s.rd.statusWord
    | _ => none

end Sys2Proof.Machine
end

