-- ==== Sys2Proof/Machine/Admission.lean ====
section
/-!
DEFINITION. The capacity model of spec/11_command_packets_and_sessions.md R569 to R583 for links, formatters, stream counts,
the converter and the Haul link. Rates are exact fractions.
-/

namespace Sys2Proof.Machine

open Sys2Proof

/-- Payload budget of a link at a rate code, kB/s (R523). -/
def budgetKb : Nat → Nat
  | 1 => 115000
  | 2 => 230000
  | 3 => 287500
  | 5 => 460000
  | 6 => 575000
  | 10 => 920000
  | 12 => 1150000
  | _ => 0

/-- Bytes of a stream's frame: pixels and the 512-byte trailer (R414, R524). -/
def Stream.frameBytes (x : Stream) (rows : Nat) : Nat :=
  (if x.pixfmt = 3 then x.colCount * rows / 2 else x.colCount * rows * 2) + 512

/-- Links of a route. -/
def routeCount (route : Nat) : Nat := ((List.range 4).filter (fun n => route.testBit n)).length

/-- A stream's share of the payload on each link of its route, bytes per second (R524, R569). -/
def Stream.share (x : Stream) (rows period : Nat) : Frac :=
  (x.frameBytes rows * 100000000, period * (routeCount x.route) * x.decim)

/-- A stream as admission counts it: the stream, its window rows and its period. -/
structure Counted where
  stream : Stream
  rows   : Nat
  period : Nat
  deriving DecidableEq, Repr

/-- The open streams counted at a window and period. -/
def State.counted (s : State) (l : List Stream) (rows period : Nat) : List Counted :=
  l.map (fun x => { stream := x, rows := rows, period := s.countedPeriod x.cls period })

/-- Load on a link in bytes per second. -/
def linkLoad (l : List Counted) (n : Nat) : Frac :=
  Frac.sum ((l.filter (fun c => c.stream.opened && c.stream.route.testBit n)).map (fun c => c.stream.share c.rows c.period))

/-- Load on the formatters in pixels per second. -/
def fmtLoad (l : List Counted) : Frac :=
  Frac.sum ((l.filter (fun c => c.stream.opened)).map (fun c => c.stream.pixelRate c.rows c.period))

/-- The budget of link `n` in the configuration, 0 outside it (R525). -/
def Cxp.budget (c : Cxp) (n : Nat) : Nat :=
  if (c.links.getD n Link.off).configured then budgetKb c.cfgRate else 0

/-- What does not fit first, in the order of R569: resource code, detail, NEED, AVAIL. -/
structure Shortage where
  resource : Nat
  detail   : Nat
  need     : Nat
  avail    : Nat
  deriving DecidableEq, Repr

/-- A link carries a load. -/
def Cxp.linkFits (c : Cxp) (l : List Counted) (n : Nat) : Bool :=
  (linkLoad l n).1 ≤ c.budget n * 1000 * (linkLoad l n).2

/-- The formatters carry a load (R569). -/
def fmtFits (l : List Counted) : Bool := (fmtLoad l).1 ≤ 1400000000 * (fmtLoad l).2

/-- The links of a stream's route and the formatters carry a load. -/
def Cxp.fits (c : Cxp) (l : List Counted) (route : Nat) : Bool :=
  (List.range 4).all (fun n => !route.testBit n || c.linkFits l n) && fmtFits l

/-- The stream to decimate next for a request of class `c`: of the largest class above `c`, D below 16, the latest admitted
(R574). -/
def victim (l : List Counted) (c : Nat) : Option Nat :=
  let ok : Counted → Bool := fun x => x.stream.opened && c < x.stream.cls && 0 < x.stream.cls && x.stream.decim < 16
  let better : Counted → Counted → Bool := fun a b =>
    b.stream.cls < a.stream.cls || (b.stream.cls = a.stream.cls && b.stream.admitSeq < a.stream.admitSeq)
  ((List.range l.length).foldl (fun best i => match l[i]? with
    | some x => if !ok x then best else match best with
      | some (j, y) => if better x y then some (i, x) else some (j, y)
      | none => some (i, x)
    | none => best) (none : Option (Nat × Counted))).map (·.1)

/-- Doubles the decimation of one counted stream. -/
def doubleD (l : List Counted) (i : Nat) : List Counted :=
  l.modify i (fun x => { x with stream := { x.stream with decim := 2 * x.stream.decim } })

/-- The trial of R574: decimates lower classes until the load fits or none is left. At most 64 doublings. -/
def trial (c : Cxp) (route cls : Nat) : Nat → List Counted → List Counted
  | 0, l => l
  | k + 1, l =>
    if c.fits l route then l
    else match victim l cls with
      | some i => trial c route cls k (doubleD l i)
      | none => l

/-- The first resource that does not fit, for a stream counted at index `i` (R525, R569, R575). NEED is rounded to the nearest
unit and AVAIL down. -/
def shortage (c : Cxp) (l : List Counted) (i : Nat) : Shortage :=
  match l[i]? with
  | none => { resource := 1, detail := 0, need := 0, avail := 0 }
  | some x =>
    let rest := l.modify i (fun y => { y with stream := { y.stream with opened := false } })
    match (List.range 4).find? (fun n => x.stream.route.testBit n && !c.linkFits l n) with
    | some n =>
      let sh := x.stream.share x.rows x.period
      let ld := linkLoad rest n
      { resource := 1, detail := n, need := roundDiv sh.1 (sh.2 * 1000), avail := (c.budget n * 1000 * ld.2 - ld.1) / (ld.2 * 1000) }
    | none =>
      let px := x.stream.pixelRate x.rows x.period
      let ld := fmtLoad rest
      { resource := 2, detail := 0, need := roundDiv px.1 (px.2 * 1000), avail := (1400000000 * ld.2 - ld.1) / (ld.2 * 1000) }

/-- R574 for a stream at index `i`: the streams with the trial's decimations, or what does not fit. -/
def admitStream (c : Cxp) (l : List Counted) (i cls : Nat) : Except Shortage (List Counted) :=
  match l[i]? with
  | none => .ok l
  | some x =>
    let t := trial c x.stream.route cls 64 l
    if c.fits t x.stream.route then .ok t else .error (shortage c t i)

/-- RESULT of REFUSED_CAPACITY (R544): `flags` bit 0 deadline passed, bit 1 can never fit. -/
def capacityResult (q : Shortage) (flags : Nat) : List Byte :=
  [BitVec.ofNat 8 q.resource, BitVec.ofNat 8 q.detail, BitVec.ofNat 8 flags, 0] ++ le 4 q.need ++ le 4 q.avail

/-- EV_STREAM_THROTTLED of one stream (R539, R582). -/
def State.throttledEvent (i resource : Nat) (s : State) : State :=
  let x := s.streams.getD i Stream.reset
  s.raiseTo x.owner 0x05 [BitVec.ofNat 8 i, BitVec.ofNat 8 x.decim, BitVec.ofNat 8 (if x.decim = 1 then 0 else resource), 0]

/-- Every open stream fits on the links in the configuration and the formatters. -/
def Cxp.allFit (c : Cxp) (l : List Counted) : Bool :=
  (List.range 4).all (fun n => c.budget n = 0 || c.linkFits l n) && fmtFits l

/-- Order of R583: by class, then by admission. -/
def lessD (a b : Stream) : Bool := a.cls < b.cls || (a.cls = b.cls && a.admitSeq < b.admitSeq)

/-- The stream whose D may be halved next: class order, within a class order of admission, among those a test allows. -/
def halveNext (l : List Counted) (ok : Nat → Bool) : Option Nat :=
  ((List.range l.length).foldl (fun best i => match l[i]? with
    | some x => if x.stream.opened && 1 < x.stream.decim && ok i then
        (match best with
          | some (j, y) => if lessD x.stream y then some (i, x.stream) else some (j, y)
          | none => some (i, x.stream))
        else best
    | none => best) (none : Option (Nat × Stream))).map (·.1)

/-- Halves one stream's D. -/
def halveD (l : List Counted) (i : Nat) : List Counted :=
  l.modify i (fun x => { x with stream := { x.stream with decim := x.stream.decim / 2 } })

/-- R583: halves each stream's D while the result fits. `stuck` lists the streams that no longer can. -/
def reduceD (c : Cxp) : Nat → List Nat → List Counted → List Counted
  | 0, _, l => l
  | k + 1, stuck, l =>
    match halveNext l (fun i => !stuck.contains i) with
    | none => l
    | some i => if c.fits (halveD l i) ((l[i]?.map (·.stream.route)).getD 0) then reduceD c k stuck (halveD l i) else reduceD c k (i :: stuck) l

/-- A link of the route does not carry a load. -/
def Cxp.linkShort (c : Cxp) (l : List Counted) (route : Nat) : Bool := (List.range 4).any (fun n => route.testBit n && !c.linkFits l n)

/-- The resource that set a stream's D, the first in the order of R569 that its next smaller D would overload; where none would, the
first that the streams undecimated would (R539). -/
def setBy (c : Cxp) (l : List Counted) (i : Nat) : Nat :=
  let route := (l[i]?.map (·.stream.route)).getD 0
  if c.linkShort (halveD l i) route then 1
  else if !fmtFits (halveD l i) then 2
  else if c.linkShort (l.map (fun x => { x with stream := { x.stream with decim := 1 } })) route then 1
  else 2

/-- Puts the streams of an admission in force and reports every change of D (R574, R582). -/
def State.setStreams (l : List Counted) (s : State) : State :=
  let new := (l.map (·.stream)).take s.streams.length
  ((List.range 16).filter (fun i => (s.streams.getD i Stream.reset).decim ≠ (new.getD i Stream.reset).decim
      && (s.streams.getD i Stream.reset).opened && (new.getD i Stream.reset).opened)).foldl
    (fun t i => t.throttledEvent i (setBy s.cxp l i)) (s.onStreams (fun _ => new))

/-- Lifts decimation where it fits (R583). -/
def State.liftDecimation (s : State) : State :=
  s.setStreams (reduceD s.cxp 80 [] (s.counted s.streams s.rd.count s.rd.cfgPeriod))

/-- Decimates streams of class above 0 until every demand fits (R832). -/
def decimateAll (c : Cxp) : Nat → List Counted → List Counted
  | 0, l => l
  | k + 1, l =>
    if c.allFit l then l
    else match victim l 0 with
      | some i => decimateAll c k (doubleD l i)
      | none => l

/-- The configured periods come back into force: decimation first where the demand does not fit, then R583 (R832). -/
def State.restoreDemand (s : State) : State :=
  (s.setStreams (decimateAll s.cxp 64 (s.counted s.streams s.rd.count s.rd.cfgPeriod))).liftDecimation

/-- Inserts a stream number in the order of R583. -/
def insertStream (l : List Stream) (i : Nat) : List Nat → List Nat
  | [] => [i]
  | j :: js =>
    if lessD (l.getD j Stream.reset) (l.getD i Stream.reset) then j :: insertStream l i js else i :: j :: js

/-- Order in which a change of the readout evaluates the open streams: class, then admission (R572). -/
def evalOrder (l : List Stream) : List Nat :=
  ((List.range l.length).filter (fun i => (l.getD i Stream.reset).opened)).foldr (insertStream l) []

/-- R572: each open stream in turn moves to the new window and period at its own class; refused when one is. -/
def admitReadout (s : State) (rows period : Nat) : List Nat → List Counted → Except Shortage (List Counted)
  | [], l => .ok l
  | i :: is, l =>
    let l' := l.modify i (fun x => { x with rows := rows, period := s.countedPeriod x.stream.cls period })
    match admitStream s.cxp l' i (s.streams.getD i Stream.reset).cls with
    | .ok t => admitReadout s rows period is t
    | .error q => .error q

/-- The greatest admission number given so far. -/
def State.lastAdmit (s : State) : Nat := (s.streams.map (·.admitSeq)).foldl max 0

end Sys2Proof.Machine
end

