-- ==== Sys2Proof/Machine/HaulCode.lean ====
section
/-!
DEFINITION. What crosses the Haul link (spec/07_haul_link.md R347 to R367): the 67-bit blocks with their scrambler, inversion and
headers, the packing of samples, the control blocks, the frame of a row on a lane with its CRC, the checks of the receiver, the training
of a lane, and the frames of the downstream lane.
-/

namespace Sys2Proof.Machine

open Sys2Proof

/-! ## Samples and payloads (R349) -/

/-- A sample as the C die has it. -/
structure Sample where
  code   : Nat
  ovr    : Bool
  settle : Bool
  deriving DecidableEq, Repr

/-- What a block with an invalid header is delivered as (R365). -/
def Sample.lost : Sample where
  code := 0
  ovr := true
  settle := true

/-- The 16 bits of a sample: code, OVR, SETTLE (R349). -/
def Sample.bits (x : Sample) : Nat := x.code % 0x4000 + bit x.ovr * 0x4000 + bit x.settle * 0x8000

/-- The sample of 16 bits (R349). -/
def Sample.ofBits (v : Nat) : Sample where
  code := v % 0x4000
  ovr := v.testBit 14
  settle := v.testBit 15

/-- The payload of a data block: sample n in bits [16n + 15:16n] (R349). -/
def dataPayload (l : List Sample) : BitVec 64 :=
  BitVec.ofNat 64 ((l.take 4).foldr (fun x v => x.bits + 0x10000 * v) 0)

/-- The four samples of a payload (R349). -/
def payloadSamples (p : BitVec 64) : List Sample := (List.range 4).map (fun n => Sample.ofBits (p.toNat / 2 ^ (16 * n) % 0x10000))

/-! ## Control blocks (R350) -/

/-- The payload of a control block: its type and the 56 bits below (R350). -/
def control (type low : Nat) : BitVec 64 := BitVec.ofNat 64 (type % 256 * 2 ^ 56 + low % 2 ^ 56)

def idleBlock : BitVec 64 := control 0x1E 0

def rowStartBlock (row frame lane : Nat) (first last : Bool) : BitVec 64 :=
  control 0x2D (row % 2048 * 2 ^ 45 + frame % 4096 * 2 ^ 33 + lane % 4 * 2 ^ 31 + bit first * 2 ^ 30 + bit last * 2 ^ 29)

def rowEndBlock (crc count : Nat) : BitVec 64 := control 0x4B (crc % 2 ^ 32 * 2 ^ 24 + count % 512 * 2 ^ 15)

def regRespBlock (tag status data : Nat) : BitVec 64 :=
  control 0x78 (tag % 256 * 2 ^ 48 + status % 256 * 2 ^ 40 + data % 2 ^ 32)

def trainBlock (lane counter : Nat) : BitVec 64 := control 0x96 (lane % 4 * 2 ^ 54 + counter % 2 ^ 22 * 2 ^ 32 + 0xA5C33C5A)

/-- The type of a control payload. -/
def controlType (p : BitVec 64) : Nat := p.toNat / 2 ^ 56

/-! ## The coding of a block (R347, R348) -/

/-- One bit of the self-synchronising scrambler x⁵⁸ + x³⁹ + 1 at the sender: the bit sent, and its register. -/
def scrambleBit (r : BitVec 58) (b : Bool) : Bool × BitVec 58 :=
  let o := (b ^^ r.getLsbD 38) ^^ r.getLsbD 57
  (o, (r <<< 1) ||| BitVec.ofNat 58 (bit o))

/-- The same at the receiver, where the register takes the bit received. -/
def descrambleBit (r : BitVec 58) (b : Bool) : Bool × BitVec 58 :=
  ((b ^^ r.getLsbD 38) ^^ r.getLsbD 57, (r <<< 1) ||| BitVec.ofNat 58 (bit b))

/-- A payload through one of the two, bit 0 first (log entry 163). -/
def codePayload (f : BitVec 58 → Bool → Bool × BitVec 58) (r : BitVec 58) (p : BitVec 64) : BitVec 64 × BitVec 58 :=
  (List.range 64).foldl (fun x i =>
    let y := f x.2 (p.getLsbD i)
    (x.1 ||| BitVec.ofNat 64 (bit y.1 * 2 ^ i), y.2)) (0, r)

/-- Ones less zeros of a block. -/
def disparityOf (b : BitVec 67) : Int := 2 * ((List.range 67).filter (fun i => b.getLsbD i)).length - 67

/-- The 67 bits: header, inversion bit, payload (R347). -/
def blockBits (header : Nat) (inverted : Bool) (p : BitVec 64) : BitVec 67 :=
  BitVec.ofNat 67 (header % 4 * 2 ^ 65 + bit inverted * 2 ^ 64 + (if inverted then ~~~p else p).toNat)

/-- The sender inverts when the running disparity is then the smaller (R348). -/
def inverts (disparity : Int) (header : Nat) (p : BitVec 64) : Bool :=
  (disparity + disparityOf (blockBits header true p)).natAbs < (disparity + disparityOf (blockBits header false p)).natAbs

/-- One block leaves a lane: the 67 bits and the lane's sender after it. -/
def LaneTx.send (x : LaneTx) (data : Bool) (p : BitVec 64) : BitVec 67 × LaneTx :=
  let header := if data then 1 else 2
  let y := codePayload scrambleBit x.scrambler p
  let b := blockBits header (inverts x.disparity header y.1) y.1
  (b, { scrambler := y.2, disparity := x.disparity + disparityOf b })

/-- How the receiver takes a block's header (R347, R365). -/
inductive Header where
  | data | control | invalid
  deriving DecidableEq, Repr

/-- The header of a block. -/
def headerOf (b : BitVec 67) : Header :=
  match b.toNat / 2 ^ 65 with
  | 1 => .data
  | 2 => .control
  | _ => .invalid

/-- One block arrives on a lane: its header, its payload, and the lane's receiver with the header's validity among the last 64
(R367). -/
def LaneRx.take (x : LaneRx) (b : BitVec 67) : Header × BitVec 64 × LaneRx :=
  let p : BitVec 64 := b.setWidth 64
  let y := codePayload descrambleBit x.scrambler (if b.getLsbD 64 then ~~~p else p)
  (headerOf b, y.1, { scrambler := y.2, headers := (decide (headerOf b = .invalid) :: x.headers).take 64 })

/-- Invalid headers among the last 64 blocks. -/
def LaneRx.invalids (x : LaneRx) : Nat := (x.headers.filter id).length

/-- A lane loses block lock when 16 of any 64 consecutive blocks carry an invalid header (R367). -/
def LaneRx.unlocked (x : LaneRx) : Bool := 16 ≤ x.invalids

/-! ## Lanes and columns (R351) -/

/-- Physical column of position `s` on the `h`-th of `n` lanes in service (R351). -/
def laneColumn (n h s : Nat) : Nat :=
  let per := 36 / n
  36 * ((s % per) * n + h) + s / per

/-- Lanes in service, in increasing order. -/
def Haul.lanes (h : Haul) : List Nat := (List.range 4).filter (fun n => h.lanesUp.testBit n)

/-- The lane, among `n`, and the position on it of a physical column (R308, R351). -/
def columnPlace (n c : Nat) : Nat × Nat := (c / 36 % n, 36 / n * (c % 36) + c / 36 / n)

/-- Data blocks of a row on each of `n` lanes (R352). -/
def dataBlocks (n : Nat) : Nat := 1296 / (4 * n)

/-- IDLE blocks that follow a row before the next one at a row time (R352, R373). -/
def idleBlocks (n rt : Nat) : Nat := rt * 1000 / 2144 - (dataBlocks n + 2)

/-! ## A row on a lane (R350 to R353, R365 to R367) -/

/-- The eight bytes of a payload, least significant first (R353). -/
def payloadBytes (p : BitVec 64) : List Byte := le 8 p.toNat

/-- CRC of a row's data payloads (R353). -/
def rowCrc (l : List (BitVec 64)) : Nat := (crc32 (l.map payloadBytes).flatten).toNat

/-- The blocks of a row on the h-th of n lanes: IDLE, ROW_START, the data blocks, ROW_END (R352); true marks data. -/
def rowBlocks (start : BitVec 64) (n h rt : Nat) (a : Array Sample) : List (Bool × BitVec 64) :=
  let data := (List.range (dataBlocks n)).map (fun b =>
    dataPayload ((List.range 4).map (fun k => a.getD (laneColumn n h (4 * b + k)) Sample.lost)))
  List.replicate (idleBlocks n rt) (false, idleBlock) ++ [(false, start)] ++ data.map (fun p => (true, p))
    ++ [(false, rowEndBlock (rowCrc data) (dataBlocks n))]

/-- The blocks as the lane sends them. -/
def sendAll (x : LaneTx) : List (Bool × BitVec 64) → List (BitVec 67) × LaneTx
  | [] => ([], x)
  | (d, p) :: rest =>
    let y := x.send d p
    let z := sendAll y.2 rest
    (y.1 :: z.1, z.2)

/-- What a lane has received of a row. -/
structure LaneRow where
  rx : LaneRx
  /-- Headers and payloads, oldest first. -/
  got : List (Header × BitVec 64)
  /-- Block lock was lost before the row's end (R367). -/
  lost : Bool

/-- The blocks as they arrive, until block lock is lost (R367). -/
def receiveAll (x : LaneRx) : List (BitVec 67) → LaneRow
  | [] => { rx := x, got := [], lost := false }
  | b :: rest =>
    let y := x.take b
    if y.2.2.unlocked then { rx := y.2.2, got := [(y.1, y.2.1)], lost := true }
    else
      let z := receiveAll y.2.2 rest
      { z with got := (y.1, y.2.1) :: z.got }

/-- The bits in error of the k-th block of a row on a lane, counted from ROW_START. -/
def errorsAt (l : List (Nat × Nat × BitVec 67)) (lane k : Nat) : BitVec 67 :=
  ((l.filter (fun e => e.1 = lane && e.2.1 = k)).map (·.2.2)).foldl (· ^^^ ·) 0

/-- The data slots of a received row: everything between ROW_START and ROW_END. -/
def LaneRow.slots (idle n : Nat) (x : LaneRow) : List (Header × BitVec 64) := (x.got.drop (idle + 1)).take (dataBlocks n)

/-- Samples of a slot: those of a data block; a block with an invalid header gives four lost ones (R365), and so does one that errors turn
into a control block (log entry 163). -/
def slotSamples (x : Header × BitVec 64) : List Sample :=
  match x.1 with
  | .data => payloadSamples x.2
  | .invalid => List.replicate 4 Sample.lost
  | .control => List.replicate 4 Sample.lost

/-- Blocks of the row that arrived with an invalid header (R365). -/
def LaneRow.invalids (x : LaneRow) : Nat := (x.got.filter (fun b => b.1 = .invalid)).length

/-- ROW_END matches the CRC of the data blocks as received and their count (R353, R366). -/
def LaneRow.endMatches (idle n : Nat) (x : LaneRow) : Bool :=
  let data := (x.slots idle n).filter (fun b => b.1 ≠ .control)
  match x.got[idle + 1 + dataBlocks n]? with
  | some (.control, p) => p = rowEndBlock (rowCrc (data.map (·.2))) data.length
  | _ => false

/-! ## The training of a lane (R350, R359) -/

/-- A TRAIN block of this lane: its block counter (R350). -/
def trainCounter (lane : Nat) (p : BitVec 64) : Option Nat :=
  let c := p.toNat / 2 ^ 32 % 2 ^ 22
  if p = trainBlock lane c then some c else none

/-- The counters that the lanes of a training receive at one instant. -/
def trainCounters (l : List LaneReport) : List Nat := l.filterMap (fun x => if x.lock then trainCounter x.lane x.train else none)

/-- A lane is trained: block lock, at most 8 blocks behind the earliest lane, and 240 verification rows without a header error or a CRC
mismatch (R359). -/
def laneTrained (x : LaneReport) (l : List LaneReport) : Bool :=
  match trainCounter x.lane x.train with
  | some c => x.lock && (trainCounters l).all (fun d => d ≤ c + 8) && x.rows = 240 && x.headerErrors = 0 && x.crcErrors = 0
  | none => false

/-- The lanes that an attempt trains (R359). -/
def trainedMask (l : List LaneReport) : Nat :=
  ((List.range 4).filter (fun n => l.any (fun x => x.lane = n && laneTrained x l))).foldl (fun m n => m + 2 ^ n) 0

/-! ## Downstream frames (R354 to R356, R383) -/

/-- Characters of a frame (R354). -/
def DownFrame.chars : DownFrame → Nat
  | .rowGo _ _ => 6
  | .arm => 6
  | .disarm => 6
  | .apply => 6
  | .wait => 6
  | .fpaRead => 4
  | .regRead _ _ => 8
  | .regWrite _ _ _ => 12
  | .training _ => 6
  | .idle => 1

/-- Row-sequencer commands go first, the priority read right after them (R355, R383). -/
def DownFrame.rank : DownFrame → Nat
  | .rowGo _ _ => 0
  | .arm => 0
  | .disarm => 0
  | .apply => 0
  | .wait => 0
  | .fpaRead => 1
  | .regRead _ _ => 2
  | .regWrite _ _ _ => 2
  | .training _ => 2
  | .idle => 3

/-- The downstream frame of an access (R354). -/
def RegAccess.frame (r : RegAccess) : DownFrame :=
  match r.write with
  | some v => .regWrite r.tag r.addr v
  | none => .regRead r.tag r.addr

/-- A frame joins those that wait, ahead of the ones that it preempts (R355). -/
def downInsert (f : DownFrame) : List DownFrame → List DownFrame
  | [] => [f]
  | x :: xs => if x.rank ≤ f.rank then x :: downInsert f xs else f :: x :: xs

/-- A frame is handed to the downstream lane. -/
def Haul.downSend (f : DownFrame) (h : Haul) : Haul := { h with down := downInsert f h.down }

/-- The frame on the downstream lane: the first that waits, else a comma (R354). -/
def Haul.downNow (h : Haul) : DownFrame := h.down.headD .idle

/-- It has been sent. -/
def Haul.downSent (h : Haul) : Haul := { h with down := h.down.tail }

/-- ROW_GO for an integration start, sent earlier by the downstream latency (R356); times in ns. -/
def Haul.rowGo (s0 : Nat) (h : Haul) : Haul := h.downSend (.rowGo s0 (10 * s0 - h.dsLat))

/-- The two ends of the upstream lanes right after a training: nothing sent, nothing received. -/
def Haul.freshLanes (h : Haul) : Haul :=
  { h with tx := List.replicate 4 LaneTx.fresh, rx := List.replicate 4 LaneRx.fresh }

/-- The sender of a lane. -/
def Haul.laneTx (h : Haul) (n : Nat) : LaneTx := h.tx.getD n LaneTx.fresh

/-- The receiver of a lane. -/
def Haul.laneRx (h : Haul) (n : Nat) : LaneRx := h.rx.getD n LaneRx.fresh

/-- A control block crosses a lane. -/
def Haul.carry (n : Nat) (p : BitVec 64) (h : Haul) : Haul :=
  let y := (h.laneTx n).send false p
  { h with tx := h.tx.modify n (fun _ => y.2), rx := h.rx.modify n (fun x => (x.take y.1).2.2) }

end Sys2Proof.Machine
end

