-- ==== Sys2Proof/Machine/Streams.lean ====
section
/-!
DEFINITION. Shared operations of streams and the readout: arming, disarming, halting at frame end, truncation.
-/

namespace Sys2Proof.Machine

open Sys2Proof

/-- A stream by number. -/
def State.stream (s : State) (i : Nat) : Stream := s.streams.getD i Stream.reset

/-- One stream replaced by a function of it. -/
def State.onStream (i : Nat) (f : Stream → Stream) (s : State) : State := s.onStreams (fun l => l.modify i f)

/-- The 16-byte end marker of a truncated frame (R522). -/
def endMarkerBytes (frame rows : Nat) : List Byte :=
  le 4 0x454E445A ++ le 4 frame ++ le 2 rows ++ [0x01#8] ++ List.replicate 5 0#8

/-- The links of a route, the lowest first. -/
def routeLinks (route : Nat) : List Nat := (List.range 4).filter (route.testBit ·)

/-- Links in use of a route. -/
def Cxp.linksUp (c : Cxp) (route : Nat) : List Nat := (routeLinks route).filter (fun n => (c.links.getD n Link.off).up)

/-- The bytes a stream packet carries at most (R498). -/
def Cxp.packetLimit (c : Cxp) : Nat := max 1 (min c.packetMax 16384)

/-- Bytes of a part of an image. DESIGN CHOICE (log entry 166): the image header takes one packet. -/
def ImagePart.size : ImagePart → Nat
  | .header _ _ _ => 1
  | .line _ _ bs => bs.length
  | .trailer bs => bs.length
  | .endMarker bs => bs.length

/-- A part of an image starts the rotation anew (R521). -/
def ImagePart.first : ImagePart → Bool
  | .header _ _ _ => true
  | .line _ _ _ => false
  | .trailer _ => false
  | .endMarker _ => false

/-- Packets a part of an image takes: as few as the limit allows, none shared with the next part (DESIGN CHOICE, log entry 166). -/
def Cxp.packets (c : Cxp) (x : ImagePart) : Nat := max 1 (ceilDiv x.size c.packetLimit)

/-- The links of `k` packets that begin at a turn, one link of the route after the other (R521). -/
def turnLinks (route turn k : Nat) : List Nat :=
  let l := routeLinks route
  (List.range k).map (fun j => l.getD ((turn + j) % l.length) 0)

/-- Hands a part of a stream's image to its links while one is up: its packets go to them in turn, beginning at the lowest with every
image header; once a link of the route is lost, the end marker goes to every other (R492, R521, R522, R527). -/
def State.sendStream (i : Nat) (x : ImagePart) (s : State) : State :=
  let route := (s.stream i).route
  let up := s.cxp.linksUp route
  let from_ := if x.first then 0 else (s.stream i).turn
  let k := s.cxp.packets x
  if up.isEmpty then s
  else if up.length < (routeLinks route).length then s.onCxp (Cxp.emit [.image i up x])
  else (s.onCxp (Cxp.emit [.image i (turnLinks route from_ k) x])).onStream i (fun y => { y with turn := (from_ + k) % up.length })

/-- The image header of a stream's frame: the pixel rectangle alone; QUAL4 carries two pixels in a byte (R519). -/
def State.imageHeader (i : Nat) (s : State) : State :=
  let x := s.stream i
  s.sendStream i (if x.pixfmt = 3 then .header (x.colCount / 2) s.rd.count 8 else .header x.colCount s.rd.count 16)

/-- A stream halted with its marks cleared. -/
def Stream.halted (x : Stream) : Stream :=
  { x with running := false, inFrame := false, haltDue := false, closeDue := false, snap := none }

/-- A stream closed (R564, R603). -/
def Stream.closed (_ : Stream) : Stream := Stream.reset

/-- EV_FRAME_DROP (R539, R22). -/
def State.raiseDrop (i cause frame : Nat) (s : State) : State :=
  s.raise 0x06 ([BitVec.ofNat 8 i, BitVec.ofNat 8 cause, 0, 0] ++ le 4 frame)

/-- The number of the frame in transfer (R417). -/
def Rd.present (r : Rd) : Nat := r.frame

/-- Active rows of the frame in transfer that have been delivered (R522). -/
def Rd.delivered (r : Rd) : Nat := min r.rowsDone r.count

/-- Commands that wait for a stream's frame end are answered OK (R603); in a core outage they stay unanswered (R113). -/
def State.answerFrameEnd (i : Nat) (s : State) : State :=
  if !s.coreServes then s else
  (s.sess.flights.filter (fun f => f.st = .waiting (.frameEnd i))).foldl (fun t f => t.answerOpen f stOk []) s

/-- The completion of a FRAME_SNAP: first and last FRAME_NUMBER and frames sent (R603). -/
def snapResult (first sent : Nat) : List Byte :=
  le 4 first ++ le 4 ((first + sent + 2 ^ 32 - 1) % 2 ^ 32) ++ le 2 sent

/-- Ends a FRAME_SNAP of a stream with a status (R608). -/
def State.endSnap (i st : Nat) (s : State) : State :=
  match (s.stream i).snap with
  | some (session, tag, _, first, sent) =>
    s.complete0 session tag 0x17 st (if st = stOk then snapResult first sent else [])
  | none => s

/-- The mirrors take stream 0 as it is opened (R500). -/
def State.mirrorOpen (s : State) : State :=
  s.onCxp (fun c => { c with width := (s.stream 0).colCount, height := s.rd.count, pixfmt := (s.stream 0).pixfmt })

/-- The mirrors read zero while stream 0 is closed (R500). -/
def State.mirrorClosed (s : State) : State :=
  s.onCxp (fun c => if (s.stream 0).opened then c else { c with width := 0, height := 0, pixfmt := 0 })

/-- A frame in transfer on a running stream is truncated: end marker, dropped count and event; the stream is halted and left
open (R522, R527, R171). `st` ends a FRAME_SNAP. -/
def State.truncate (st i : Nat) (s : State) : State :=
  let x := s.stream i
  let s1 := s.endSnap i st
  let s2 := if x.inFrame then
      ((s1.sendStream i (.endMarker (endMarkerBytes s.rd.present s.rd.delivered))).raiseDrop i 1 s.rd.present).onStream i
        (fun y => { y with dropped := satAdd 0xFFFFFFFF y.dropped 1 })
    else s1
  ((s2.onStream i (fun y => if x.closeDue then Stream.reset else y.halted)).answerFrameEnd i).mirrorClosed

/-- The running streams. -/
def State.runningStreams (s : State) : List Nat := (List.range 16).filter (fun i => (s.stream i).running)

/-- Truncates and halts every running stream a test picks. -/
def State.truncateAll (st : Nat) (p : Stream → Bool) (s : State) : State :=
  (s.runningStreams.filter (fun i => p (s.stream i))).foldl (fun t i => t.truncate st i) s

/-- The readout is armed or running (R305). -/
def Rd.isArmed (r : Rd) : Bool := r.state = .armed || r.state = .running

/-- One ADC's trim from its low and high test samples (R328, R330): the new trim, TRACK_LIMIT, CAL_ADVISED. -/
def trackTrim (trim : Int) (low high : Nat) (m : Nat × Nat × Nat × Nat) : Int × Bool × Bool :=
  let lc := m.1
  let ls := m.2.1
  let hc := m.2.2.1
  let hs := m.2.2.2
  if lc < 72 || hc < 72 then (trim, false, false)
  else
    let err := roundDivI ((16 * (ls * hc + hs * lc) : Nat) - ((low + high) * lc * hc : Nat)) (2 * lc * hc)
    let t := clamp (-512) 511 (trim + clamp (-1) 1 err)
    let span : Int := (high : Int) - (low : Int)
    let off := (16 * ((hs * lc : Nat) - (ls * hc : Nat) : Int) - span * (lc * hc : Nat)).natAbs
    (t, t = -512 || t = 511, t = -512 || t = 511 || span * (lc * hc : Nat) < 200 * (off : Int))

/-- Test-row sums of a frame that has delivered none. -/
def noSums : List (Nat × Nat × Nat × Nat) := List.replicate 36 (0, 0, 0, 0)

/-- Every ADC's trim moves; the sums of the frame are used up (R328, R329). -/
def Rd.track (r : Rd) : Rd :=
  let l := r.trims.mapIdx (fun j t => trackTrim t (r.targetLow.getD j 0) (r.targetHigh.getD j 0) (r.testSums.getD j (0, 0, 0, 0)))
  { r with
    trims := l.map (·.1)
    trackLimit := r.trackLimit || l.any (·.2.1)
    calAdvised := r.calAdvised || l.any (·.2.2)
    testSums := noSums }

/-- The frame-start slot of the last frame still moves the trims when every row of it has come; a frame that is cut has no such slot
(R328). -/
def Rd.trackLast (r : Rd) : Rd :=
  if !r.frameOpen && r.rowsDone = r.count + 24 then r.track else { r with testSums := noSums }

/-- An event belongs to the frame in transfer, not to one whose S_0 has passed meanwhile (R420). -/
def Rd.owns (r : Rd) (e : ActEvent) : Bool :=
  match r.next with
  | some f => e.time < f.s0
  | none => true

/-- An event of a frame whose trailer is not assembled is listed late in the next one (R420). -/
def Rd.tooLate (r : Rd) (e : ActEvent) : ActEvent := { e with late := e.late || r.owns e }

/-- Every event that waits comes late: no frame of the readout is left (R420). -/
def Act.eventsLate (a : Act) : Act := { a with events := a.events.map (fun e => { e with late := true }) }

/-- A calibration armed this readout in free-run (R446). -/
def Rd.forCal (r : Rd) : Bool := r.armedBy = .calibration || r.armedBy = .calKept

/-- The readout disarms: no start waits, no frame is open (R606). -/
def Rd.disarm (r : Rd) : Rd :=
  { r.trackLast with
    state := if r.isArmed then .disarmed else r.state
    armedBy := .nobody
    int := r.cfgInt
    period := r.cfgPeriod
    pendInt := none
    pendPeriod := none
    disarmDue := false
    nextS0 := none
    slot := none
    next := none
    skipNext := false
    frameOpen := false
    anyFrame := false
    firstFrame := true }

/-- The readout arms and waits for a start (R302, R606). -/
def Rd.arm (by_ : ArmedBy) (t : Nat) (r : Rd) : Rd :=
  { r with
    state := .armed
    armedBy := by_
    disarmDue := false
    nextS0 := none
    slot := none
    next := none
    skipNext := false
    frameOpen := false
    anyFrame := false
    firstFrame := true
    frameNumber := 0
    gridOrigin := t }

/-- The module leads its gang (R675). -/
def State.leads (s : State) : Bool := s.gang.state ≠ 0 && s.gang.leader = s.trig.gangId

/-- Every expected member is present and in agreement, and no member's CONFIG_HASH differs (R684, R692). -/
def Gang.complete (g : Gang) : Bool := g.expected &&& g.present &&& g.agree = g.expected && g.differs &&& g.present = 0

/-- The gang state of a leader whose readout arms: ARMED, RUNNING once every expected member agrees (R683, R684). -/
def Gang.arm (g : Gang) : Gang := { g with state := if g.complete then 3 else 2, lastStart := none, toArmed := false }

/-- The gang state of a leader whose readout disarms: IDLE (R683). -/
def Gang.disarm (g : Gang) : Gang := { g with state := 1, lastStart := none, toArmed := false }

/-- The readout arms, and its sequencer then runs wait rows (R302, R354). -/
def State.rdArmed (by_ : ArmedBy) (s : State) : State :=
  (s.onRd (Rd.arm by_ s.tb.now)).onHaul (fun h => (h.downSend .arm).downSend .wait)

/-- STREAM_START or READOUT_ARM arms the readout, and with it the gang that the module leads (R683). -/
def State.rdArm (by_ : ArmedBy) (s : State) : State :=
  (s.onGang (fun g => if s.leads then g.arm else g)).rdArmed by_

/-- A readout with no frame running takes the frame-rate step at once; a running one at its next frame-start slot (R307, R341, R832). -/
def State.rateStep (s : State) : State :=
  s.onRd (fun r => if r.state = .running then r else { r with throttled := 2 ≤ s.level })

/-- The readout disarms, and with it the gang that the module leads. -/
def State.rdDisarm (s : State) : State :=
  ((((s.onRd Rd.disarm).onGang (fun g => if s.leads then g.disarm else g)).onHaul (Haul.downSend .disarm)).onAct Act.eventsLate).rateStep

/-- Run ends when the last stream has halted and the readout is disarmed (R36). -/
def State.toIdle (s : State) : State := if s.pwr.mode = .run then s.enter .idle else s

/-- A readout that STREAM_START armed, or that a stream keeps after a calibration, disarms when its last running stream has halted (R606). -/
def State.settle (s : State) : State :=
  if s.runningStreams.isEmpty && (s.rd.armedBy = .streamStart || s.rd.armedBy = .calKept || s.rd.disarmDue) && s.rd.isArmed then
    s.rdDisarm.toIdle
  else s

/-- The readout stops at once: the frame in transfer is truncated on every running stream (R172, R199, R369). -/
def State.stopReadout (st : Nat) (s : State) : State :=
  let s1 := s.truncateAll st (fun _ => true)
  if s.rd.isArmed then s1.rdDisarm.toIdle else s1

/-- A stream halts at the end of its frame in transfer, at once when none is (R553, R603). -/
def State.haltAtEnd (i : Nat) (close : Bool) (s : State) : State :=
  if (s.stream i).inFrame then s.onStream i (fun x => { x with haltDue := true, closeDue := x.closeDue || close })
  else (((s.endSnap i stFailAborted).onStream i (fun x => if close then x.closed else x.halted)).answerFrameEnd i).mirrorClosed

/-- Every running stream halts at frame end, then the readout disarms (R41, R603). -/
def State.haltAllAtEnd (s : State) : State :=
  (s.runningStreams.foldl (fun t i => t.haltAtEnd i false) (s.onRd (fun r => { r with disarmDue := true }))).settle

end Sys2Proof.Machine
end

