-- ==== Sys2Proof/Machine/ActOps.lean ====
section
/-!
DEFINITION. Shared operations of the actuator drive (spec/14_actuator_drive.md): channels, peak slots, fires, schedules, the
Chisel sequencers and shutter moves. Channels by index: 0 to 3 bank A, 4 to 7 bank B, 8 the shutter.
-/

namespace Sys2Proof.Machine

open Sys2Proof

/-- Index of an NCP channel code (R419). -/
def chanIndex (code : Nat) : Option Nat :=
  if code < 4 then some code
  else if 0x10 ≤ code && code < 0x14 then some (code - 0x10 + 4)
  else if code = 0x20 then some 8
  else none

/-- NCP channel code of an index (R419). -/
def chanCode (i : Nat) : Nat := if i < 4 then i else if i < 8 then i - 4 + 0x10 else 0x20

/-- Code of a bank as a whole. -/
def bankCode (bank : Nat) : Nat := if bank = 0 then 0x04 else 0x14

/-- Bank of a channel index, 2 for the shutter; also the number of its sequencer. -/
def bankOf (i : Nat) : Nat := i / 4

/-- One channel replaced by a function of it. -/
def State.onChan (i : Nat) (f : Chan → Chan) (s : State) : State := s.onAct (fun a => { a with chans := a.chans.modify i f })

/-- One sequencer replaced by a function of it. -/
def State.onChisel (q : Nat) (f : Chisel → Chisel) (s : State) : State :=
  s.onAct (fun a => { a with chisels := a.chisels.modify q f })

/-- A channel of the state. -/
def State.chan (s : State) (i : Nat) : Chan := s.act.chan i

/-- EV_ACT_FAULT (R539, R734). -/
def State.actFaultEvent (code fault : Nat) (s : State) : State :=
  s.raise 0x0C [BitVec.ofNat 8 code, BitVec.ofNat 8 fault, 0, 0]

/-- EV_ACT_DIAG (R539, R762). -/
def State.actDiag (code kind value : Nat) (s : State) : State :=
  s.raise 0x0D ([BitVec.ofNat 8 code, BitVec.ofNat 8 kind, 0, 0] ++ le 4 value)

/-! ## Duty (R726) -/

/-- Overlap of an interval with another. -/
def overlap (a b lo hi : Nat) : Nat := min b hi - max a lo

/-- Duty in thousandths over the window that ends at `t` (R726). -/
def Chan.duty (c : Chan) (t : Nat) : Nat :=
  let w := msTicks c.cfg.dutyWindow
  let lo := t - w
  let closed := (c.onTimes.map (fun p => overlap p.1 p.2 lo t)).sum
  let present := if c.phase = .off then 0 else overlap c.busyFrom t lo t
  if w = 0 then 0 else (closed + present) * 1000 / w

/-- Duty at or above its limit; a limit of 0 stands for none set (R727). -/
def Chan.dutySpent (c : Chan) (t : Nat) : Bool := 0 < c.cfg.dutyLimit && c.cfg.dutyLimit ≤ c.duty t

/-! ## Phases -/

/-- The channel leaves off: its busy interval begins. -/
def Chan.begin (t : Nat) (c : Chan) : Chan := if c.phase = .off then { c with busyFrom := t } else c

/-- The channel is off: its busy interval ends; intervals older than the longest window are forgotten (R726). -/
def Chan.finish (t : Nat) (c : Chan) : Chan :=
  if c.phase = .off then c
  else { c with phase := .off, pathOn := false, chisel := false,
                onTimes := (c.onTimes.filter (fun p => t ≤ p.2 + msTicks 10000)) ++ [(c.busyFrom, t)] }

/-- Turn-off: fast decay (R709). -/
def Chan.turnOff (c : Chan) : Chan := if c.phase = .off then c else { c with phase := .turnOff, pathOn := false }

/-- Boost begins: switch-on (R709). -/
def Chan.switchOn (t hold : Nat) (c : Chan) : Chan :=
  { c.begin t with phase := .boost, pathOn := true, peaked := false, onAt := t, offAt := t + usTicks (if hold = 0 then c.cfg.defHold else hold),
                   motion := false, lastSwitch := t, waiting := none, chisel := false, fires := (c.fires + 1) % 2 ^ 32,
                   level := c.cfg.iHold, levelBand := c.cfg.band }

/-- Twice the ceiling of a channel, which keeps half a band whole (R713); I_HOLD and the band are those of its configuration also where
a program has set another level (log entry 167). -/
def Chan.ceiling (c : Chan) : Nat :=
  match c.phase with
  | .boost => 2 * c.cfg.iPeak
  | .decay => 2 * c.cfg.iPeak
  | .hold => 2 * c.cfg.iHold + c.cfg.band
  | .free => 2 * c.cfg.iHold + c.cfg.band
  | .turnOff => 0
  | .off => 0

/-- Channels of a bank other than one. -/
def othersOf (i : Nat) : List Nat := ((List.range 4).map (· + 4 * bankOf i)).filter (· ≠ i)

/-- The ceilings of a bank with the requester counted at I_PEAK are at most 12,000 mA (R713). -/
def Act.ceilingMet (a : Act) (i : Nat) : Bool :=
  2 * (a.chan i).cfg.iPeak + ((othersOf i).map (fun j => (a.chan j).ceiling)).sum ≤ 2 * 12000

/-- The bank's peak slot is free. -/
def Act.slotFree (a : Act) (i : Nat) : Bool := (a.slots.getD (bankOf i) none).isNone

/-- The slot of a channel is released if it holds it (R712). -/
def Act.releaseSlot (i : Nat) (a : Act) : Act :=
  { a with slots := a.slots.modify (bankOf i) (fun h => if h = some i then none else h) }

/-- The channel takes its bank's slot. -/
def Act.takeSlot (i : Nat) (a : Act) : Act := { a with slots := a.slots.modify (bankOf i) (fun _ => some i) }

/-- A fire is taken before another: its instant is earlier, or both are scheduled for one instant and its handle is lower (R714, R740). -/
def Fire.ahead (g f : Fire) : Bool :=
  g.asked < f.asked || (g.asked = f.asked && (match g.src, f.src with
    | .schedule m, .schedule n => decide (m < n)
    | _, _ => false))

/-- A waiting fire that comes before and whose ceiling is met stands ahead (R714). -/
def Act.earlierWaits (a : Act) (i : Nat) : Bool :=
  match (a.chan i).waiting with
  | none => false
  | some f => (othersOf i).any (fun j => match (a.chan j).waiting with
    | some g => g.ahead f && a.ceilingMet j
    | none => false)

/-! ## Schedules (R735 to R740) -/

/-- A schedule by handle. -/
def Act.schedule (a : Act) (handle : Nat) : Option Schedule := a.schedules.find? (fun x => x.handle = handle)

/-- The lowest free handle (R735). -/
def Act.freeHandle (a : Act) : Option Nat := (List.range 16).find? (fun h => (a.schedule h).isNone)

/-- A scheduled fire ends: SCHEDULE_END to its session whatever its mask, and the handle is free (R739). -/
def State.scheduleEnd (handle st : Nat) (s : State) : State :=
  match s.act.schedule handle with
  | some x =>
    (s.onAct (fun a => { a with schedules := a.schedules.filter (fun y => y.handle ≠ handle) })).raiseForced x.session 0x0D
      ([BitVec.ofNat 8 (chanCode x.ch), 0x05#8, 0, 0] ++ le 4 (handle + st * 256))
  | none => s

/-- Ends the scheduled fires a test picks. -/
def State.endSchedules (p : Schedule → Bool) (st : Nat) (s : State) : State :=
  ((s.act.schedules.filter p).map (·.handle)).foldl (fun t h => t.scheduleEnd h st) s

/-- Gives the fire instant to the schedules a test picks (R736). -/
def State.releaseSchedules (p : Schedule → Bool) (t : Nat) (s : State) : State :=
  s.onAct (fun a => { a with schedules := a.schedules.map (fun x =>
    if p x && x.fireAt.isNone then { x with fireAt := some (t + x.offset) } else x) })

/-! ## Fires (R712 to R721) -/

/-- RESULT of REFUSED_CAPACITY for the peak slot (R715). -/
def slotRefusal (c : Chan) (bank : Nat) : List Byte :=
  capacityResult { resource := 3, detail := bank, need := c.cfg.maxPeak + 500, avail := c.cfg.peakDelay } 0

/-- A fire ends with a status: the reply of its ACT_FIRE (none in a core outage, R113), the end of its schedule, or TO of the program
(R746). -/
def State.fireEnds (i : Nat) (f : FireSrc) (st : Nat) (res : List Byte) (s : State) : State :=
  match f with
  | .command session tag =>
    (match (if s.coreServes then s.sess.find session tag (fun x => x = .waiting (.slot i)) else none) with
     | some fl => s.answerOpen fl st res
     | none => s)
  | .schedule handle => s.scheduleEnd handle st
  | .program => s.onChisel (bankOf i) (fun c => { c with timedOut := st ≠ stOk, wait := .none })
  | .move => s

/-- The waiting fire of a channel ends with a status (R731, R741). -/
def State.dropWaiting (i st : Nat) (res : List Byte) (s : State) : State :=
  match (s.chan i).waiting with
  | some f => (s.onChan i (fun c => { c with waiting := none })).fireEnds i f.src st res
  | none => s

/-- A channel is disabled, or its bank is (R731, R732). -/
def State.chanDead (s : State) (i : Nat) : Bool := (s.chan i).disabled || s.act.bankDisabled.getD (bankOf i) false

/-- Why a channel takes no fire, scheduled or not: mode off, supply, disabled (R616, R80, R731). -/
def State.chanBar (s : State) (i : Nat) : Bool :=
  (s.chan i).cfg.mode = 0 || s.pwr.bankMv (bankOf i) < 9000 || s.chanDead i

/-- Why a fire on a channel is refused at its instant: that, or its duty (R727). -/
def State.fireBar (s : State) (i t : Nat) : Bool := s.chanBar i || (s.chan i).dutySpent t

/-- A profile of the channel runs (R718, R721). -/
def Chan.profileRuns (c : Chan) : Bool := c.phase = .boost || c.phase = .decay || c.phase = .hold

/-- A fire is treated as a RESTART: the retrigger field says so, a profile is in hold (R719, R720). -/
def Chan.restarts (c : Chan) : Bool := c.profileRuns && c.cfg.retrigger = 1 && c.phase = .hold

/-- A fire is treated as an EXTEND: a profile runs and it is no RESTART; while a RESTART waits too (R718, R720). -/
def Chan.extends (c : Chan) : Bool := c.profileRuns && (!c.restarts || c.waiting.isSome)

/-- EXTEND moves the switch-off instant later (R718). -/
def Chan.extend (t hold : Nat) (c : Chan) : Chan :=
  { c with offAt := max c.offAt (t + usTicks (if hold = 0 then c.cfg.defHold else hold)) }

/-- A fire starts to wait for the slot (R714). -/
def Chan.await (f : Fire) (c : Chan) : Chan := { c with waiting := some f }

/-! ## Chisel (R742 to R750) -/

/-- The channel index a program word of sequencer `q` names: four of a bank, the one of the shutter. -/
def wordChan (q w : Nat) : Nat :=
  let ch := w / 2 ^ 24 % 4
  if q < 2 then 4 * q + ch else if ch = 0 then 8 else 99

/-- IMM bits that the instruction uses (R744). -/
def usedImm (op : Nat) : Nat :=
  match op with
  | 0x1 => 0x7
  | 0x2 => 0xFFFFFF
  | 0x4 => 0xFFFFFF
  | 0x5 => 0xFF
  | 0x6 => 0x3F
  | 0x7 => 0xFFFFFF
  | 0x8 => 0x1FF
  | 0x9 => 0xF001FF
  | 0xA => 0x80FFFF
  | 0xB => 0x8001FF
  | 0xC => 0xFFFF
  | 0xD => 0xFFFFF
  | 0xE => 0xFFFFFF
  | _ => 0

/-- Ticks of a WAIT or WAITM (R744). -/
def waitTicks (imm : Nat) : Nat :=
  let k := imm / 2 ^ 22
  imm % 2 ^ 22 * (if k = 0 then 1 else if k = 1 then 16 else if k = 2 then 256 else 4096)

/-- A program ends: every channel it drove goes to turn-off, a request for the slot is dropped (R749). -/
def Act.endProgram (q : Nat) (a : Act) : Act :=
  let drove := (a.chisel q).drove
  let a1 := drove.foldl (fun b i => b.releaseSlot i) a
  { a1 with
    chans := a1.chans.mapIdx (fun i c => if drove.contains i then { c.turnOff with waiting := none } else c)
    chisels := a1.chisels.modify q (fun c => { c with run := false, wait := .none, drove := [], dipArm := none }) }

/-- A program ends with fault PROGRAM; PC names the faulting word (R748, R765). -/
def State.programFault (q cause i : Nat) (s : State) : State :=
  ((s.onAct (Act.endProgram q)).onChisel q (fun c => { c with pfault := cause })).actFaultEvent
    (if q < 2 then (if i < 8 then chanCode i else bankCode q) else 0x20) 0x07

/-- A condition of JIF (R744). -/
def State.jif (s : State) (c : Chisel) (cond : Nat) : Bool :=
  match cond with
  | 0 => c.timedOut
  | 1 => !c.timedOut
  | 2 => c.dip
  | 3 => !c.dip
  | 4 => s.enc.state = 1
  | 5 => s.rd.state = .running
  | _ => s.rd.state ≠ .running

/-- A program holds or frees a channel at its present hold level (R744, R747). -/
def Chan.program (ph : ChPhase) (on : Bool) (t : Nat) (c : Chan) : Chan :=
  { c.begin t with
    phase := ph
    pathOn := on
    lastSwitch := t
    chisel := true }

/-- A program's HOLD: a boost freewheels down into the band, another path is on until the current reaches it (R709, R744). -/
def Chan.programHold (t : Nat) (c : Chan) : Chan := c.program .hold (c.phase ≠ .boost) t

/-- A program's boost: the hold level it has set stays (R744 LEVEL). -/
def Chan.programOn (t : Nat) (c : Chan) : Chan :=
  { c.switchOn t 60000000 with chisel := true, fires := c.fires, level := c.level, levelBand := c.levelBand }

/-- A program sets a path of a channel (R744 DRIVE, R747). `ON` is a request for the slot on a bank and a boost of the
shutter at once; a disabled channel stays switched off (R731). -/
def State.chiselDrive (q i path dir t : Nat) (s : State) : State :=
  let s1 := s.onChisel q (fun c => { c with drove := if c.drove.contains i then c.drove else c.drove ++ [i], dir := dir })
  match path with
  | 0 => (s1.onChan i Chan.turnOff).onAct (Act.releaseSlot i)
  | 1 =>
    if q < 2 then
      (if s.fireBar i t then s1.onChisel q (fun c => { c with timedOut := true })
       else (s1.onChan i (Chan.await { src := .program, hold := 0, asked := t, restart := false })).onChisel q
              (fun c => { c with wait := .slot i }))
    else if (s.chan i).disabled || (s.chan i).dutySpent t then s1.onChisel q (fun c => { c with timedOut := true })
    else (s1.onChan i (Chan.programOn t)).onChisel q
           (fun c => { c with timedOut := false })
  | 2 => if s.chanDead i then s1 else (s1.onChan i (Chan.programHold t)).onAct (Act.releaseSlot i)
  | _ => if s.chanDead i then s1 else (s1.onChan i (Chan.program .free false t)).onAct (Act.releaseSlot i)

/-- LEVEL within the ranges of R707 for the channel (R748). -/
def levelOk (i hold band iPeak : Nat) : Bool :=
  2 * hold + band ≤ 2 * iPeak
    && (if i < 8 then 500 ≤ hold && hold ≤ 4000 && 50 ≤ band && band ≤ 1000
        else 100 ≤ hold && hold ≤ 500 && 20 ≤ band && band ≤ 200)

/-- One instruction of a running program at tick `t`; DJNZ of a counter at 0 leaves 0, since a result below its format takes the end of
the range (R8, R744, R748). -/
def State.chiselStep (q t : Nat) (s : State) : State :=
  let c := s.act.chisel q
  let w := c.words.getD c.pc 0
  let op := w / 2 ^ 28 % 16
  let imm := w % 2 ^ 24
  let i := wordChan q w
  let next := fun (x : State) => x.onChisel q (fun c => { c with pc := c.pc + 1 })
  if 511 < c.pc then (s.onChisel q (fun c => { c with pc := 511 })).programFault q 0x05 i
  else if w / 2 ^ 26 % 4 ≠ 0 || imm - (imm &&& usedImm op) ≠ 0 then s.programFault q 0x01 i
  else match op with
    | 0x0 => next s
    | 0x1 => if (s.chan i).cfg.mode ≠ 2 then s.programFault q 0x02 i
             else next (s.chiselDrive q i (imm % 4) (imm / 4 % 2) t)
    | 0x2 => next (s.onChisel q (fun c => { c with wait := .untilTick (t + waitTicks imm) }))
    | 0x3 => next (s.onChisel q (fun c => { c with mark := t }))
    | 0x4 => next (s.onChisel q (fun c => { c with wait := .untilTick (c.mark + waitTicks imm) }))
    | 0x5 => next (s.onChisel q (fun c => { c with wait := .strobes imm }))
    | 0x6 => next (s.onChisel q (fun c => { c with wait := .angle imm }))
    | 0x7 => if (s.chan i).cfg.mode ≠ 2 then s.programFault q 0x02 i
             else next (s.onChisel q (fun c =>
               { c with wait := .current i (imm / 2 ^ 23 = 1) (imm % 4096 * 5) (t + (imm / 4096 % 2048 + 1) * 1600) }))
    | 0x8 => s.onChisel q (fun c => { c with pc := imm })
    | 0x9 => if 6 < imm / 2 ^ 20 then s.programFault q 0x06 i
             else if s.jif c (imm / 2 ^ 20) then s.onChisel q (fun c => { c with pc := imm % 512 }) else next s
    | 0xA => next (s.onChisel q (fun c => if imm / 2 ^ 23 = 0 then { c with loopA := imm % 65536 }
                                         else { c with loopB := imm % 65536 }))
    | 0xB =>
      let v := (if imm / 2 ^ 23 = 0 then c.loopA else c.loopB) - 1
      let s1 := s.onChisel q (fun c => if imm / 2 ^ 23 = 0 then { c with loopA := v } else { c with loopB := v })
      if v ≠ 0 then s1.onChisel q (fun c => { c with pc := imm % 512 }) else next s1
    | 0xC => if (s.chan i).cfg.mode ≠ 2 then s.programFault q 0x02 i
             else next (s.onChisel q (fun c => { c with dip := false, dipArm := some (i, t + usTicks imm) }))
    | 0xD => if (s.chan i).cfg.mode ≠ 2 then s.programFault q 0x02 i
             else if !levelOk i (imm % 4096 * 5) (imm / 4096 % 256 * 5) (s.chan i).cfg.iPeak then s.programFault q 0x03 i
             else next (s.onChan i (fun c => { c with level := imm % 4096 * 5, levelBand := imm / 4096 % 256 * 5 }))
    | 0xE => next (s.actDiag (chanCode i) 0x04 imm)
    | _ => s.onAct (Act.endProgram q)

/-- Runs a program until it waits or ends; 4,096 instructions without a waiting one leave it to the limit of R748. -/
def State.chiselRun (q t : Nat) : Nat → State → State
  | 0, s => s
  | k + 1, s =>
    if (s.act.chisel q).run && (s.act.chisel q).wait = .none then State.chiselRun q t k (s.chiselStep q t) else s

/-- A program starts at an entry word with TO and DIP clear; its channels stand at their configured hold level (R742, R747). -/
def State.chiselStart (q entry t : Nat) (s : State) : State :=
  State.chiselRun q t 4096 (s.onAct (fun a =>
    { a with
      chans := a.chans.mapIdx (fun i c => if bankOf i = q && c.cfg.mode = 2
        then { c with level := c.cfg.iHold, levelBand := c.cfg.band } else c)
      chisels := a.chisels.modify q (fun c => { c with run := true, pc := entry, timedOut := false, dip := false, wait := .none,
                                                       pfault := c.pfault, drove := [], dipArm := none }) }))

/-- A waiting program goes on. -/
def State.chiselResume (q t : Nat) (f : Chisel → Chisel) (s : State) : State :=
  State.chiselRun q t 4096 (s.onChisel q (fun c => { f c with wait := .none }))

/-! ## Fires, with the program they may start -/

/-- A fire takes effect at `t`: EXTEND at once, a Chisel program at once, otherwise it waits for the slot (R714, R718, R742). -/
def State.fire (i kind hold t : Nat) (f : FireSrc) (s : State) : State :=
  if kind = 1 then (s.onChan i (fun c => { c with fires := (c.fires + 1) % 2 ^ 32 })).chiselStart (bankOf i) hold t
  else if (s.chan i).extends then s.onChan i (Chan.extend t hold)
  else s.onChan i (Chan.await { src := f, hold := hold, asked := t, restart := (s.chan i).restarts })

/-- A channel is disabled by a fault: off, its waiting and scheduled fires end with FAIL_HW, a program that drove it ends (R731,
R749). -/
def State.disableChan (i fault : Nat) (s : State) : State :=
  let s1 := s.dropWaiting i stFailHw []
  let s2 := if (s1.act.chisel (bankOf i)).drove.contains i then s1.onAct (Act.endProgram (bankOf i)) else s1
  ((s2.onChan i (fun c => { c.turnOff with disabled := true, lastFault := fault, faults := (c.faults + 1) % 2 ^ 32 })).onAct
    (Act.releaseSlot i)).endSchedules (fun x => x.ch = i) stFailHw

/-- A channel fault with its event (R729, R734). -/
def State.chanFault (i fault : Nat) (s : State) : State := (s.disableChan i fault).actFaultEvent (chanCode i) fault

/-- Four channels of a bank. -/
def bankChans (bank : Nat) : List Nat := (List.range 4).map (· + 4 * bank)

/-- A bank fault: every channel off and treated as disabled, its program ended, the bank disabled (R732). -/
def State.bankFault (bank fault : Nat) (s : State) : State :=
  (((bankChans bank).foldl (fun x i => x.disableChan i fault) (s.onAct (Act.endProgram bank))).onAct
    (fun a => { a with bankDisabled := a.bankDisabled.modify bank (fun _ => true) })).actFaultEvent (bankCode bank) fault

/-! ## Shutter moves (R751 to R757) -/

/-- What a shutter move leaves: the position it held or unknown, the count, the completion of SHUTTER_MOVE (R754, R757, R755). -/
def State.moveEnds (confirmed counted : Bool) (s : State) : State :=
  match s.act.move with
  | none => s
  | some m =>
    let s1 := (s.onAct (fun a => { a with move := none, vshrWait := false,
                                          position := if confirmed then m.dir + 1 else 0 })).onCounters
                (fun l => if counted then countersUp 6 1 l else l)
    match m.asker with
    | .command session tag => s1.complete0 session tag 0x36 (if confirmed then stOk else stFailHw) [if confirmed then 1 else 0]
    | .orphan => s1
    | .calibration => s1
    | .parking => s1

/-- A move starts on the bridge: a profile in mode 0x01, the program at word 0 or 256 in mode 0x02 (R752, R753). -/
def State.moveStart (t : Nat) (s : State) : State :=
  match s.act.move with
  | none => s
  | some m =>
    let s1 := s.onAct (fun a => { a with vshrWait := false })
    if (s.chan 8).cfg.mode = 2 then s1.chiselStart 2 (if m.dir = 0 then 0 else 256) t
    else s1.onChan 8 (Chan.switchOn t 0)

/-- A move is requested: it starts when VSHR is at least 18.0 V and waits otherwise (R76, R756). -/
def State.moveRequest (dir : Nat) (asker : MoveBy) (t : Nat) (s : State) : State :=
  let s1 := s.onAct (fun a => { a with move := some { dir := dir, asker := asker, asked := t }, vshrWait := true })
  if 18000 ≤ s.pwr.vshr then s1.moveStart t else s1

/-- The bridge moves now: a move is under way and does not wait for VSHR. -/
def Act.moving (a : Act) : Bool := a.move.isSome && !a.vshrWait

/-! ## Stopping everything -/

/-- Every switch off at once: running profiles and programs stop, waiting fires and schedules end with a status, a move is
abandoned and its command ends (R119, R199, R833). -/
def State.actCut (st t : Nat) (s : State) : State :=
  let s1 := (List.range 9).foldl (fun x i => x.dropWaiting i st []) s
  let s2 := s1.endSchedules (fun _ => true) st
  let s3 := match s.act.move with
    | some { asker := .command session tag, .. } => s2.complete0 session tag 0x36 st [0]
    | _ => s2
  s3.onAct (fun a =>
    { a with
      chans := a.chans.map (Chan.finish t)
      slots := [none, none]
      chisels := a.chisels.map (fun c => { c with run := false, wait := .none, drove := [], dipArm := none })
      position := if a.move.isSome then 0 else a.position
      move := none
      vshrWait := false })

/-- Counts and events of a channel kept through a SYSTEM order: fires and faults since POWER-ON (R615). -/
def Act.systemReset (a : Act) : Act :=
  { Act.reset with chans := Act.reset.chans.mapIdx (fun i c => { c with fires := (a.chan i).fires, faults := (a.chan i).faults }) }

end Sys2Proof.Machine
end

