-- ==== Sys2Proof/Machine/Storage.lean ====
section
/-!
DEFINITION. Shared operations of the parameter store, the calibration flash, the log and the firmware images
(spec/17_parameter_and_calibration_storage.md, spec/18_firmware_security_background.md) and the energy check of
spec/04_power_down_and_ride_through.md R228.
-/

namespace Sys2Proof.Machine

open Sys2Proof

/-! ## The energy check (R227, R228), needs in µJ -/

def needRecord : Nat := 30300
def needSlot : Nat := 30100
def needErase : Nat := 54300
def needFlash : Nat := 30100
def needDown : Nat := 55400

/-- E is at least twice a need (R228). -/
def Pwr.covers (p : Pwr) (need : Nat) : Bool := 2 * need * 2000000 ≤ p.energyFine

/-! ## Journal (R861 to R867) -/

/-- The same entry with another SEQ. -/
def JEntry.withSeq (n : Nat) : JEntry → JEntry
  | .header g _ => .header g n
  | .eraseStart k _ => .eraseStart k n
  | .eraseDone k _ => .eraseDone k n
  | .writeStart o l _ => .writeStart o l n
  | .writeCommit o l _ => .writeCommit o l n
  | .void o l _ => .void o l n
  | .protect c _ => .protect c n
  | .run _ => .run n
  | .cleanOff _ => .cleanOff n

/-- Sixteen bytes of an entry from its fields, with the CRC over the first twelve (R861). -/
def entryBytes (type sector length arg seq : Nat) : List Byte :=
  let b := le 1 type ++ le 1 sector ++ le 2 length ++ le 4 arg ++ le 4 seq
  b ++ le 4 (crc32 b).toNat

/-- An entry as programmed (R861, R862); a field that its TYPE does not use is 0 (DESIGN CHOICE, log entry 172). -/
def JEntry.bytes : JEntry → List Byte
  | .header g n => entryBytes 1 0 0 g n
  | .eraseStart k n => entryBytes 2 k 0 0 n
  | .eraseDone k n => entryBytes 3 k 0 0 n
  | .writeStart o l n => entryBytes 4 0 l o n
  | .writeCommit o l n => entryBytes 5 0 l o n
  | .void o l n => entryBytes 6 0 l o n
  | .protect c n => entryBytes 7 0 0 c n
  | .run n => entryBytes 8 0 0 0 n
  | .cleanOff n => entryBytes 9 0 0 0 n

/-- A RUN or CLEAN_OFF marker. -/
def JEntry.isMarker : JEntry → Bool
  | .run _ => true
  | .cleanOff _ => true
  | .header _ _ => false
  | .eraseStart _ _ => false
  | .eraseDone _ _ => false
  | .writeStart _ _ _ => false
  | .writeCommit _ _ _ => false
  | .void _ _ _ => false
  | .protect _ _ => false

/-- A PROTECT entry. -/
def JEntry.isProtect : JEntry → Bool
  | .protect _ _ => true
  | .header _ _ => false
  | .run _ => false
  | .cleanOff _ => false
  | .eraseStart _ _ => false
  | .eraseDone _ _ => false
  | .writeStart _ _ _ => false
  | .writeCommit _ _ _ => false
  | .void _ _ _ => false

/-- Bytes as groups of eight, none with an error. -/
def inGroups : Nat → List Byte → List Group
  | 0, _ => []
  | n + 1, bs => { bytes := bs.take 8, ue := false } :: inGroups n (bs.drop 8)

/-- One group is programmed into slot `i` of a sector or ring, after those the slot holds (R853). -/
def addGroup (i : Nat) (l : List Slot) (g : Group) : List Slot :=
  if i < l.length then l.modify i (fun x => x ++ [g]) else l ++ List.replicate (i - l.length) [] ++ [[g]]

/-- Groups are programmed into a slot one after the other, the first one first (R863, R868). -/
def programSlot (i : Nat) (gs : List Group) (l : List Slot) : List Slot := gs.foldl (addGroup i) l

/-- An entry goes into slot `i` of journal sector 2 + `k` with the next SEQ (R863, R865). -/
def Psto.place (k i : Nat) (e : JEntry) (p : Psto) : Psto :=
  { p with
    jsectors := p.jsectors.modify k (programSlot i (inGroups 2 (e.withSeq ((p.seq + 1) % 2 ^ 32)).bytes))
    seq := (p.seq + 1) % 2 ^ 32 }

/-- Programs one entry into the next free slot of the active sector (R864). -/
def Psto.append (e : JEntry) (p : Psto) : Psto := p.place (p.active.getD 0) p.used e

/-- Fewer than 8 of the 128 slots are free (R866). -/
def Psto.nearlyFull (p : Psto) : Bool := 120 < p.used

/-- The entries that compaction carries: the latest PROTECT, the latest marker, one VOID per void range (R866). -/
def Psto.carried (p : Psto) : List JEntry :=
  ((p.journal.reverse.find? JEntry.isProtect).toList ++ (p.journal.reverse.find? JEntry.isMarker).toList)
    ++ p.voids.map (fun v => .void v.1 v.2 0)

/-- Journal sector 2 + `k` is erased. -/
def Psto.wipeJournal (k : Nat) (p : Psto) : Psto := { p with jsectors := p.jsectors.modify k (fun _ => []) }

/-- Entries go into a sector from a slot on. -/
def Psto.carry (k : Nat) : Nat → List JEntry → Psto → Psto
  | _, [], p => p
  | i, e :: es, p => Psto.carry k (i + 1) es (p.place k i e)

/-- Compaction into the other sector, its HEADER last (R866). -/
def Psto.compacted (p : Psto) : Psto :=
  let k := p.active.getD 0
  let o := 1 - k
  let q := (((p.append (.eraseStart (2 + o) 0)).wipeJournal o).append (.eraseDone (2 + o) 0)).carry o 1 p.carried
  q.place o 0 (.header (((p.generation k).getD 0 + 1) % 2 ^ 32) 0)

/-- A new journal where both headers are lost: both sectors erased, a HEADER of generation 1 in sector 2 (R873). -/
def Psto.rebuilt (p : Psto) : Psto := ((p.wipeJournal 0).wipeJournal 1).place 0 0 (.header 1 0)

/-- A journaled store compacts a nearly full journal first, and goes into a new one where both headers are lost (R866, R873). -/
def Psto.ready (p : Psto) : Psto := if p.active.isNone then p.rebuilt else if p.nearlyFull then p.compacted else p

/-- The energy a journaled store needs, with the erase of the journal sector when one is due (R867, R873). -/
def Psto.needOf (p : Psto) (need : Nat) : Nat := if p.active.isNone || p.nearlyFull then max need needErase else need

/-- One entry, compacting first. -/
def Psto.store (e : JEntry) (p : Psto) : Psto := p.ready.append e

/-- What a void range keeps when sector bytes `lo` to `lo + 2047` of the user area are erased (R877). -/
def voidRest (lo : Nat) (v : Nat × Nat) : List (Nat × Nat) :=
  if v.1 + v.2 ≤ lo || lo + 2048 ≤ v.1 then [v]
  else (if v.1 < lo then [(v.1, lo - v.1)] else [])
    ++ (if lo + 2048 < v.1 + v.2 then [(lo + 2048, v.1 + v.2 - (lo + 2048))] else [])

/-- User-area offset of a sector (R855). -/
def userOffset (sector : Nat) : Nat := 2048 * (sector - 12)

/-- The user sector reads erased (R849, R877). -/
def Psto.eraseUser (sector : Nat) (p : Psto) : Psto :=
  let lo := userOffset sector
  { p with
    mem := cellErase p.mem lo 2048
    groups := p.groups.filter (fun g => 8 * g < lo || lo + 2048 ≤ 8 * g)
    voids := (p.voids.map (voidRest lo)).flatten
    singleBad := p.singleBad.filter (fun g => 8 * g < lo || lo + 2048 ≤ 8 * g)
    doubleBad := p.doubleBad.filter (fun g => 8 * g < lo || lo + 2048 ≤ 8 * g) }

/-- First protected user-area offset of a protection code (R882). -/
def protectFrom : Nat → Nat
  | 0 => 0x1A000
  | 1 => 0x13800
  | 2 => 0x0D000
  | _ => 0

/-- Bytes of a range that lie in a void range. -/
def Psto.inVoid (p : Psto) (o : Nat) : Bool := p.voids.any (fun v => v.1 ≤ o && o < v.1 + v.2)

/-- User sector of an offset. -/
def sectorOf (o : Nat) : Nat := 12 + o / 2048

/-- A byte as PSTO_READ returns it: 0xFF in a void range or in a sector with a pending erase, one that is being erased among them
(R874, R876, R878). -/
def Psto.readByte (p : Psto) (o : Nat) : Byte :=
  if p.inVoid o || p.pendingErase = some (sectorOf o) || p.erasing = sectorOf o then 0xFF#8 else cellGet p.mem o

/-- Reads that meet errors count them (R858, R859). -/
def Psto.countErrors (first count : Nat) (p : Psto) : Psto :=
  let gs := (List.range ((first + count + 7) / 8 - first / 8)).map (· + first / 8)
  let ce := (gs.filter (fun g => p.singleBad.contains g)).length
  let ues := gs.filter (fun g => p.doubleBad.contains g)
  { p with
    ce := satAdd 0xFFFF p.ce ce
    ue := satAdd 0xFF p.ue ues.length
    ueAddr := match ues.getLast? with
      | some g => 0x6000 + 8 * g
      | none => p.ueAddr }

/-- Writes groups of user bytes between WRITE_START and WRITE_COMMIT (R868). -/
def Psto.write (o : Nat) (bs : List Byte) (p : Psto) : Psto :=
  let q := (p.ready.append (.writeStart o bs.length 0))
  { q with
    mem := cellSetRun q.mem o bs
    groups := q.groups.filter (· < o / 8) ++ (List.range (bs.length / 8)).map (· + o / 8)
      ++ q.groups.filter (o / 8 + bs.length / 8 ≤ ·) }.append (.writeCommit o bs.length 0)

/-! ## Sector erases (R868, R877) -/

/-- Sector 0 or 1 of a ring is erased (R885). -/
def Psto.wipeRing (k half : Nat) (p : Psto) : Psto :=
  { p with rings := p.rings.modify k (fun l => if half = 0 then List.replicate (min 16 l.length) [] ++ l.drop 16 else l.take 16) }

/-- A sector reads erased: of the journal, of a ring, of the user area (R854). -/
def Psto.eraseSector (sector : Nat) (p : Psto) : Psto :=
  if sector < 4 then p.wipeJournal (sector - 2)
  else if sector < 12 then p.wipeRing ((sector - 4) / 2) (sector % 2)
  else p.eraseUser sector

/-! ## Slot rings (R885 to R893) -/

/-- A slot as programmed (R886). -/
def slotBytes (k seq : Nat) (payload : List Byte) : List Byte :=
  let b := le 4 (0x534C4F30 + k) ++ le 4 seq ++ (payload ++ List.replicate 112 0#8).take 112
  b ++ le 4 (crc32 b).toNat ++ le 4 0x5A5A5A5A

/-- A slot of a ring is erased. -/
def Psto.slotErased (p : Psto) (k i : Nat) : Bool := ((p.rings.getD k []).getD i []).isEmpty

/-- The sector of a ring, 0 or 1, that holds the slot in force. -/
def Psto.ringHalf (p : Psto) (k : Nat) : Nat :=
  match p.inForce k with
  | some x => x.1 / 16
  | none => 0

/-- The slot that the next write takes: the first erased one after the slot in force in its sector, else slot 0 of the other sector;
none where that one is not erased (R889, R891). A ring with no valid slot is searched from its slot 0 on (DESIGN CHOICE, log entry
172). -/
def Psto.ringNext (p : Psto) (k : Nat) : Option Nat :=
  let start := match p.inForce k with
    | some x => x.1 + 1
    | none => 0
  match ((List.range 16).map (· + 16 * p.ringHalf k)).find? (fun i => start ≤ i && p.slotErased k i) with
  | some i => some i
  | none => if p.slotErased k (16 * (1 - p.ringHalf k)) then some (16 * (1 - p.ringHalf k)) else none

/-- The sector of a ring that does not hold the slot in force (R890). -/
def Psto.otherSector (p : Psto) (ring : Nat) : Nat := ringSector ring + (1 - p.ringHalf ring)

/-- That sector is erased between its two journal entries (R868, R890, R891). -/
def Psto.ringErase (ring : Nat) (p : Psto) : Psto :=
  ((p.store (.eraseStart (p.otherSector ring) 0)).wipeRing ring (1 - p.ringHalf ring)).append (.eraseDone (p.otherSector ring) 0)

/-- SEQ of the next slot: one greater than the newest; 1 in a ring with no valid slot (R886; the latter DESIGN CHOICE, log entry
172). -/
def Psto.ringSeq (p : Psto) (k : Nat) : Nat :=
  match p.inForce k with
  | some x => (x.2.1 + 1) % 2 ^ 32
  | none => 1

/-- The sixteen groups of a slot are programmed, group 15 last (R868). -/
def Psto.putSlot (k i : Nat) (bs : List Byte) (p : Psto) : Psto :=
  { p with rings := p.rings.modify k (programSlot i (inGroups 16 bs)) }

/-- A slot of a ring is written; where neither position is erased, the other sector is erased first (R889, R891). -/
def Psto.ringWrite (k : Nat) (payload : List Byte) (p : Psto) : Psto :=
  let bs := slotBytes k (p.ringSeq k) payload
  match p.ringNext k with
  | some i => p.putSlot k i bs
  | none => (p.ringErase k).putSlot k (16 * (1 - p.ringHalf k)) bs

/-- The slot write of a ring has to erase the other sector first (R891). -/
def Psto.ringFull (p : Psto) (k : Nat) : Bool := (p.ringNext k).isNone

/-- A background store waits: for VHOLD to rise from the level at which its check failed, or for the end of Ride-through. One that
waits already keeps its level (R202, R230). -/
def State.bgWait (j : BgJob) (v : Option Nat) (s : State) : State :=
  s.onPsto (fun p => { p with bg := if p.bg.any (fun w => w.1 = j) then p.bg else p.bg ++ [(j, v)] })

/-- Ring 0 takes the failed-start count and the watchdog reset count, without the energy check (R885, R892); in Ride-through no store
is started (R202). -/
def State.storeRing0 (s : State) : State :=
  if s.pwr.mode = .ride then s.bgWait .ring0 none
  else s.onPsto (Psto.ringWrite 0 (le 1 s.rstc.failCount ++ le 1 s.wdg.count))

/-- The image selection record: CONFIRMED, NEXT, TRIAL and the activations (spec/18_firmware_security_background.md, the text before
R931). -/
def Cfl.selection (c : Cfl) : List Byte :=
  le 1 c.confirmed ++ le 1 c.nextImg ++ le 1 (bit c.trial) ++ [0#8] ++ le 4 c.activations

/-- Ring 2 takes the image selection, without the energy check (R936); in Ride-through no store is started (R202). -/
def State.storeRing2 (s : State) : State :=
  if s.pwr.mode = .ride then s.bgWait .ring2 none else s.onPsto (Psto.ringWrite 2 s.cfl.selection)

/-- The image selection as ring 2 holds it; one whose write Ride-through holds back stands as selected (R202, R885, R931). -/
def State.selected (s : State) : Cfl :=
  if s.psto.bg.any (fun w => w.1 = .ring2) then s.cfl
  else { s.cfl with
    confirmed := bytesAt (s.psto.payload 2) 0 1
    nextImg := bytesAt (s.psto.payload 2) 1 1
    trial := bytesAt (s.psto.payload 2) 2 1 = 1
    activations := bytesAt (s.psto.payload 2) 4 4 }

/-- Ring 1 takes the ten counters (R885). -/
def Psto.storeCounters (l : List Nat) (p : Psto) : Psto := p.ringWrite 1 ((l.map (le 4)).flatten)

/-- The log position record: active half, next entry in it, SEQ of the next entry, CLEAR_SEQ (spec/18_firmware_security_background.md,
the text before R947a). -/
def Cfl.logPosition (c : Cfl) : List Byte := le 1 c.half ++ [0#8] ++ le 2 c.halfUsed ++ le 4 c.logSeq ++ le 4 c.clearSeq

/-- Ring 3 takes the log position (R885). -/
def State.storeRing3 (s : State) : State := s.onPsto (Psto.ringWrite 3 s.cfl.logPosition)

/-- The log position as ring 3 holds it (R885, R887). -/
def Cfl.logFrom (payload : List Byte) (c : Cfl) : Cfl :=
  { c with
    half := bytesAt payload 0 1
    halfUsed := bytesAt payload 2 2
    logSeq := bytesAt payload 4 4
    clearSeq := bytesAt payload 8 4 }

/-- The image selection and the log position of the rings are taken up, at step 10 of an order (R885, R887, R931). -/
def State.recordsLoaded (s : State) : State :=
  s.onCfl (fun _ => s.selected.logFrom (s.psto.payload 3))

/-- The image selection changes and is stored (R933 to R936). -/
def State.select (f : Cfl → Cfl) (s : State) : State := (s.onCfl f).storeRing2

/-! ## Log in flash (R955 to R958) -/

/-- One entry written: the next SEQ; a full half gives way to the other one, whose entries are lost (R947a, R956). -/
def Cfl.writeEntry (e : LogEntry) (c : Cfl) : Cfl :=
  let full := c.halfUsed = 2048
  let kept := if full then c.log.drop (c.log.length - 2048) else c.log
  { c with
    log := kept ++ [{ e with seq := c.logSeq }]
    logSeq := (c.logSeq + 1) % 2 ^ 32
    half := if full then 1 - c.half else c.half
    halfUsed := if full then 1 else c.halfUsed + 1 }

/-- Every buffered entry is written. -/
def Cfl.writeLog (c : Cfl) : Cfl := { c.logBuf.foldl (fun x e => x.writeEntry e) c with logBuf := [] }

/-- The entries LOG_READ may return: SEQ at least CLEAR_SEQ and a good CRC (R957, R958). -/
def Cfl.visible (c : Cfl) : List LogEntry := c.log.filter (fun e => c.clearSeq ≤ e.seq && e.crcOk)

/-- A log entry as 32 bytes (R947a). -/
def LogEntry.bytes (e : LogEntry) : List Byte :=
  let b := le 4 e.seq ++ le 2 e.code ++ le 1 e.source ++ [0#8] ++ le 8 e.tb ++ le 4 e.epoch ++ e.data
  b ++ le 4 (crc32 b).toNat

/-! ## Firmware images (R919 to R932) -/

/-- A byte of an image region. -/
def Image.run (x : Image) (o n : Nat) : List Byte := cellRun x.bytes o n

/-- Check 1 of R927 on the bytes. -/
def Image.headerGood (x : Image) : Bool :=
  ofLe (x.run 0 4) = 0x46575A55 && ofLe (x.run 4 2) = 1 && ofLe (x.run 9 1) = 0 && (x.run 0x10 16).all (· = 0#8)
    && (x.run 0xA0 348).all (· = 0#8) && ofLe (x.run 0x1FC 4) = (crc32 (x.run 0 0x1FC)).toNat

/-- The header of an image (R919). -/
def Image.header (x : Image) : ImgHdr :=
  match x.factory with
  | some f => f
  | none =>
    { ok := x.headerGood
      version := (ofLe (x.run 6 1), ofLe (x.run 7 1), ofLe (x.run 8 1))
      compat := ofLe (x.run 0xA 2)
      length := ofLe (x.run 0xC 4)
      keyDigest := Config.sha256 (x.run 0x20 64) }

/-- Image state of R922. -/
def Image.state (x : Image) : Nat :=
  if x.dirState = 0 && x.verState = 0 then 0
  else if x.dirState = 1 && x.verState = 0 then 1
  else if x.dirState = 1 && x.verState = 1 then 2
  else 3

/-- Check 4 of R927: the digest of PUBKEY against FUSE.KEYHASH; all zeros match no key (R930). -/
def Fuse.keyMatches (f : Fuse) (digest : Nat) : Bool := f.keyHash ≠ 0 && f.keyHash = digest

/-- The header check of step 10 (R932). -/
def State.imageBoots (s : State) (i : Nat) : Bool :=
  let x := s.cfl.images.getD i Image.empty
  x.header.ok && s.fuse.keyMatches x.header.keyDigest && x.state = 2

/-- The image that a start or a CORE reset takes by ring 2 (R931), none when both fail. -/
def State.imageToRun (s : State) : Option Nat :=
  let first := if s.selected.trial then s.selected.nextImg else s.selected.confirmed
  if s.imageBoots first then some first
  else if s.imageBoots (1 - first) then some (1 - first)
  else none

/-- One image replaced by a function of it. -/
def Cfl.onImage (i : Nat) (f : Image → Image) (c : Cfl) : Cfl := { c with images := c.images.modify i f }

/-- FW_COMPAT of the running image; the spec gives none for the maintenance monitor, so it is a free value there. -/
def State.fwCompat (s : State) : Nat :=
  if s.cfl.running < 2 then (s.cfl.images.getD s.cfl.running Image.empty).header.compat
  else (Config.freeValue s.freeCtr).toNat % 0x10000

/-- The reason code of R927 that FW_VERIFY finds, none when every check passes. -/
def State.verifyFails (s : State) (i : Nat) : Option Nat :=
  let x := s.cfl.images.getD i Image.empty
  let h := x.header
  if !h.ok then some 1
  else if h.length < 4096 || 4194304 < h.length || h.length % 256 ≠ 0 || (x.factory.isNone && x.written < h.length) then some 2
  else if x.factory.isNone && (List.range (ceilDiv h.length 65536)).any (fun b => !x.tabulated.contains b || x.badBlocks.contains b) then some 3
  else if !s.fuse.keyMatches h.keyDigest then some 4
  else if x.factory.isSome || Config.ecdsaValid (x.run 0x20 64) (x.run 0x60 32 ++ x.run 0x80 32)
      (x.run 0 0x60 ++ x.run 0x200 (h.length - 0x200)) then none
  else some 5

/-- An FW_WRITE ends: bytes written since its offset-0 write (R630). -/
def State.fwWriteEnds (st : Nat) (s : State) : State :=
  match s.cfl.fwWrite with
  | none => s
  | some (session, tag, i) =>
    (s.onCfl (fun c => { c with fwWrite := none })).complete0 session tag 0x71 st (le 4 (s.cfl.images.getD i Image.empty).written)

/-- An FW_VERIFY ends: the image state (R630). -/
def State.fwVerifyEnds (st : Nat) (s : State) : State :=
  match s.cfl.fwVerify with
  | none => s
  | some (session, tag, i) =>
    (s.onCfl (fun c => { c with fwVerify := none })).complete0 session tag 0x72 st
      [BitVec.ofNat 8 (s.cfl.images.getD i Image.empty).state]

/-- The 64 KiB block that the bytes written have last completed (R925). -/
def Image.doneBlock (x : Image) : Nat := x.written / 65536 - 1

/-- A block is marked invalid (R232, R925). -/
def Image.spoil (b : Nat) (x : Image) : Image :=
  { x with
    badBlocks := if x.badBlocks.contains b then x.badBlocks else x.badBlocks ++ [b]
    tabulated := x.tabulated.filter (· ≠ b) }

/-- A PSTO_ERASE is answered: sectors erased (R621). -/
def State.eraseAnswer (st : Nat) (s : State) (j : EraseJob) : State :=
  s.complete0 j.session j.tag 0x42 st [BitVec.ofNat 8 j.done]

/-- The PSTO_ERASE in progress ends (R621). -/
def State.eraseEnds (st : Nat) (s : State) : State :=
  match s.psto.job with
  | none => s
  | some j => (s.onPsto (fun p => { p with job := none })).eraseAnswer st j

/-- The PSTO_ERASE commands that wait end (R171). -/
def State.queuedEnd (st : Nat) (s : State) : State :=
  s.psto.queued.foldl (State.eraseAnswer st) (s.onPsto (fun p => { p with queued := [] }))

/-- Every PSTO_ERASE ends. -/
def State.erasesEnd (st : Nat) (s : State) : State := (s.eraseEnds st).queuedEnd st

/-! ## Records and calibration sets (R388, R389, R899 to R907) -/

/-- A record by index. -/
def RecStore.get (x : RecStore) (n : Nat) : Rec := ((x.recs.find? (fun p => p.1 = n)).map (·.2)).getD x.base

/-- Records from an index upward, read from entries at or above it in rising order. -/
def runFrom (base : Rec) : Nat → Nat → List (Nat × Rec) → List Rec
  | _, 0, _ => []
  | i, n + 1, [] => base :: runFrom base (i + 1) n []
  | i, n + 1, (k, r) :: rest =>
    if k = i then r :: runFrom base (i + 1) n rest else base :: runFrom base (i + 1) n ((k, r) :: rest)

/-- A run of records. -/
def RecStore.run (first n : Nat) (x : RecStore) : List Rec :=
  runFrom x.base first n (x.recs.filter (fun p => first ≤ p.1 && p.1 < first + n))

/-- Records from an index upward replaced, in canonical form. -/
def RecStore.setRun (first : Nat) (l : List Rec) (x : RecStore) : RecStore :=
  { x with recs := x.recs.filter (fun p => p.1 < first)
      ++ ((l.mapIdx (fun k r => (first + k, r))).filter (fun p => p.2 ≠ x.base))
      ++ x.recs.filter (fun p => first + l.length ≤ p.1) }

/-- One record replaced. -/
def RecStore.set (n : Nat) (r : Rec) (x : RecStore) : RecStore := x.setRun n [r]

/-- Every record changed by a function. -/
def RecStore.map (f : Rec → Rec) (x : RecStore) : RecStore :=
  { base := f x.base, recs := (x.recs.map (fun p => (p.1, f p.2))).filter (fun p => p.2 ≠ f x.base) }

/-- Bit field of a record. -/
def recField (r : Rec) (lo w : Nat) : Nat := r.toNat / 2 ^ lo % 2 ^ w

/-- A field of a record replaced. -/
def recSet (r : Rec) (lo w v : Nat) : Rec :=
  BitVec.ofNat 80 (r.toNat - recField r lo w * 2 ^ lo + (v % 2 ^ w) * 2 ^ lo)

/-- The state's code set to hold, its value kept (R394, R404). -/
def recHold (r : Rec) : Rec := recSet r 56 2 1

/-- DEFECT bit 53 set and STATE at hold (R427, R905). -/
def recLost (r : Rec) : Rec := recHold (recSet r 53 1 1)

/-- First and last record that a data block of 65,536 bytes holds wholly or partly (R898). -/
def blockFirst (b : Nat) : Nat := b * 65536 / 10
def blockLast (b : Nat) : Nat := min ((b * 65536 + 65535) / 10) 1310719

/-- The records of a lost block as copied (R905). -/
def RecStore.degrade (x : RecStore) (b : Nat) : RecStore :=
  x.setRun (blockFirst b) ((x.run (blockFirst b) (blockLast b + 1 - blockFirst b)).map recLost)

/-- Flash address of a set's records, and of record `n` of them (R897, R898). -/
def setBase (set : Nat) : Nat := 0x800000 + 0xC80000 * set
def recordAddr (set n : Nat) : Nat := setBase set + 10 * n

/-- Bytes 0x0000 to 0x0421 of a set header that names its set and format right, before PARAM_CRC (R437, R899). -/
def SetParams.headerBytes (set : Nat) (x : SetParams) : List Byte :=
  le 4 0x43534554 ++ le 2 1 ++ le 1 set ++ le 1 x.mode ++ le 2 x.intCal ++ le 2 x.tCal ++ le 2 x.tauSub ++ leInt 2 x.kRate
    ++ le 2 x.uCal ++ le 2 x.cT ++ le 2 x.cX ++ le 2 x.sigmaDef ++ le 2 x.meanDef ++ le 2 x.tempDef ++ le 4 x.refCal
    ++ (x.bb.map (le 2)).flatten

/-- PARAM_CRC (R899). -/
def SetParams.paramCrc (set : Nat) (x : SetParams) : BitVec 32 := crc32 (x.headerBytes set)

/-- The word that codes a state: absent, valid, invalid (R900). -/
def stateWord : Nat → Nat
  | 0 => 0xFFFFFFFF
  | 1 => 0x56414C31
  | _ => 0

/-- The last word of a header, and those of a table entry: the block's CRC-32 and BLOCK_STATE (R899, R900). -/
def CalSet.stateBytes (x : CalSet) : List Byte := le 4 (stateWord x.setState)
def CalSet.entryBytes (crc b : Nat) (x : CalSet) : List Byte := le 4 crc ++ le 4 (stateWord (if x.badBlocks.contains b then 2 else 1))

/-- A set is valid (R901). -/
def CalSet.valid (x : CalSet) : Bool := x.headerOk && x.paramCrcOk && x.setState = 1

/-- What a recall leaves: the set loaded, CFL.STATUS.RESULT, blocks lost, parameters and records. -/
structure Recalled where
  loaded : Nat
  result : Nat
  lost   : Nat
  params : SetParams
  store  : RecStore
  /-- Blocks of the set loaded whose CRC failed. -/
  blocks : List Nat

/-- A parameter the spec leaves open: a free value (log entry 2). -/
def freeParam (ctr k w : Nat) : Nat := (Config.freeValue (ctr + k)).toNat % 2 ^ w

/-- The parameters of a Neutral outcome: those R905 gives, the header's others when PARAM_CRC is correct, free values else. -/
def neutralParams (ctr named : Nat) (x : CalSet) : SetParams :=
  { (if x.paramCrcOk then x.params else
      { mode := named
        intCal := freeParam ctr 0 16
        tCal := freeParam ctr 1 16
        tauSub := freeParam ctr 2 16
        kRate := signed 16 (freeParam ctr 3 16)
        uCal := freeParam ctr 4 16
        cT := freeParam ctr 5 16
        cX := freeParam ctr 6 16
        sigmaDef := freeParam ctr 7 16
        meanDef := freeParam ctr 8 16
        tempDef := freeParam ctr 9 16
        refCal := 0
        bb := [] } : SetParams) with
    refCal := 32768
    bb := (List.range 513).map (fun k => 1184 + 32 * k) }

/-- Recall of a factory set: clean, degraded, or neutral (R905). -/
def recallFactory (ctr named : Nat) (x : CalSet) (lost : List Nat) : Recalled :=
  if x.valid then
    let bad := (List.range 200).filter (fun b => lost.contains b || x.badBlocks.contains b)
    { loaded := named, result := if bad.isEmpty then 2 else 4, lost := bad.length, params := x.params,
      store := bad.foldl RecStore.degrade x.store, blocks := bad }
  else
    { loaded := named, result := 5, lost := 0, params := neutralParams ctr named x,
      store := RecStore.all (BitVec.ofNat 80 (0x4000 * 2 ^ 16 + 2 ^ 56)), blocks := [] }

/-- Recall of a set by number (R905). A fallback that itself fails reports its own outcome; the block at which the user set's recall
is abandoned counts with those lost (R917). -/
def Cfl.recallOf (c : Cfl) (ctr named : Nat) (lost : List Nat) : Recalled :=
  let x := c.sets.getD named (CalSet.shipped 0 3000)
  if named < 3 then recallFactory ctr named x lost
  else
    let bad := (List.range 200).filter (fun b => lost.contains b || x.badBlocks.contains b)
    if x.valid && bad.isEmpty then { loaded := 3, result := 2, lost := 0, params := x.params, store := x.store, blocks := [] }
    else
      let dest := if x.valid || x.paramCrcOk then min x.params.mode 2 else 0
      let r := recallFactory ctr dest (c.sets.getD dest (CalSet.shipped 0 3000)) []
      { r with result := if r.result = 2 then 3 else r.result, lost := bit x.valid + r.lost }

/-- A recall ends: the coefficient store, the parameters and the gain mode are those of the set loaded; failed records may be
reloaded again, and an outcome that is not clean is logged (R428, R903 to R909). -/
def State.recallEnds (named : Nat) (lost : List Nat) (s : State) : State :=
  let r := s.cfl.recallOf s.freeCtr named lost
  let s1 := { s with
    freeCtr := s.freeCtr + 10
    pipe := { s.pipe with
      csto := r.store
      setNo := r.loaded
      params := r.params
      changed := false
      recalling := false
      queue := []
      failedRecs := [] }
    rd := { s.rd with gain := r.params.mode }
    cfl := { s.cfl with
      loaded := r.loaded
      requested := named
      lost := min r.lost 0xFF
      recallLost := r.blocks
      result := r.result
      userValid := (s.cfl.sets.getD 3 (CalSet.shipped 0 3000)).valid } }
  if r.result = 2 then s1
  else s1.logEntry 0x0009 [BitVec.ofNat 8 named, BitVec.ofNat 8 r.loaded, BitVec.ofNat 8 r.result, BitVec.ofNat 8 r.lost]

end Sys2Proof.Machine
end

