-- ==== Sys2Proof/Machine/Supply.lean ====
section
/-!
DEFINITION. The chargers of VHOLD and VSHR (spec/02_package_pads_supplies.md R65, R71, R72, R75; spec/04 R222).
-/

namespace Sys2Proof.Machine

open Sys2Proof

/-- The most that the module draws from VLINK0 and VLINK1 together, in mW (R65). -/
def powerLimit : Nat := 11200

/-- The chargers run from VLINK: not in Ride-through, nor while the module is Off (R71, R75, R207). -/
def Pwr.chargersRun (p : Pwr) : Bool := 18000 ≤ p.vlink && p.mode ≠ .ride && p.mode ≠ .off

/-- The power in mW that a charger of `ma` mA asks for while its capacitor at `mv` is below `stop` (R71). -/
def Pwr.chargerAsks (ma mv stop : Nat) (p : Pwr) : Nat := if p.chargersRun && mv < stop then ma * p.vlink / 1000 else 0

/-- The power in mW given to the charger of VHOLD: no more than the load leaves, none while the capacitance is measured (R72, R222). -/
def Pwr.holdPower (load stop : Nat) (p : Pwr) : Nat :=
  if p.measuring.isSome then 0 else min (powerLimit - load) (p.chargerAsks 100 p.vhold stop)

/-- The power in mW given to the charger of VSHR: what the load and VHOLD leave (R72). -/
def Pwr.shrPower (load stop : Nat) (p : Pwr) : Nat :=
  min (powerLimit - load - p.holdPower load stop) (p.chargerAsks 60 p.vshr stop)

/-- A capacitor that is given power rises, at most to where its charger stops. -/
def chargeUp (power mv rise stop : Nat) : Nat := if power = 0 then mv else min stop (mv + rise)

/-- Both capacitors after a little time at a load, with the rises that they would see and the level at which the chargers stop
(R71, R72). -/
def Pwr.charge (load stop riseHold riseShr : Nat) (p : Pwr) : Pwr :=
  { p with
    vhold := chargeUp (p.holdPower load stop) p.vhold riseHold stop
    vshr := chargeUp (p.shrPower load stop) p.vshr riseShr stop }

/-- The chargers while time passes: the load, the rises and the stop within 0.2 V of VLINK − 0.4 V are free values (log entry 161). -/
def State.charge (s : State) : State :=
  let v := fun k => (Config.freeValue (s.freeCtr + k)).toNat
  { s with
    freeCtr := s.freeCtr + 4
    pwr := s.pwr.charge (v 0 % (powerLimit + 1)) (s.pwr.vlink - 600 + v 1 % 401) (v 2 % 0x10000) (v 3 % 0x10000) }

end Sys2Proof.Machine
end

