-- ==== Sys2Proof/Machine/Drift.lean ====
section
/-!
DEFINITION. The drift estimator (spec/09_shutter_calibration_and_drift.md R474a to R489), in double precision as the spec asks,
and the passing of time on an empty queue.
-/

namespace Sys2Proof.Machine

open Sys2Proof

/-- A double from its bits. -/
def f64 (b : UInt64) : Float := Float.ofBits b

/-- A double as an integer, rounded half away from zero (R8). -/
def roundF (x : Float) : Int := if x < 0 then -((-x).round.toUInt64.toNat : Int) else (x.round.toUInt64.toNat : Int)

/-- A focal-plane code in kelvin. -/
def kelvin (code : Nat) : Float := 173.15 + code.toFloat / 256

/-- Sum of codes. -/
def sumCodes (l : List Nat) : Nat := l.foldl (· + ·) 0

/-- The rate sample of 100 codes: the last 50 against the 50 before (R475). -/
def rateOf (codes : List Nat) : Option Int :=
  if codes.length < 100 then none
  else some ((sumCodes (codes.drop 50) : Int) - (sumCodes (codes.take 50) : Int))

/-- A valid rate sample below 5.0 mK/s in magnitude (R476): 32 units of 5/32 mK/s. -/
def atRest : Option Int → Bool
  | some d => d.natAbs < 32
  | none => false

/-- A rest interval gives a reference point at 2.0 s and at every further 1.0 s (R476). -/
def referencePoint (samples : Nat) : Bool := 200 ≤ samples && (samples - 200) % 100 = 0

/-- u of R477 from x and A. -/
def driftU (p : SetParams) (x a : Float) : Float :=
  let cT := p.cT.toFloat / 16
  let cX := p.cX.toFloat / 16
  let u0 := p.uCal.toFloat
  let dx := cT * (x - kelvin p.tCal).abs
  let dA := cX * a
  Float.sqrt (u0 * u0 + dx * dx + dA * dA)

/-- One sample of the estimator at a tick (R474a to R478). -/
def Drift.sample (p : SetParams) (code t : Nat) (d : Drift) : Drift :=
  let T := kelvin code
  let codes := if d.started then (d.codes ++ [code]).drop (d.codes.length + 1 - 100) else [code]
  let rate := if d.started then rateOf codes else none
  let rest := if d.started && atRest rate then d.restSamples + 1 else 0
  let ref := referencePoint rest
  let δ := (t - d.lastT).toFloat / 100000000
  let tau := p.tauSub.toFloat / 1000
  let tPrev := kelvin (d.codes.getLastD code)
  let x1 := if d.started then f64 d.x + (T - f64 d.x) * (1 - Float.exp (-(δ / tau))) else T
  let a1 := if d.started then f64 d.a + (T - tPrev).abs else 1
  let x2 := if ref then 173.15 + (sumCodes (codes.drop 50)).toFloat / 50 / 256 else x1
  let a2 := if ref then 0 else a1
  let u := driftU p x2 a2
  { d with
    started := true
    x := x2.toBits
    a := a2.toBits
    u := u.toBits
    lastT := t
    lastSample := t
    codes := codes
    taken := d.taken + 1
    rate := if rate.isSome then rate else if d.started then d.rate else none
    restSamples := rest
    rateLog := match rate with
      | some r => d.rateLog ++ [r]
      | none => d.rateLog
    exceeded := d.bound.toFloat ≤ u
    armed := !d.started || d.armed || u < 0.9 * d.bound.toFloat }

/-- x − T_CAL in units of 1/256 K, saturated to signed 24 bits (R480). -/
def dtEffOf (p : SetParams) (d : Drift) : Int :=
  clamp (-8388608) 8388607 (roundF (256 * (f64 d.x - kelvin p.tCal)))

/-- BIAS in quarter LSB: K_RATE × rate / 256 with the rate in mK/s (R480). -/
def biasOf (p : SetParams) (d : Drift) : Int :=
  match d.rate with
  | some r => roundDivI (p.kRate * r * 5) 8192
  | none => 0

/-- u in mK, rounded and saturated (R480). -/
def driftUncOf (d : Drift) : Nat := min (roundF (f64 d.u)).toNat 0xFFFF

/-- DATA of EV_DRIFT_BOUND (R483, R539). -/
def driftBoundData (s : State) : List Byte :=
  let d := s.cal.drift
  le 2 (driftUncOf d) ++ le 2 d.bound ++ leInt 4 (roundF (256 * (f64 d.x - kelvin s.pipe.params.tCal)))
    ++ le 4 (roundF (256 * f64 d.a)).toNat ++ [BitVec.ofNat 8 (bit s.cal.inhibit.isSome), 0#8, 0#8, 0#8]

/-- The estimator replaced by a function of it. -/
def State.onDrift (f : Drift → Drift) (s : State) : State := s.onCal (fun c => { c with drift := f c.drift })

/-- Only the last 500 ms of rates are kept while no capture runs (R453). -/
def Drift.trimLog (capturing : Bool) (d : Drift) : Drift :=
  if capturing then d else { d with rateLog := d.rateLog.drop (d.rateLog.length - 50) }

/-- A capture of a calibration is open: its rate window grows (R453). -/
def Cal.capturing (c : Cal) : Bool := (c.phase = .capture || c.phase = .gCapture || c.phase = .gOpenCapture) && 0 < c.frames

/-- The Haul link carries traffic. -/
def Haul.carries (h : Haul) : Bool := h.training = 0 && (h.state = 2 || h.state = 3)

/-- The sample that is due every 10 ms while the link carries the code and the readout is armed or the module in Idle, and EV_DRIFT_BOUND when u reaches BOUND (R381, R474,
R474a, R483). -/
def State.driftSample (s : State) : State :=
  let t := s.tb.now
  if s.rd.state ≠ .off && (s.rd.isArmed || s.pwr.mode = .idle) && s.coreServes && s.rd.fpaValid && s.haul.carries && 1000000 ≤ t - s.cal.drift.lastSample then
    let s1 := s.onDrift (fun d => (d.sample s.pipe.params s.rd.fpaCode t).trimLog
      (match s.cal.cal with
       | some c => c.capturing
       | none => false))
    if s1.cal.drift.armed && s1.cal.drift.exceeded then
      (s1.onDrift (fun d => { d with armed := false })).raise 0x0A (driftBoundData s1)
    else s1
  else s

/-- The estimator starts anew at its next sample (R478). -/
def Drift.restart (d : Drift) : Drift :=
  { d with started := false, codes := [], rate := none, restSamples := 0, armed := true, rateLog := [] }

/-- The factors of the C die copy are in force anew; CAL_ADVISED is measured from the focal-plane temperature of this instant (R326,
R327). -/
def State.factorsRestored (s : State) : State := s.onRd (fun r => { r with adcBlock := r.adcCopy, calFpa := r.fpaNow })

/-- The focal-plane sensor converts: its result is a free value (log entry 2, R331). -/
def State.fpaConverts (s : State) : State :=
  { s with
    freeCtr := s.freeCtr + 1
    rd := { s.rd with fpaNow := (Config.freeValue s.freeCtr).toNat % 0x10000 } }

/-- The S die has been switched on: its focal-plane latch, its status bits and its ADC block are empty, its focal-plane sensor converts,
and the estimator starts anew (R340, R341, R478). -/
def State.sensorPowered (s : State) : State :=
  ((s.onRd (fun r => { r with
    fpaValid := false
    fpaCode := 0
    calAdvised := false
    trackLimit := false
    throttled := 2 ≤ s.level
    adcBlock := noFactors })).fpaConverts).onDrift Drift.restart

/-- A successful SHUTTER_CAL re-anchors the estimator at the new T_CAL (R479). -/
def Drift.anchor (p : SetParams) (d : Drift) : Drift :=
  let x := kelvin p.tCal
  { d with
    x := x.toBits
    a := (0 : Float).toBits
    u := (driftU p x 0).toBits
    exceeded := d.bound.toFloat ≤ driftU p x 0
    armed := d.armed || driftU p x 0 < 0.9 * d.bound.toFloat }

/-- An active inhibit of another session (R488). -/
def CalState.inhibitedFor (c : CalState) (session : Nat) : Bool :=
  match c.inhibit with
  | some (owner, _) => owner ≠ session
  | none => false

/-! ## Time on an empty queue (log entry 7) -/

/-- One tick of the timebase; in Keep and Keep-warm one AON tick (R269, R271). -/
def Tbase.tick (b : Tbase) : Tbase :=
  if b.running then { b with now := (b.now + 1) % 2 ^ 64 } else b

/-- In standby the AON counts instead of the timebase (R271). -/
def Tbase.standbyTick (m : ModState) (b : Tbase) : Tbase :=
  if (m = .keep || m = .keepWarm) && !b.running then { b with standbyTicks := b.standbyTicks + 1 } else b.tick

/-- What a step does on an empty queue: one tick, the chargers (R71, R72), the end of VIO after a thermal shutdown (R834, log entry 169), a
result of the focal-plane sensor while the S die has power (R331), a frame of the downstream lane (R354), and the drift sample when it is
due. -/
def idle (s : State) : State :=
  let s1 := ((s.onTb (Tbase.standbyTick s.pwr.mode)).charge).onRstc (fun r => { r with tripVio := false })
  ((if s.rd.state = .off then s1 else s1.fpaConverts).onHaul Haul.downSent).driftSample

end Sys2Proof.Machine
end

