-- ==== Sys2Proof/Machine/Pipeline.lean ====
section
/-!
DEFINITION. Samples of a row (spec/06_sensor_die_readout.md, spec/07_haul_link.md), the seven pipeline stages and the frame
trailer (spec/08_correction_pipeline.md), bit for bit.
-/

namespace Sys2Proof.Machine

open Sys2Proof

/-! ## Samples -/

/-- Code and OVR of an integrator output in microvolts under the range detector's finding (R310, R312, R313). -/
def adcCode (vd : Int) : Det → Nat × Bool
  | .high => (0x3FFF, true)
  | .low => (0, true)
  | .inRange => ((clamp 0 16383 ((vd + 800000) * 16384 / 1600000)).toNat, false)

/-- The trim, in 1/16 LSB, is subtracted from a delivered code (R328); an over-range code stays at its end. -/
def trimmed (trim : Int) (c : Nat × Bool) : Nat :=
  if c.2 then c.1 else (clamp 0 16383 (roundDivI (16 * (c.1 : Int) - trim) 16)).toNat

/-- Code and OVR of every physical column after the trims (R308). -/
def rowCodes (r : RowIn) (trims : List Int) : Array (Nat × Bool) :=
  let vd := r.vd.toArray
  (Array.range 1296).map (fun c =>
    let p := vd.getD c (0, .inRange)
    let a := adcCode p.1 p.2
    (trimmed (trims.getD (c / 36) 0) a, a.2))

/-- SETTLE of a column: OVR one or two positions before on the same ADC, or in the same column of the row before
(R315, R316). -/
def settles (a : Array (Nat × Bool)) (prev : List Nat) (c : Nat) : Bool :=
  let ovr := fun n => (a.getD n (0, false)).2
  (1 ≤ c % 36 && ovr (c - 1)) || (2 ≤ c % 36 && ovr (c - 2)) || prev.contains c

/-- The samples of a row as the ADCs deliver them (R315, R316). -/
def adcSamples (r : RowIn) (rd : Rd) : Array Sample :=
  let a := rowCodes r rd.trims
  (Array.range 1296).map (fun c =>
    { code := (a.getD c (0, false)).1, ovr := (a.getD c (0, false)).2, settle := settles a rd.prevOvr c })

/-- A row crosses the h-th of the lanes in service, lane `lane`: what arrives, and the sender after it (R347 to R353). -/
def Haul.laneRow (r : RowIn) (rd : Rd) (h lane : Nat) (x : Haul) : LaneRow × LaneTx :=
  let n := x.lanes.length
  let start := rowStartBlock r.row rd.frame lane (rd.rowsDone = 0) (rd.rowsDone + 1 = rd.count + 24)
  let y := sendAll (x.laneTx lane) (rowBlocks start n h rd.rt (adcSamples r rd))
  let idle := idleBlocks n rd.rt
  (receiveAll (x.laneRx lane) (y.1.mapIdx (fun k b => if k < idle then b else b ^^^ errorsAt r.lineErrs lane (k - idle))), y.2)

/-- A row crosses every lane in service. -/
def Haul.rowLanes (r : RowIn) (rd : Rd) (x : Haul) : List (Nat × LaneRow × LaneTx) :=
  x.lanes.mapIdx (fun h lane => (lane, x.laneRow r rd h lane))

/-- The samples of a row as the pipeline receives them (R351, R365). -/
def receivedSamples (rt : Nat) (l : List (Nat × LaneRow × LaneTx)) : Array Sample :=
  let n := l.length
  let a := (l.map (fun x => (((x.2.1.slots (idleBlocks n rt) n).map slotSamples).flatten).toArray)).toArray
  (Array.range 1296).map (fun c => (a.getD (columnPlace n c).1 #[]).getD (columnPlace n c).2 Sample.lost)

/-- Columns whose sample carries OVR at the ADC (R316). -/
def ovrColumns (a : Array (Nat × Bool)) : List Nat := (List.range 1296).filter (fun c => (a.getD c (0, false)).2)

/-- A sample of the array. -/
def sampleAt (a : Array Sample) (c : Nat) : Sample := a.getD c { code := 0, ovr := false, settle := false }

/-! ## Row reference (R397, R398) -/

/-- The blind columns (R286). -/
def blindColumns : List Nat := List.range 8 ++ (List.range 8).map (· + 1288)

/-- REF_q of a row, none when a blind sample carries OVR or SETTLE (R319, R397). -/
def rowReference (a : Array Sample) : Option Int :=
  if blindColumns.any (fun c => (sampleAt a c).ovr || (sampleAt a c).settle) then none
  else some (roundDiv ((blindColumns.map (fun c => (sampleAt a c).code)).sum) 4 : Nat)

/-! ## Lag and radiometry (R403, R412, R413) -/

/-- KL[c] of R403 at an applied sharpness and an interval. -/
def lagCoeff (sharp interval c : Nat) : Nat :=
  let tau := 50000 * Float.exp2 (c.toFloat / 64)
  let e := Float.exp (-(interval.toFloat / tau))
  let k := e / (1 - e)
  min (roundF (4096 * (sharp.toFloat / 256) * k)).toNat 0xFFFFF

/-- BB at a knot. -/
def bbAt (p : SetParams) (k : Nat) : Nat := p.bb.getD k 0

/-- temp_of of R413: linear between knots, the end segments extended. -/
def tempOf (p : SetParams) (s : Float) : Float :=
  let x := s / 512 + 256
  let i := if x < 0 then 0 else min x.floor.toUInt64.toNat 511
  (bbAt p i).toFloat + ((bbAt p (i + 1)).toFloat - (bbAt p i).toFloat) * (x - i.toFloat)

/-- signal_of of R413: the inverse over the monotonic table. -/
def signalOf (p : SetParams) (t : Nat) : Float :=
  let i := ((List.range 512).find? (fun k => t < bbAt p (k + 1))).getD 511
  ((i.toFloat - 256) + (t.toFloat - (bbAt p i).toFloat) / ((bbAt p (i + 1)).toFloat - (bbAt p i).toFloat)) * 512

/-- RLUT[k] (R413); with an emissivity of 1.000 it is BB. -/
def rlut (p : SetParams) (eps tRefl k : Nat) : Nat :=
  if eps = 1000 then bbAt p k
  else
    let sr := signalOf p tRefl
    let sk := (k.toFloat - 256) * 512
    (clamp 0 0xFFFF (roundF (tempOf p (sr + (sk - sr) / (eps.toFloat / 1000))))).toNat

/-- Stage 7 (R412). -/
def temp16 (p : SetParams) (eps tRefl : Nat) (a : Int) : Nat :=
  let x := (clamp (-131072) 131071 a + 131072).toNat
  let i := x / 512
  let lo : Int := (rlut p eps tRefl i : Nat)
  let hi : Int := (rlut p eps tRefl (i + 1) : Nat)
  (clamp 0 0xFFFF (lo + roundDivI ((hi - lo) * (x % 512 : Nat)) 512)).toNat

/-- CORR16 of a value (R414). -/
def corr16 (a : Int) : Nat := (clamp 0 0xFFFF (roundDivI a 4 + 0x8000)).toNat

/-! ## Stages 1 to 5 of one pixel -/

/-- "sat20" of the chapter. -/
def sat20 (v : Int) : Int := clamp (-524288) 524287 v

/-- Stage 2 (R399). -/
def stageOffset (bypass : Bool) (kint : Nat) (r : Rec) (aRef : Int) : Int :=
  sat20 (aRef - (if bypass then 0 else roundDivI (signed 16 (recField r 0 16) * kint) 4096))

/-- Stage 3 (R400). -/
def stageGain (bypass : Bool) (kinv : Nat) (r : Rec) (aOff : Int) : Int :=
  if bypass then aOff else sat20 (roundDivI (aOff * (recField r 16 16 * kinv : Nat)) 67108864)

/-- Stage 4 (R401). -/
def stageDrift (bypass : Bool) (dtEff biasQ : Int) (r : Rec) (aGain : Int) : Int :=
  if bypass then sat20 aGain else sat20 (aGain - roundDivI (signed 12 (recField r 32 12) * dtEff) 4096 - biasQ)

/-- m of R404. -/
def lagState (r : Rec) : Int := ((recField r 58 18 * 4 : Nat) : Int) - 524288

/-- Stage 5's output (R405, R406); codes other than 0b00 read as hold. -/
def stageLag (off : Bool) (kl : Nat) (r : Rec) (aDrift : Int) : Int :=
  if off || recField r 56 2 ≠ 0 then aDrift else sat20 (aDrift + roundDivI ((4 * aDrift - lagState r) * kl) 16384)

/-- Stage 5's new STATE (R407). -/
def lagWrite (flagged : Bool) (aDrift : Int) (r : Rec) : Rec :=
  let v := 4 * aDrift + 524288
  if flagged || aDrift < -131072 || 131071 < aDrift then recSet r 56 20 ((clamp 0 0xFFFFC v).toNat / 4 * 4 + 1)
  else recSet r 56 20 v.toNat

/-- SENT of R449 in the 20 bits of STATE. -/
def sent20 : Nat := 0x80000

/-- Stage 5 during a capture: the sum in STATE (R449). -/
def captureWrite (fresh : Bool) (sign lim : Int) (bad : Bool) (v : Int) (r : Rec) : Rec :=
  let acc := if fresh then 0 else signed 20 (recField r 56 20)
  if acc = -524288 || bad || v < -lim || lim < v then recSet r 56 20 sent20
  else recSet r 56 20 (field 20 (acc + sign * v))

/-- A pixel after stage 5. -/
structure Pix where
  sample : Sample
  record : Rec
  usable : Bool
  gain   : Int
  drift  : Int
  lag    : Int
  /-- The record the pass leaves. -/
  newRec : Rec

/-- The per-frame and per-row values stages 1 to 5 use. -/
structure RowCtx where
  pipe     : Pipe
  ref      : Int
  first    : Bool
  interval : Nat
  /-- Capture: fresh sum, sign, limit (R449). -/
  capture  : Option (Bool × Int × Int)
  /-- STATE holds the sums of a calibration and is left alone between its captures (R449, R450). -/
  frozen   : Bool

/-- A bypass bit in force (R432). -/
def Pipe.byp (p : Pipe) (n : Nat) : Bool := p.bypassApplied.testBit n

/-- Stages 1 to 5 of one pixel; `fail` marks a record that failed its check (R426). -/
def pixel (x : RowCtx) (s : Sample) (r : Rec) (fail : Bool) : Pix :=
  let aRef := 4 * (s.code : Int) - (if x.pipe.byp 0 then 32768 else x.ref)
  let aGain := stageGain (x.pipe.byp 2) x.pipe.kinv r (stageOffset (x.pipe.byp 1) x.pipe.kint r aRef)
  let aDrift := stageDrift (x.pipe.byp 3) x.pipe.dtEff x.pipe.biasQ r aGain
  let flagged := s.ovr || s.settle
  let off := fail || x.first || x.pipe.sharpApplied = 0
  { sample := s
    record := r
    usable := !(flagged || recField r 52 2 ≠ 0 || fail)
    gain := aGain
    drift := aDrift
    lag := stageLag off (if off then 0 else lagCoeff x.pipe.sharpApplied x.interval (recField r 44 8)) r aDrift
    newRec := match x.capture with
      | some (fresh, sign, lim) => captureWrite fresh sign lim (flagged || fail) aGain r
      | none => if fail || x.frozen then r else lagWrite flagged aDrift r }

/-! ## Replacement (R410, R411) -/

/-- What stage 6 leaves of a pixel. -/
structure Rep where
  value      : Int
  replaced   : Bool
  unresolved : Bool
  deriving DecidableEq, Repr

/-- The value of a valid candidate. -/
def candidate (a : Array Pix) (c : Nat) : Option Int :=
  match a[c]? with
  | some p => if p.usable then some p.lag else none
  | none => none

/-- A candidate `d` columns to the left, none past the edge. -/
def leftOf (a : Array Pix) (c d : Nat) : Option Int := if d ≤ c then candidate a (c - d) else none

/-- Rules 1 to 5 for an unusable pixel (R410). -/
def replacement (a : Array Pix) (above : Option Int) (c : Nat) : Int × Bool :=
  match leftOf a c 1, candidate a (c + 1) with
  | some l, some r => (roundDivI (l + r) 2, false)
  | some l, none => (l, false)
  | none, some r => (r, false)
  | none, none =>
    match ([2, 3, 4].map (fun d => [leftOf a c d, candidate a (c + d)])).flatten.find? Option.isSome with
    | some (some v) => (v, false)
    | _ =>
      match above with
      | some v => (v, false)
      | none => (0, true)

/-- Stage 6 of one row. -/
def stageReplace (bypass : Bool) (prev : Array (Int × Bool)) (a : Array Pix) : Array Rep :=
  a.mapIdx (fun c p =>
    if bypass || p.usable then { value := p.lag, replaced := false, unresolved := false }
    else
      let above := match prev[c]? with
        | some (v, ok) => if ok && recField p.record 54 1 = 0 then some v else none
        | none => none
      let v := replacement a above c
      { value := v.1, replaced := true, unresolved := v.2 })

/-! ## Formats (R414, R415) -/

/-- Two bytes, least significant first (R415). -/
def px16 (v : Nat) : List Byte := [BitVec.ofNat 8 v, BitVec.ofNat 8 (v / 256)]

/-- QUAL4 code of a pixel under a stream's QMASK (R414, R609). -/
def qual4 (mask : Nat) (uncertain : Bool) (p : Pix) (r : Rep) : Nat :=
  (bit p.sample.ovr + bit p.sample.settle * 2 + bit r.replaced * 4 + bit uncertain * 8) &&& mask

/-- The bytes of one row of a stream. -/
def lineBytes (x : Stream) (pipe : Pipe) (uncertain : Bool) (a : Array Pix) (b : Array Rep) : List Byte :=
  let cols := (List.range x.colCount).map (· + x.colStart)
  let val := fun c => (b[c]?.map (·.value)).getD 0
  let code := fun c => (a[c]?.map (·.sample.code)).getD 0
  let qual := fun c => match a[c]?, b[c]? with
    | some p, some r => qual4 x.qApplied uncertain p r
    | _, _ => 0
  match x.pixfmt with
  | 0 => (cols.map (fun c => px16 (code c))).flatten
  | 1 => (cols.map (fun c => px16 (corr16 (val c)))).flatten
  | 2 => (cols.map (fun c => px16 (temp16 pipe.params pipe.epsApplied pipe.tReflApplied (val c)))).flatten
  | _ => (List.range (x.colCount / 2)).map (fun k =>
      BitVec.ofNat 8 (qual (x.colStart + 2 * k) + 16 * qual (x.colStart + 2 * k + 1)))

/-- A stream's pixel counts after a row (R417). -/
def Stream.countRow (x : Stream) (a : Array Pix) (b : Array Rep) : Stream :=
  let cols := (List.range x.colCount).map (· + x.colStart)
  { x with
    ovr := x.ovr + (cols.filter (fun c => (a[c]?.map (·.sample.ovr)).getD false)).length
    replaced := x.replaced + (cols.filter (fun c => (b[c]?.map (·.replaced)).getD false)).length
    unresolved := x.unresolved + (cols.filter (fun c => (b[c]?.map (·.unresolved)).getD false)).length }

/-! ## Tile statistics (R451) -/

/-- Statistics of 64 empty tiles. -/
def noTiles : List (Nat × Int × Nat) := List.replicate 64 (0, 0, 0)

/-- One value joins a tile. -/
def tileAdd (v : Int) (t : Nat × Int × Nat) : Nat × Int × Nat := (t.1 + 1, t.2.1 + v, t.2.2 + (v * v).toNat)

/-- One row joins the tiles of its frame. -/
def tilesRow (row : Nat) (a : Array Pix) (l : List (Nat × Int × Nat)) : List (Nat × Int × Nat) :=
  (List.range 1280).foldl (fun acc c => match a[c]? with
    | some p => if p.usable then acc.modify (8 * (row / 128) + c / 160) (tileAdd p.drift) else acc
    | none => acc) l

/-! ## Gang hash (R691) -/

/-- CONFIG_HASH. -/
def State.configHash (s : State) : Nat :=
  (crc32 (le 2 s.rd.rt ++ le 2 s.rd.cfgInt ++ le 2 s.rd.start ++ le 2 s.rd.count ++ le 4 s.rd.cfgPeriod ++ le 1 s.rd.gain
    ++ le 1 s.trig.cfg.mode ++ le 1 s.trig.cfg.edge ++ le 1 s.gang.expected ++ le 1 s.gang.rule)).toNat

/-! ## Trailer (R417 to R422) -/

/-- Mean in Q14.2 of a sum and a count; 0 when nothing is usable. -/
def meanQ2 (p : Nat × Nat) : Nat := if p.2 = 0 then 0 else roundDiv (4 * p.1) p.2

/-- Channel, kind and time of a listed event (R419). -/
def ActEvent.bytes (e : ActEvent) : List Byte :=
  le 8 e.time ++ le 1 (chanCode e.ch) ++ le 1 (e.kind + bit e.late * 128) ++ [0#8, 0#8]

/-- Inserts an event by time (R421). -/
def insertEvent (e : ActEvent) : List ActEvent → List ActEvent
  | [] => [e]
  | x :: xs => if x.time ≤ e.time then x :: insertEvent e xs else e :: x :: xs

/-- Events assigned to the trailer of the frame in transfer (R420). -/
def State.assigned (s : State) : List ActEvent := s.act.events.filter s.rd.owns

/-- The 16 earliest of them (R421). -/
def State.listed (s : State) : List ActEvent := (s.assigned.foldl (fun l e => insertEvent e l) []).take 16

/-- Stage 4 marks the frame in transfer, unless it is bypassed (R24, R402, R432). -/
def State.uncertain (s : State) : Bool := !s.pipe.byp 3 && (s.pipe.driftMark || s.rd.fpaStale)

/-- FLAGS of R418. -/
def State.trailerFlags (s : State) : Nat :=
  let r := s.rd
  bit r.firstFrame + bit (!r.lagLow && 0 < s.pipe.sharpApplied) * 2 + bit r.lagChanged * 4 + bit r.fpaStale * 8
    + bit s.uncertain * 16 + bit r.linkErr * 32 + bit (0 < r.refsubRows) * 64 + bit r.throttled * 128
    + bit r.refDefault * 256 + bit (s.listed.any (·.late)) * 512

/-- The frame number that stands in a trailer: the gang's counter in a gang (R688), else the readout's. -/
def State.frameNo (s : State) : Nat := s.rd.present

/-- The trailer of a stream (R417). -/
def State.trailer (s : State) (i : Nat) : List Byte :=
  let r := s.rd
  let x := s.stream i
  let ev := s.listed
  let b := le 4 0x54524C5A ++ le 2 1 ++ le 2 0x200 ++ le 8 r.stamp ++ le 4 s.frameNo ++ le 4 (min r.interval 0xFFFFFFFF)
    ++ le 1 i ++ le 1 x.pixfmt ++ le 2 s.trailerFlags ++ le 2 r.int ++ le 2 r.rt ++ le 2 r.start ++ le 2 r.count
    ++ le 2 x.colStart ++ le 2 x.colCount ++ le 1 r.gain ++ le 1 s.pipe.setNo ++ le 2 r.sharpFirst ++ le 1 s.level
    ++ [0#8] ++ le 2 r.fpaUsed ++ leInt 4 s.pipe.dtEff ++ leInt 4 s.pipe.biasQ ++ le 2 s.pipe.driftUnc
    ++ le 2 s.cal.drift.bound ++ le 4 r.encPos ++ le 8 r.trigTb ++ le 4 x.dropped ++ le 4 x.ovr ++ le 4 x.replaced
    ++ le 4 x.unresolved ++ le 2 r.refsubRows ++ le 2 (if r.refsubRows = 0 then 0xFFFF else r.refsubFirst)
    ++ le 2 (meanQ2 r.blindNorth) ++ le 2 (meanQ2 r.blindSouth) ++ le 1 s.gang.state ++ le 1 s.trig.gangId
    ++ le 2 s.gang.slips ++ le 4 s.configHash ++ le 2 s.fwCompat ++ le 1 s.enc.state ++ le 1 (min s.assigned.length 0xFF)
    ++ le 1 ev.length ++ List.replicate 19 0#8
    ++ (ev.map ActEvent.bytes).flatten ++ List.replicate (192 - 12 * ev.length) 0#8 ++ List.replicate 188 0#8
  b ++ le 4 (crc32 b).toNat

end Sys2Proof.Machine
end

