-- ==== Sys2Proof/Machine/CalOps.lean ====
section
/-!
DEFINITION. Shared operations of calibration (spec/09_shutter_calibration_and_drift.md) and of the exclusive resources SHUTTER and
CSTO_PORT (spec/11_command_packets_and_sessions.md R569 to R579).
-/

namespace Sys2Proof.Machine

open Sys2Proof

/-! ## The window and its records -/

/-- Index of the window's first record and how many it holds. -/
def Rd.windowFirst (r : Rd) : Nat := r.start * 1280
def Rd.windowSize (r : Rd) : Nat := r.count * 1280

/-- A pixel is included in an update (R460). -/
def recIncluded (r : Rec) : Bool := recField r 56 20 ≠ sent20 && recField r 52 1 = 0 && recField r 16 16 ≠ 0

/-- A sum over the window: listed records one by one, the others at once. -/
def RecStore.sumOver (x : RecStore) (first size : Nat) (f : Rec → Int) : Int :=
  let listed := x.recs.filter (fun p => first ≤ p.1 && p.1 < first + size)
  (listed.map (fun p => f p.2)).sum + ((size - listed.length : Nat) : Int) * f x.base

/-- A count over the window. -/
def RecStore.countOver (x : RecStore) (first size : Nat) (f : Rec → Bool) : Nat :=
  (x.sumOver first size (fun r => if f r then 1 else 0)).toNat

/-- S_p, the sum in STATE (R461). -/
def sumOf (r : Rec) : Int := signed 20 (recField r 56 20)

/-- Every record of the window changed by a function. -/
def RecStore.mapWindow (first size : Nat) (f : Rec → Rec) (x : RecStore) : RecStore :=
  x.setRun first ((List.range size).map (fun k => f (x.get (first + k))))

/-- Included pixels of the window. -/
def State.included (s : State) : Nat := s.pipe.csto.countOver s.rd.windowFirst s.rd.windowSize recIncluded

/-- Sum of S_p over included pixels. -/
def State.includedSum (s : State) : Int :=
  s.pipe.csto.sumOver s.rd.windowFirst s.rd.windowSize (fun r => if recIncluded r then sumOf r else 0)

/-! ## Holders of SHUTTER and CSTO_PORT (R569, R573) -/

/-- Resource codes. -/
def resShutter : Nat := 4
def resPort : Nat := 5

/-- A shutter move of a command or a calibration is in progress. -/
def Act.moveHeld (a : Act) : Bool :=
  match a.move with
  | some m => (match m.asker with
    | .command _ _ => true
    | .orphan => true
    | .calibration => false
    | .parking => false)
  | none => false

/-- A resource is held. -/
def State.held (s : State) (r : Nat) : Bool :=
  if r = resShutter then s.cal.cal.isSome || s.act.moveHeld
  else s.cal.cal.isSome || s.cfl.recalling.isSome || s.cfl.save.isSome

/-- The instant by which the holders of a resource end (R473, R444, R903, R753, R756). -/
def State.heldUntil (s : State) (r : Nat) : Nat :=
  let c := match s.cal.cal with
    | some c => c.start + msTicks (if c.gain then 6000 else 3000)
    | none => 0
  let m := match s.act.move with
    | some m => m.asked + msTicks 4000
    | none => 0
  let p := (if s.cfl.recalling.isSome then s.cfl.holdStart + msTicks 420 else 0)
    + (if s.cfl.save.isSome then s.cfl.holdStart + msTicks 90000 else 0)
  if r = resShutter then max c m else max c p

/-- Resources a deferrable opcode needs (R569). -/
def needsOf (op : Nat) : List Nat :=
  if op = 0x21 || op = 0x22 then [resShutter, resPort]
  else if op = 0x36 then [resShutter]
  else [resPort]

/-- Arrival of a deferred flight. -/
def Flight.arrival (f : Flight) : Nat :=
  match f.st with
  | .deferred _ _ a => a
  | .queued => 0
  | .waiting _ => 0
  | .running => 0
  | .answered => 0
  | .held => 0

/-- Of the deferred requests that arrived earlier, those of class `c` or lower that demand a resource too (R574, R576). -/
def aheadOn (earlier : List Flight) (r c : Nat) : List Flight :=
  earlier.filter (fun f => f.cls ≤ c && (needsOf f.opcode).contains r)

/-- The deferred requests that arrived before one of them (R574). -/
def Sess.before (x : Sess) (f : Flight) : List Flight := x.deferred.takeWhile (· ≠ f)

/-- The frame period in force (R307). -/
def State.periodInForce (s : State) : Nat := if s.rd.throttled then doubledPeriod s.rd.period else s.rd.period

/-- Frames in a time, rounded up; 0xFFFF when no readout runs (R576). -/
def State.framesUp (s : State) (ticks : Nat) : Nat :=
  if s.rd.isArmed then min (ceilDiv ticks s.periodInForce) 0xFFFF else 0xFFFF

/-- The first resource of a list that a request of class `c` cannot have, with the deferred requests that arrived earlier (R574,
R575). -/
def State.blockedOn (s : State) (rs : List Nat) (c : Nat) (earlier : List Flight) : Option Nat :=
  rs.find? (fun r => s.held r || !(aheadOn earlier r c).isEmpty)

/-- The latest bound on the end of the holders that a request waits for: those of what it needs, and of what the requests ahead of it
need (R576). -/
def State.waitsUntil (s : State) (rs : List Nat) (c : Nat) (earlier : List Flight) : Nat :=
  let ahead := (rs.map (fun r => aheadOn earlier r c)).flatten
  let all := rs ++ (ahead.map (fun f => needsOf f.opcode)).flatten
  ((all.filter s.held).map s.heldUntil).foldl max 0

/-- RESULT of DEFERRED (R544, R576). -/
def State.deferredResult (s : State) (rs : List Nat) (r c wait : Nat) : List Byte :=
  le 2 (s.framesUp (s.waitsUntil rs c s.sess.deferred - s.tb.now)) ++ le 1 r ++ le 1 (1 + (aheadOn s.sess.deferred r c).length)
    ++ le 2 wait ++ [0#8, 0#8]

/-- RESULT of REFUSED_CAPACITY for an exclusive resource, which has no units (R569). -/
def exclusiveRefusal (r flags : Nat) : List Byte := capacityResult { resource := r, detail := 0, need := 0, avail := 0 } flags

/-- REFUSED_CAPACITY that waiting cannot change: bit 1 (R544, R575). -/
def State.refuseCapacity (h : Hdr) (op : Nat) (q : Shortage) (s : State) : State := s.answer h op stCapacity (capacityResult q 2)

/-- The converter demands a deeper level than a command's admission allows: reason CONVERTER (R243, R569). -/
def State.convShort (s : State) (allowed : Nat) : Option Shortage :=
  if allowed < s.pwr.convStep then some { resource := 7, detail := s.pwr.convStep, need := 0, avail := 0 } else none

/-- Admission of a request for exclusive resources: it starts, is deferred, or is refused when WAIT is 0 (R574 to R576). -/
def State.admitExclusive (h : Hdr) (op wait : Nat) (cmd : Instr) (rs : List Nat) (start : State → State) (s : State) : State :=
  match s.blockedOn rs (s.sess.effClass h) s.sess.deferred with
  | none => start s
  | some r =>
    if wait = 0 then s.answer h op stCapacity (exclusiveRefusal r 1)
    else s.interim h op (some cmd) (.deferred r (s.tb.now + msTicks wait) s.tb.now) stDeferred
      (s.deferredResult rs r (s.sess.effClass h) wait)

/-! ## EV_CAL_DONE (R459, R539) -/

/-- DATA for ADC_CAL, CALSET_SELECT and CALSET_SAVE: bytes 3 to 43 zero, but byte 12. -/
def calDoneShort (op origin st adc : Nat) : List Byte :=
  [BitVec.ofNat 8 op, BitVec.ofNat 8 origin, BitVec.ofNat 8 st] ++ List.replicate 9 0#8 ++ [BitVec.ofNat 8 adc]
    ++ List.replicate 31 0#8

/-- DATA for SHUTTER_CAL and GAIN_CAL. -/
def Cal.doneData (c : Cal) (st tCal : Nat) (opened : Bool) : List Byte :=
  [BitVec.ofNat 8 (if c.gain then 0x22 else 0x21), BitVec.ofNat 8 c.origin, BitVec.ofNat 8 st, BitVec.ofNat 8 c.failed]
    ++ le 8 c.tileFail ++ le 1 c.worstTile ++ le 2 c.worstSigma ++ le 2 c.worstMean ++ le 2 c.temporal ++ le 2 c.rateMax
    ++ le 4 c.updated ++ le 4 c.excluded ++ le 2 tCal ++ leInt 3 (if st = stOk then c.driftErr else 0)
    ++ le 4 c.firstFrame ++ le 4 c.lastFrame ++ le 1 (bit opened) ++ [0#8]

/-- An event of a calibration: a completion for the session that asked, an event for subscribers when it was automatic. -/
def State.calDone (origin tag st : Nat) (data : List Byte) (s : State) : State :=
  if origin = 0xFF then s.raise 0x0B data else s.complete origin tag 0x0B st data

/-- The pipeline is released: the next frame passes stage 5 unchanged, and with it the hold ends (R447, R450). -/
def Pipe.release (p : Pipe) : Pipe := { p with lagReload := true }

/-- A readout that the calibration armed disarms unless a stream runs by then, which keeps its free-run; Run ends with it (R36, R446). -/
def State.calDisarm (s : State) : State :=
  if s.rd.armedBy = .calibration then
    (if s.runningStreams.isEmpty then s.rdDisarm.toIdle else s.onRd (fun r => { r with armedBy := .calKept }))
  else s

/-- The captures and updates of a calibration are over: the pipeline is released, if a capture had begun (R447, R450, R474). -/
def State.calRelease (s : State) : State :=
  match s.cal.cal with
  | some c => if c.firstCapture then s else s.onPipe Pipe.release
  | none => s

/-- A calibration that ends before its shutter opens again has been abandoned: its hold of the pipeline ends at once (R450, R474). -/
def State.calAbandoned (s : State) : State := s.calRelease.onPipe (fun p => { p with calHeld := false })

/-- A calibration ends with a status: EV_CAL_DONE; the pipeline, unless it was released before the shutter opened, and the readout are
released (R446, R450, R459). -/
def State.calEnds (st : Nat) (opened : Bool) (s : State) : State :=
  match s.cal.cal with
  | none => s
  | some c =>
    let auto := fun (d : Drift) => { d with lastAuto := if c.origin = 0xFF then some s.tb.now else d.lastAuto }
    let s1 := (if c.phase = .opening then s else s.calAbandoned).onCal (fun x => { x with cal := none, drift := auto x.drift })
    (s1.calDisarm).calDone c.origin c.tag st (c.doneData st s.pipe.params.tCal opened)

/-- The calibration in flight replaced by a function of it. -/
def State.onCalRun (f : Cal → Cal) (s : State) : State := s.onCal (fun c => { c with cal := c.cal.map f })

/-- A shutter program has ended while its move is under way: it ended without a waiting instruction, a confirmed DIP or a rise of
the current (R749, R753). -/
def State.deadMove (s : State) : Bool := s.act.moving && (s.chan 8).cfg.mode = 2 && !(s.act.chisel 2).run

/-- The calibration in flight ends, unless the shutter's opening has been confirmed, with OPENED 0. -/
def State.calUnopened (s : State) : State :=
  match s.cal.cal with
  | some c => s.calEnds c.status false
  | none => s

/-- The calibration orders the shutter open. A disabled channel moves nothing, and a program that ends at once has not confirmed the
move: the calibration ends (R459, R753, R758). -/
def State.calOpen (s : State) : State :=
  let s1 := s.calRelease.onCalRun (fun c => { c with phase := .opening })
  if (s.chan 8).disabled then s1.calUnopened
  else
    let s2 := s1.moveRequest 0 .calibration s.tb.now
    if s2.deadMove then (s2.moveEnds false true).calUnopened else s2

/-- A check fails: nothing is written and the shutter opens (R457, R458). -/
def State.calFails (bits : Nat) (s : State) : State :=
  (s.onCalRun (fun c => { c with failed := c.failed ||| bits, status := stFailCal })).calOpen

/-- The calibration orders a move before a capture and goes to a phase. A disabled channel moves nothing, and a program that ends at
once has not confirmed the move: the MOTION check fails (R453, R457, R753, R758). -/
def State.calMove (dir : Nat) (ph : CalPhase) (s : State) : State :=
  let s1 := s.onCalRun (fun c => { c with phase := ph })
  if (s.chan 8).disabled then s1.calFails 1
  else
    let s2 := s1.moveRequest dir .calibration s.tb.now
    if s2.deadMove then (s2.moveEnds false true).calFails 1 else s2

/-- A shutter move of the calibration has ended (R453 MOTION, R457, R467); a calibration that a core outage has stopped goes no
further (R938). -/
def State.calMoved (confirmed : Bool) (s : State) : State :=
  match (if s.coreServes then s.cal.cal else none) with
  | none => s
  | some c =>
    match c.phase with
    | .closing => if confirmed then s.onCalRun (fun c => { c with phase := .settle }) else s.calFails 1
    | .gClosing => if confirmed then s.onCalRun (fun c => { c with phase := .gSettle }) else s.calFails 1
    | .gOpening => if confirmed then s.onCalRun (fun c => { c with phase := .gOpenSettle }) else s.calFails 1
    | .opening => s.calEnds c.status confirmed
    | .settle => s
    | .capture => s
    | .offsetUpdate => s
    | .gSettle => s
    | .gCapture => s
    | .gOpenSettle => s
    | .gOpenCapture => s
    | .gUpdate => s

/-- A calibration just accepted. -/
def Cal.fresh (gain : Bool) (start origin tag sigma mean temp : Nat) : Cal where
  gain := gain
  start := start
  origin := origin
  tag := tag
  sigma := sigma
  mean := mean
  temp := temp
  phase := .closing
  frames := 0
  firstFrame := 0
  lastFrame := 0
  firstCapture := true
  tiles := []
  fpaCodes := []
  dtEffs := []
  failed := 0
  tileFail := 0
  worstTile := 0xFF
  worstSigma := 0
  worstMean := 0
  temporal := 0
  rateMax := 0
  updated := 0
  excluded := 0
  driftErr := 0
  status := stOk

/-- A calibration needs a readout: a disarmed one is armed in free-run (R446). -/
def State.calReadout (s : State) : State :=
  if s.rd.state = .disarmed && s.cal.cal.isSome then s.rdArmed .calibration
  else s

/-- A calibration starts: the readout is armed in free-run when it is disarmed, and the shutter closes (R446, R471). -/
def State.calStart (gain : Bool) (origin tag sigma mean temp : Nat) (s : State) : State :=
  let s1 := s.onCal (fun x => { x with cal := some (Cal.fresh gain s.tb.now origin tag sigma mean temp) })
  s1.calReadout.calMove 1 (if gain then .gClosing else .closing)

/-- The settling time has passed: the capture begins with the next frame (R448). A move that is confirmed and not yet switched off
(`confirmed`) has passed it too. -/
def Cal.settled (confirmed : Bool) (c : Cal) : Cal :=
  let fresh := { c with frames := 0, tiles := [], fpaCodes := [], dtEffs := [] }
  match c.phase with
  | .settle => { fresh with phase := .capture }
  | .gSettle => { fresh with phase := .gCapture }
  | .gOpenSettle => { fresh with phase := .gOpenCapture }
  | .closing => if confirmed then { fresh with phase := .capture } else c
  | .gClosing => if confirmed then { fresh with phase := .gCapture } else c
  | .gOpening => if confirmed then { fresh with phase := .gOpenCapture } else c
  | .capture => c
  | .offsetUpdate => c
  | .opening => c
  | .gCapture => c
  | .gOpenCapture => c
  | .gUpdate => c

/-- A move under way has its motion confirmed: by the dip, in mode 0x02 by the program's DIP (R722, R753). -/
def State.moveConfirmed (s : State) : Bool :=
  s.act.moving && (if (s.chan 8).cfg.mode = 2 then (s.act.chisel 2).dip else (s.chan 8).motion)

/-- A capture phase. -/
def Cal.inCapture (c : Cal) : Bool := c.phase = .capture || c.phase = .gCapture || c.phase = .gOpenCapture

/-- The frame that begins now is the next of a capture (R448). -/
def Cal.captureFrame (number : Nat) (dtEff : Int) (c : Cal) : Cal :=
  if c.inCapture && c.frames < 16 then
    { c with
      frames := c.frames + 1
      firstFrame := if c.firstCapture then number else c.firstFrame
      lastFrame := number
      firstCapture := false
      tiles := c.tiles ++ [noTiles]
      dtEffs := c.dtEffs ++ [dtEff] }
  else c

/-- The focal-plane code of a captured frame (R465). -/
def Cal.captureCode (code : Nat) (c : Cal) : Cal := { c with fpaCodes := c.fpaCodes ++ [code] }

/-- How the frame in transfer is captured: fresh sum, sign and limit of R449. -/
def Cal.captureCtx (c : Cal) (frame : Nat) : Option (Bool × Int × Int) :=
  if c.inCapture && 0 < c.frames && c.lastFrame = frame then
    some (c.frames = 1 && c.phase ≠ .gOpenCapture, if c.phase = .gCapture then -1 else 1,
      if c.phase = .capture then 32767 else 16383)
  else none

/-! ## Checks (R453 to R456) -/

/-- Mean of one tile of one frame. -/
def tileMean (t : Nat × Int × Nat) : Float := Float.ofInt t.2.1 / t.1.toFloat

/-- Standard deviation of one tile of one frame. -/
def tileSd (t : Nat × Int × Nat) : Float :=
  let m := tileMean t
  Float.sqrt (max 0 (t.2.2.toFloat / t.1.toFloat - m * m))

/-- One tile over the frames of a capture. -/
def tileFrames (l : List (List (Nat × Int × Nat))) (n : Nat) : List (Nat × Int × Nat) := l.map (fun f => f.getD n (0, 0, 0))

/-- A tile is checked when every frame counts at least 1,024 of its pixels (R455). -/
def tileChecked (l : List (List (Nat × Int × Nat))) (n : Nat) : Bool := (tileFrames l n).all (fun t => 1024 ≤ t.1)

/-- Sum of doubles. -/
def sumF (l : List Float) : Float := l.foldl (· + ·) 0

/-- Mean of a list of doubles. -/
def meanF (l : List Float) : Float := sumF l / l.length.toFloat

/-- μ_t and σ_t of a tile, and its pixel count (R454). -/
def tileStats (l : List (List (Nat × Int × Nat))) (n : Nat) : Float × Float × Nat :=
  let fs := tileFrames l n
  (meanF (fs.map tileMean), meanF (fs.map tileSd), (fs.map (·.1)).sum)

/-- Count-weighted mean. -/
def weighted (l : List (Float × Nat)) : Float :=
  sumF (l.map (fun p => p.1 * p.2.toFloat)) / sumF (l.map (fun p => p.2.toFloat))

/-- A double in quarter LSB as a saturating 16-bit field. -/
def field16 (x : Float) : Nat := min (roundF x).toNat 0xFFFF

/-- The FLATNESS and TEMPORAL checks of a capture (R453 to R456). -/
def Cal.flatness (p : SetParams) (c : Cal) : Cal :=
  let sMax := (if c.sigma = 0 then p.sigmaDef else c.sigma).toFloat
  let mMax := (if c.mean = 0 then p.meanDef else c.mean).toFloat
  let tMax := (if c.temp = 0 then p.tempDef else c.temp).toFloat
  let ns := (List.range 64).filter (tileChecked c.tiles)
  let st := ns.map (fun n => (n, tileStats c.tiles n))
  let mu := weighted (st.map (fun x => (x.2.1, x.2.2.2)))
  let bad := (st.filter (fun x => sMax < x.2.2.1 || mMax < (x.2.1 - mu).abs)).map (·.1)
  let score := fun (x : Nat × Float × Float × Nat) => max (x.2.2.1 / sMax) ((x.2.1 - mu).abs / mMax)
  let worst := st.foldl (fun b x => match b with
    | none => some x
    | some y => if score y < score x then some x else some y) none
  let frameMean := fun k => weighted (ns.map (fun n => (tileMean ((c.tiles.getD k noTiles).getD n (0, 0, 0)),
    ((c.tiles.getD k noTiles).getD n (0, 0, 0)).1)))
  let drift := if ns.isEmpty then 0 else (frameMean 15 - frameMean 0).abs
  { c with
    failed := c.failed ||| (if bad.isEmpty then 0 else 8) ||| (if tMax < drift then 16 else 0)
    tileFail := c.tileFail ||| (bad.map (fun n => 2 ^ n)).sum
    worstTile := (worst.map (·.1)).getD c.worstTile
    worstSigma := (worst.map (fun x => field16 x.2.2.1)).getD c.worstSigma
    worstMean := (worst.map (fun x => field16 (x.2.1 - mu).abs)).getD c.worstMean
    temporal := max c.temporal (field16 drift) }

/-- Largest rate magnitude of the checked interval in units of 5/32 mK/s. -/
def Drift.rateMax (d : Drift) : Nat := (d.rateLog.map Int.natAbs).foldl max 0

/-- The FPA_RATE check (R453): 5.0 mK/s is 32 units, and RATE_MAX is in 1/16 mK/s. -/
def Cal.fpaRate (d : Drift) (c : Cal) : Cal :=
  { c with
    failed := c.failed ||| (if 32 ≤ d.rateMax then 4 else 0)
    rateMax := max c.rateMax (min (roundDiv (5 * d.rateMax) 2) 0xFFFF) }

/-- The COVERAGE check and, at the end of GAIN_CAL's open capture, CONTRAST (R453). -/
def Cal.coverage (included size : Nat) (sum : Int) (c : Cal) : Cal :=
  { c with
    failed := c.failed ||| (if 100 * included < 95 * size then 64 else 0)
      ||| (if c.phase = .gOpenCapture && sum < 4096 * (included : Int) then 32 else 0)
    excluded := size - included }

/-- The checks at the end of a capture, and what follows (R453, R458, R467, R470). -/
def State.captureChecks (s : State) : State :=
  match s.cal.cal with
  | none => s
  | some c =>
    if c.inCapture && c.frames = 16 && !(s.rd.frameOpen && s.rd.frame = c.lastFrame) then
      let c1 := ((c.fpaRate s.cal.drift).flatness s.pipe.params).coverage s.included s.rd.windowSize s.includedSum
      let s1 := s.onCalRun (fun _ => c1)
      if c1.failed ≠ 0 then s1.calFails 0
      else match c.phase with
        | .gCapture => s1.calMove 0 .gOpening
        | .gOpenCapture => s1.onCalRun (fun c => { c with phase := .gUpdate })
        | _ => s1.onCalRun (fun c => { c with phase := .offsetUpdate })
    else s

/-! ## Updates (R460 to R469) -/

/-- The new OFFSET of an included pixel and whether it saturated (R461). -/
def newOffset (m : Int) (kint kinv : Nat) (r : Rec) : Int × Bool :=
  let v := signed 16 (recField r 0 16) + roundDivI ((sumOf r - m) * 2 ^ 34) (recField r 16 16 * kinv * kint)
  (clamp (-32768) 32767 v, v < -32768 || 32767 < v)

/-- The offset update of one record (R461 to R463). -/
def offsetRec (m : Int) (kint kinv : Nat) (r : Rec) : Rec :=
  if recIncluded r then
    let v := newOffset m kint kinv r
    recSet (recSet r 0 16 (field 16 v.1)) 53 1 (bit v.2)
  else r

/-- The gain update of one record: D̄ is `sum` over `n` (R468, R469). -/
def gainRec (sum : Int) (n : Nat) (r : Rec) : Rec :=
  if recIncluded r then
    let d := sumOf r
    if 0 < d && d * n ≤ 2 * sum && sum ≤ 2 * d * n then
      recSet r 16 16 (clamp 1 0xFFFF (roundDivI (recField r 16 16 * sum) (d * n).toNat)).toNat
    else recSet r 53 1 1
  else r

/-- Included with DEFECT bit 55 clear (R465). -/
def driftCounted (r : Rec) : Bool := recIncluded r && recField r 55 1 = 0

/-- 256 × e of R465, none when the weighted sum of squares is 0. -/
def State.driftSlope (s : State) (m : Int) : Option Int :=
  let first := s.rd.windowFirst
  let size := s.rd.windowSize
  let n := s.pipe.csto.countOver first size driftCounted
  let dr := fun (r : Rec) => signed 12 (recField r 32 12)
  let total := s.pipe.csto.sumOver first size (fun r => if driftCounted r then dr r else 0)
  -- n × w_p keeps the weights whole
  let w := fun (r : Rec) => (n : Int) * dr r - total
  let num := s.pipe.csto.sumOver first size (fun r => if driftCounted r then (sumOf r - m) * w r else 0)
  let den := s.pipe.csto.sumOver first size (fun r => if driftCounted r then w r * w r else 0)
  if den = 0 then none else some (roundDivI (256 * num * n) den.toNat)

/-- The offset update is complete: offsets, T_CAL, DRIFT_ERR and the estimator; the shutter opens (R461 to R466, R479). The spec
gives no e where every weight is zero: DRIFT_ERR is then a free value. -/
def State.offsetUpdate (s : State) : State :=
  match s.cal.cal with
  | none => s
  | some c =>
    if c.phase = .offsetUpdate then
      let m := roundDivI s.includedSum s.included
      let tCal := roundDiv (sumCodes c.fpaCodes) (max c.fpaCodes.length 1)
      let dtMean := roundDivI c.dtEffs.sum (max c.dtEffs.length 1)
      let err := match s.driftSlope m with
        | some v => v - dtMean
        | none => signed 24 (Config.freeValue s.freeCtr).toNat
      let p := { s.pipe.params with tCal := tCal }
      let s1 := { s with
        freeCtr := s.freeCtr + 1
        pipe := { s.pipe with
          csto := s.pipe.csto.mapWindow s.rd.windowFirst s.rd.windowSize (offsetRec m s.pipe.kint s.pipe.kinv)
          params := p
          changed := true }
        cal := { s.cal with
          drift := s.cal.drift.anchor p
          cal := some { c with updated := s.included, driftErr := clamp (-8388608) 8388607 err, status := stOk } } }
      s1.calOpen
    else s

/-- The gain update is complete; GAIN_CAL closes the shutter again (R467 to R469). -/
def State.gainUpdate (s : State) : State :=
  match s.cal.cal with
  | none => s
  | some c =>
    if c.phase = .gUpdate then
      let s1 := { s with
        pipe := { s.pipe with
          csto := s.pipe.csto.mapWindow s.rd.windowFirst s.rd.windowSize (gainRec s.includedSum s.included)
          changed := true }
        cal := { s.cal with cal := some { c with updated := s.included } } }
      s1.calMove 1 .closing
    else s

/-! ## The long operations' ends -/

/-- An ADC_CAL ends; without success the copy's factors stay in force, restored to the ADC block (R322, R326). A calibration accepted
meanwhile arms the readout now (R446, DEDUCED, log entry 164). -/
def State.adcCalEnds (st adc : Nat) (s : State) : State :=
  match s.cal.adcCal with
  | none => s
  | some (session, tag, _) =>
    ((((if st = stOk then s else s.factorsRestored).onCal (fun c => { c with adcCal := none })).onRd (fun r =>
      { r with state := if r.state = .adcCal || r.state = .seeding then .disarmed else r.state })).calReadout).calDone session tag st
        (calDoneShort 0x20 session st adc)

/-- A CALSET_SELECT ends (R438, R908). -/
def State.recallReply (st : Nat) (s : State) : State :=
  match s.cfl.recalling with
  | none => s
  | some (session, tag, _) =>
    (s.onCfl (fun c => { c with recalling := none })).calDone session tag st (calDoneShort 0x26 session st 0)

/-- A CALSET_SAVE ends (R443 to R445, R911). -/
def State.saveEnds (st : Nat) (s : State) : State :=
  match s.cfl.save with
  | none => s
  | some j =>
    (s.onCfl (fun c => { c with save := none, saveCancel := false })).calDone j.session j.tag st (calDoneShort 0x27 j.session st 0)

/-! ## Starting the deferrable commands -/

/-- CALSET_SELECT is accepted: the recall runs (R438, R440). -/
def State.recallStart (h : Hdr) (set : Nat) (s : State) : State :=
  ((s.onCfl (fun c => { c with recalling := some (h.session, h.tag, set), requested := set, result := 1, holdStart := s.tb.now })).onPipe
    (fun p => { p with recalling := true })).accept h 0x26

/-- The user set as CALSET_SAVE starts to write it: SET_STATE programmed invalid, then the header erased, its SET_STATE with it (R443,
R900, R910). -/
def CalSet.voided (x : CalSet) : CalSet := { x with setState := 0, headerOk := false, paramCrcOk := false, badBlocks := [] }

/-- Steps 1 and 2 of R910. -/
def Cfl.saveVoid (c : Cfl) : Cfl := { c with userValid := false, sets := c.sets.modify 3 CalSet.voided }

/-- CALSET_SAVE is accepted; it waits when the header steps and the first block fail the energy check, and the user set stands as it
was until they begin (R228, R443 to R445, R911). -/
def State.saveStart (h : Hdr) (s : State) : State :=
  let s1 := (s.onCfl (fun c => { c with
    save := some { session := h.session, tag := h.tag, block := 0, waiting := !s.pwr.covers needFlash, retried := false }
    saveCancel := false
    holdStart := s.tb.now })).accept h 0x27
  if s.pwr.covers needFlash then s1.onCfl Cfl.saveVoid else s1

/-- Records written by COEFF_WRITE: STATE keeps its value at hold (R393, R394). DESIGN CHOICE (log entry 174): all of them in one
step, so no FENCE comes between two. -/
def writeRecs (first : Nat) (rs : List (BitVec 80)) (x : RecStore) : RecStore :=
  x.setRun first (rs.mapIdx (fun k r => recHold (recSet r 56 20 (recField (x.get (first + k)) 56 20))))

/-- One entry of DEFECT_EDIT (R394, R612). -/
def editRec (e : DefectEntry) (x : RecStore) : RecStore :=
  let r := x.get e.index
  x.set e.index (recHold (recSet r 52 4 ((recField r 52 4 ||| e.set) - ((recField r 52 4 ||| e.set) &&& e.clear))))

/-- The records of the set in force change. -/
def State.editStore (f : RecStore → RecStore) (s : State) : State :=
  s.onPipe (fun p => { p with csto := f p.csto, changed := true })

/-- RESULT of COEFF_WRITE and DEFECT_EDIT. -/
def writtenResult (n : Nat) : List Byte := le 2 n ++ [0#8, 0#8]

/-- SHUTTER_MOVE to the position held completes at once; any other move is requested (R755, R756), and one whose program ends at
once has ended unconfirmed (R753). -/
def State.shutterStart (h : Hdr) (dir : Nat) (s : State) : State :=
  if s.act.position = dir + 1 then s.complete0 h.session h.tag 0x36 stOk [1#8]
  else
    let s1 := s.moveRequest dir (.command h.session h.tag) s.tb.now
    if s1.deadMove then s1.moveEnds false true else s1

/-- The start of a deferrable command, as it is answered once admitted (R578). -/
def State.startCmd (c : Instr) (s : State) : State :=
  match c with
  | .shutterCal h _ a b t => (s.accept h 0x21).calStart false h.session h.tag a b t
  | .gainCal h _ a b t => (s.accept h 0x22).calStart true h.session h.tag a b t
  | .shutterMove h _ dir => (s.accept h 0x36).shutterStart h dir
  | .calsetSelect h _ set => s.recallStart h set
  | .calsetSave h _ => s.saveStart h
  | .coeffWrite h _ first rs => (s.editStore (writeRecs first rs)).answer h 0x29 stOk (writtenResult rs.length)
  | .defectEdit h _ es => (s.editStore (fun x => es.foldl (fun y e => editRec e y) x)).answer h 0x25 stOk (writtenResult es.length)
  | _ => s

/-- The status of that reply. -/
def startStatus (op : Nat) : Nat := if op = 0x25 || op = 0x29 then stOk else stAccepted

/-- A deferred request is admitted (R578). -/
def State.serveDeferred (f : Flight) (s : State) : State :=
  match f.cmd with
  | none => s
  | some c =>
    ((s.onSess (fun x => (x.owe f).closeOpen f.hdr.session f.hdr.tag)).startCmd c).raise 0x04
      ([BitVec.ofNat 8 f.hdr.session, BitVec.ofNat 8 f.hdr.tag, BitVec.ofNat 8 f.opcode, BitVec.ofNat 8 (startStatus f.opcode)]
        ++ le 4 (if s.rd.isArmed then roundDiv (s.tb.now - f.arrival) s.periodInForce else 0))

/-- Deferred requests in class order, within a class in order of arrival (R577). -/
def Sess.deferredOrder (x : Sess) : List Flight :=
  (x.deferred.filter (·.cls = 0)) ++ (x.deferred.filter (·.cls = 1)) ++ (x.deferred.filter (fun f => 2 ≤ f.cls))

/-- One deferred request is tried again. -/
def State.tryDeferred (s : State) (f : Flight) : State :=
  if (s.blockedOn (needsOf f.opcode) f.cls (s.sess.before f)).isNone then s.serveDeferred f else s

/-- Deferred requests are evaluated again, then decimation is lifted where it can be (R577, R583); in a core outage they are kept
for its end (R938). -/
def State.reevaluate (s : State) : State :=
  if s.coreServes then (s.sess.deferredOrder.foldl State.tryDeferred s).liftDecimation else s

/-- A shutter move ends, with what its asker does next (R150, R457, R754, R755). -/
def State.shutterEnds (confirmed counted : Bool) (s : State) : State :=
  match s.act.move with
  | none => s
  | some m =>
    let s1 := s.moveEnds confirmed counted
    match m.asker with
    | .command _ _ => s1.reevaluate
    | .orphan => s1.reevaluate
    | .calibration => (s1.calMoved confirmed).reevaluate
    | .parking => s1

/-- Every deferred request ends with FAIL_ABORTED (R199, R586). -/
def State.abortDeferred (s : State) : State := s.sess.deferred.foldl (fun t f => t.answerOpen f stFailAborted []) s

end Sys2Proof.Machine
end

