-- ==== Sys2Proof/Machine/Calibration.lean ====
section
/-!
DEFINITION. Opcodes 0x20 to 0x29 and the events of calibration (spec/12_command_catalogue.md R611 to R614, chapter 09, and
chapters 06 and 17 where they report a calibration or recall).
-/

namespace Sys2Proof.Machine

open Sys2Proof

/-! ## Shared conditions -/

/-- The S die is off, or no lane of the Haul link is trained (R324, R363, R472). -/
def State.noSensor (s : State) : Bool := s.rd.state = .off || s.haul.noLane

/-- The readout is armed in a triggered mode (R472): a gang that is ARMED or RUNNING, or a source other than free-run and than gang,
which outside a gang runs free (R680); a readout that a calibration armed runs free (R446). -/
def State.triggeredArmed (s : State) : Bool := s.rd.isArmed && !s.rd.forCal && (2 ≤ s.gang.state || (s.trig.cfg.source ≠ 0 && s.trig.cfg.source ≠ 7))

/-- REFUSED_STATE when a condition holds. -/
def stateIf (b : Bool) : Option Nat := if b then some stState else none

/-- The first status of two conditions. -/
def orStatus (a b : Option Nat) : Option Nat :=
  match a with
  | some st => some st
  | none => b

/-- REFUSED_THERMAL at thermal level 3 (R42, R828). -/
def State.thermalGate (s : State) : Option Nat := if s.thm.level = 3 then some stThermal else none

/-- The gate of SHUTTER_CAL and GAIN_CAL (R472). -/
def calGate (h : Hdr) (tier wait : Nat) (s : State) : Gate where
  params := [(0, decide (60000 < wait))]
  tier := tier
  owner := s.sess.claimedBy h.session [0x12]
  state := orStatus (stateIf (s.noSensor || s.triggeredArmed || s.cal.inhibitedFor h.session)) s.thermalGate

/-! ## ADC_CAL (R320 to R326) -/

/-- R323, R324. -/
def adcCalGate (h : Hdr) (s : State) : Gate where
  params := []
  tier := 2
  owner := s.sess.claimedBy h.session [0x14]
  state := stateIf (s.noSensor || !s.runningStreams.isEmpty || s.rd.isArmed || s.cal.adcCal.isSome)

/-- The calibration starts: ACCEPTED. -/
def adcCalBody (h : Hdr) (s : State) : State :=
  ((s.onCal (fun c => { c with adcCal := some (h.session, h.tag, none) })).onRd (fun r => { r with state := .adcCal })).accept h 0x20

/-- ADC_CAL (R320). -/
def execAdcCal (h : Hdr) (s : State) : Out := live s (serve h 0x20 (.adcCal h) (adcCalGate h) (adcCalBody h))

/-! ## SHUTTER_CAL, GAIN_CAL (R471 to R473) -/

/-- Admission of a calibration: its captures need a readout, which converter level 3 does not allow (R243). -/
def State.admitCal (h : Hdr) (op wait : Nat) (cmd : Instr) (s : State) : State :=
  match s.convShort 2 with
  | some q => s.refuseCapacity h op q
  | none => s.admitExclusive h op wait cmd (needsOf op) (State.startCmd cmd)

/-- SHUTTER_CAL (R461, R471). -/
def execShutterCal (h : Hdr) (wait sigma mean temp : Nat) (s : State) : Out :=
  live s (serve h 0x21 (.shutterCal h wait sigma mean temp) (calGate h 3 wait)
    (State.admitCal h 0x21 wait (.shutterCal h wait sigma mean temp)))

/-- GAIN_CAL (R467, R471). -/
def execGainCal (h : Hdr) (wait sigma mean temp : Nat) (s : State) : Out :=
  live s (serve h 0x22 (.gainCal h wait sigma mean temp) (calGate h 2 wait)
    (State.admitCal h 0x22 wait (.gainCal h wait sigma mean temp)))

/-! ## DRIFT_CONFIG, SHUTTER_INHIBIT (R482, R486 to R489) -/

/-- R482. -/
def driftGate (h : Hdr) (bound mode : Nat) (s : State) : Gate where
  params := [(0, bound < 20 || 2000 < bound), (2, 1 < mode)]
  tier := 2
  owner := s.sess.claimedBy h.session [0x14]
  state := none

/-- BOUND and MODE are set; the reply carries u. -/
def driftBody (h : Hdr) (bound mode : Nat) (s : State) : State :=
  (s.onDrift (fun d => { d with bound := bound, auto := mode = 1, exceeded := bound.toFloat ≤ f64 d.u })).answer h 0x23 stOk
    (le 2 (driftUncOf s.cal.drift) ++ [0#8, 0#8])

/-- DRIFT_CONFIG (R482). -/
def execDriftConfig (h : Hdr) (bound mode : Nat) (s : State) : Out :=
  live s (serve h 0x23 (.driftConfig h bound mode) (driftGate h bound mode) (driftBody h bound mode))

/-- R487. -/
def inhibitGate (h : Hdr) (ms : Nat) (s : State) : Gate where
  params := [(0, 120000 < ms)]
  tier := 2
  owner := s.sess.claimedBy h.session [0x12]
  state := stateIf (s.cal.drift.exceeded || s.cal.inhibitedFor h.session)

/-- The inhibit is set, renewed, or ended by 0 (R486, R489). -/
def inhibitBody (h : Hdr) (ms : Nat) (s : State) : State :=
  (s.onCal (fun c => { c with inhibit := if ms = 0 then none else some (h.session, s.tb.now + msTicks ms) })).answer h 0x24 stOk
    (le 4 ms)

/-- SHUTTER_INHIBIT (R486). -/
def execShutterInhibit (h : Hdr) (ms : Nat) (s : State) : Out :=
  live s (serve h 0x24 (.shutterInhibit h ms) (inhibitGate h ms) (inhibitBody h ms))

/-! ## DEFECT_EDIT, COEFF_READ, COEFF_WRITE (R393 to R395, R611 to R614) -/

/-- What an entry of DEFECT_EDIT breaks, by offset (R612). -/
def defectBad (k : Nat) (e : DefectEntry) : List (Nat × Bool) :=
  [(4 + 4 * k, 1310719 < e.index), (6 + 4 * k, e.zero ≠ 0),
   (7 + 4 * k, e.set % 2 = 1 || e.clear % 2 = 1 || e.set &&& e.clear ≠ 0)]

/-- R612. -/
def defectGate (h : Hdr) (wait : Nat) (es : List DefectEntry) (s : State) : Gate where
  params := (0, decide (60000 < wait)) :: (2, es.isEmpty || 255 < es.length) :: (es.mapIdx defectBad).flatten
  tier := 2
  owner := s.sess.claimedBy h.session [0x13]
  state := none

/-- DEFECT_EDIT (R612). -/
def execDefectEdit (h : Hdr) (wait : Nat) (es : List DefectEntry) (s : State) : Out :=
  live s (serve h 0x25 (.defectEdit h wait es) (defectGate h wait es)
    (fun t => t.admitExclusive h 0x25 wait (.defectEdit h wait es) (needsOf 0x25) (State.startCmd (.defectEdit h wait es))))

/-- R613. -/
def coeffReadGate (first count : Nat) (_ : State) : Gate where
  params := [(0, 1310719 < first), (4, count = 0 || 24 < count || 1310720 < first + count)]
  tier := 3
  owner := none
  state := none

/-- The records of R389. -/
def coeffReadBody (h : Hdr) (first count : Nat) (s : State) : State :=
  s.answer h 0x28 stOk (le 4 first ++ ((List.range count).map (fun k => le 10 (s.pipe.csto.get (first + k)).toNat)).flatten)

/-- COEFF_READ (R611). -/
def execCoeffRead (h : Hdr) (first count : Nat) (s : State) : Out :=
  live s (serve h 0x28 (.coeffRead h first count) (coeffReadGate first count) (coeffReadBody h first count))

/-- R395, R613. -/
def coeffWriteGate (h : Hdr) (wait first : Nat) (rs : List (BitVec 80)) (s : State) : Gate where
  params := (0, decide (60000 < wait)) :: (2, decide (1310719 < first)) :: (6, rs.isEmpty || decide (101 < rs.length) || decide (1310720 < first + rs.length))
    :: rs.mapIdx (fun k r => (17 + 10 * k, decide (recField r 76 4 ≠ 0)))
  tier := 2
  owner := s.sess.claimedBy h.session [0x13]
  state := none

/-- COEFF_WRITE (R393 to R395). -/
def execCoeffWrite (h : Hdr) (wait first : Nat) (rs : List (BitVec 80)) (s : State) : Out :=
  live s (serve h 0x29 (.coeffWrite h wait first rs) (coeffWriteGate h wait first rs)
    (fun t => t.admitExclusive h 0x29 wait (.coeffWrite h wait first rs) (needsOf 0x29) (State.startCmd (.coeffWrite h wait first rs))))

/-! ## CALSET_SELECT, CALSET_SAVE (R438 to R445) -/

/-- A command of an opcode is accepted and waits for a resource (R547, R578). -/
def Sess.defers (x : Sess) (ops : List Nat) : Bool := x.deferred.any (fun f => ops.contains f.opcode)

/-- R439: in flight counts from the acceptance, so a deferred one too (R547). -/
def selectGate (h : Hdr) (wait set : Nat) (s : State) : Gate where
  params := [(0, decide (60000 < wait)), (2, 3 < set)]
  tier := 2
  owner := s.sess.claimedBy h.session [0x13]
  state := stateIf (s.rd.isArmed || (set = 3 && !(s.cfl.sets.getD 3 (CalSet.shipped 0 3000)).valid) || s.cal.cal.isSome
    || s.cfl.save.isSome || s.sess.defers [0x21, 0x22, 0x27])

/-- CALSET_SELECT (R438). -/
def execCalsetSelect (h : Hdr) (wait set : Nat) (s : State) : Out :=
  live s (serve h 0x26 (.calsetSelect h wait set) (selectGate h wait set)
    (fun t => t.admitExclusive h 0x26 wait (.calsetSelect h wait set) (needsOf 0x26) (State.startCmd (.calsetSelect h wait set))))

/-- Tier and claim of CALSET_SAVE. -/
def saveGate (h : Hdr) (wait : Nat) (s : State) : Gate where
  params := [(0, decide (60000 < wait))]
  tier := 2
  owner := s.sess.claimedBy h.session [0x13]
  state := none

/-- CALSET_SAVE (R442 to R445). -/
def execCalsetSave (h : Hdr) (wait : Nat) (s : State) : Out :=
  live s (serve h 0x27 (.calsetSave h wait) (saveGate h wait)
    (fun t => t.admitExclusive h 0x27 wait (.calsetSave h wait) (needsOf 0x27) (State.startCmd (.calsetSave h wait))))

/-! ## Events -/

/-- 722,000 clocks have passed: seeding, or FAIL_HW naming the ADC whose weights fall out of range (R320, R326). -/
def execAdcCalEnd (failed : Option Nat) (s : State) : Out :=
  live s (fun t =>
    if t.rd.state = .adcCal then
      (match failed with
       | some n => t.adcCalEnds stFailHw n
       | none => t.onRd (fun r => { r with state := .seeding }))
    else t)

/-- The targets are written, every trim is 0, CAL_ADVISED and TRACK_LIMIT are cleared (R321, R322, R341). -/
def Rd.seeded (lows highs : List Nat) (r : Rd) : Rd :=
  { r with
    targetLow := lows
    targetHigh := highs
    trims := List.replicate 36 0
    testSums := noSums
    calAdvised := false
    trackLimit := false }

/-- The factors that an ADC_CAL computes for one ADC: the spec gives no values, so they are free values (log entry 2). -/
def AdcFactors.computed (ctr : Nat) : AdcFactors where
  weights := (Config.freeValue ctr).toNat
  offset := (Config.freeValue (ctr + 1)).toNat
  gain := (Config.freeValue (ctr + 2)).toNat

/-- The new factors go to the ADC block and to the C die copy together (R322). -/
def State.factorsWritten (s : State) : State :=
  { s with
    freeCtr := s.freeCtr + 108
    rd := { s.rd with adcCopy := (List.range 36).map (fun j => AdcFactors.computed (s.freeCtr + 3 * j)) } }.factorsRestored

/-- The seeding ends an ADC_CAL; in a wake from Keep-warm and in a return from Ride-through it follows a restoration (R117, R209). -/
def State.seedsNew (s : State) : Bool := !(s.rstc.order = .wakeKeepWarm || s.rstc.order = .rideReturn)

/-- Seeding ends (R321, R322, R327). -/
def execSeedingEnd (lows highs : List Nat) (s : State) : Out :=
  live s (fun t => if t.rd.state = .seeding then
      ((if t.seedsNew then (t.onRd (Rd.seeded lows highs)).factorsWritten else (t.onRd (Rd.seeded lows highs)).factorsRestored).adcCalEnds
        stOk 0)
    else t)

/-- 40 ms after the confirmed move the capture begins with the next frame (R448). -/
def execCalSettleExpiry (tick : Nat) (s : State) : Out := live s (onCore (fun t => (t.atTick tick).onCalRun (Cal.settled t.moveConfirmed)))

/-- The sixteenth frame has ended: the checks (R453). -/
def execCaptureComplete (s : State) : Out := live s (onCore State.captureChecks)

/-- The capture did not complete within 2.0 s (R453 FRAMES). -/
def execCaptureFramesTimeout (s : State) : Out :=
  live s (onCore (fun t => match t.cal.cal with
    | some c => if c.inCapture then t.calFails 2 else t
    | none => t))

/-- The offset update is complete (R461 to R466). -/
def execOffsetUpdateDone (s : State) : Out := live s (onCore State.offsetUpdate)

/-- The gain update is complete (R468, R469). -/
def execGainUpdateDone (s : State) : Out := live s (onCore State.gainUpdate)

/-- What an automatic shutter event asks for (R484, R488). -/
def State.autoDue (s : State) : Bool :=
  s.cal.drift.auto && s.cal.drift.exceeded && s.cal.inhibit.isNone && !s.held resShutter && !s.held resPort && !s.noSensor
    && !s.triggeredArmed && (s.convShort 2).isNone && s.rstc.bootOk && !s.pipe.recalling && s.thm.level < 3 && (s.pwr.mode = .run || s.pwr.mode = .idle)
    && (match s.cal.drift.lastAuto with
        | some t => t + msTicks 30000 ≤ s.tb.now
        | none => true)

/-- AUTO mode starts a SHUTTER_CAL with ORIGIN 0xFF and default thresholds (R484). -/
def execAutoShutterCal (tick : Nat) (s : State) : Out :=
  live s (onCore (fun t =>
    let u := t.atTick tick
    if u.autoDue then u.calStart false 0xFF 0 0 0 0 else u))

/-- The inhibit's duration has passed (R489). -/
def execShutterInhibitExpiry (s : State) : Out := live s (State.onCal (fun c => { c with inhibit := none }))

/-- A recall of CALSET_SELECT ends with its outcome (R438, R905, R908); the estimator starts anew (R478). -/
def execCalsetRecallDone (lost : List Nat) (s : State) : Out :=
  live s (onCore (fun t => match t.cfl.recalling with
    | some (_, _, set) =>
      let u := (t.recallEnds set lost).onDrift Drift.restart
      (u.recallReply (if u.cfl.result = 2 then stOk else stFailHw)).reevaluate
    | none => t))

/-- The user set as a completed save leaves it (R442, R443, R910). -/
def State.savedSet (s : State) : CalSet where
  params := s.pipe.params
  headerOk := true
  paramCrcOk := true
  setState := 1
  store := s.pipe.csto.map (fun r => recSet r 56 20 0)
  badBlocks := []

/-- The save in flight moves to a block, waiting when its energy check fails (R445). -/
def State.saveNext (block : Nat) (s : State) : State :=
  s.onCfl (fun c => { c with save := c.save.map (fun j =>
    { j with
      block := block
      retried := false
      waiting := !s.pwr.covers needFlash }) })

/-- The header is written and the user set is valid (R910). -/
def State.saveFinish (s : State) : State :=
  (((s.onCfl (fun c => { c with sets := c.sets.modify 3 (fun _ => s.savedSet), userValid := true })).onPipe
    (fun p => { p with changed := false })).saveEnds stOk).reevaluate

/-- A block is done: the next one, the header, a second attempt, or the end (R445, R584, R910, R911). -/
def execCalsetSaveBlockDone (readBackOk : Bool) (s : State) : Out :=
  live s (onCore (fun t => match t.cfl.save with
    | none => t
    | some j =>
      if j.waiting then t
      else if !readBackOk then
        (if j.retried then (t.saveEnds stFailHw).reevaluate
         else t.onCfl (fun c => { c with save := some { j with retried := true, waiting := !t.pwr.covers needFlash } }))
      else if t.cfl.saveCancel then (t.saveEnds stFailAborted).reevaluate
      else if j.block < 199 then t.saveNext (j.block + 1)
      else if t.pwr.covers needFlash then t.saveFinish
      else t.saveNext 200))

/-- The check has not passed for 5.0 s: FAIL_ABORTED, the user set stays invalid (R445). -/
def execCalsetSaveEnergyTimeout (s : State) : Out :=
  live s (onCore (fun t => match t.cfl.save with
    | some j => if j.waiting then (t.saveEnds stFailAborted).reevaluate else t
    | none => t))

/-- The resource that a deferred request lacks, first in the order of R569 (R575). -/
def State.lackOf (s : State) (f : Flight) : Nat := (s.blockedOn (needsOf f.opcode) f.cls (s.sess.before f)).getD resPort

/-- The WAIT of a deferred request expires (R579). -/
def execDeferredWaitExpiry (session tag : Nat) (s : State) : Out :=
  live s (onCore (fun t => match t.sess.deferred.find? (fun f => f.hdr.session = session && f.hdr.tag = tag) with
    | some f => t.answerOpen f stCapacity (exclusiveRefusal (t.lackOf f) 1)
    | none => t))

end Sys2Proof.Machine
end

