-- ==== Sys2Proof/Machine/Throttle.lean ====
section
/-!
DEFINITION. Leaving the gang, and what a change of the throttle level in force does (spec/04 R239 to R243, spec/16 R823 to R832,
spec/08 R408, spec/06 R307, spec/01 R28, R29, R41, spec/13 R680, R694).
-/

namespace Sys2Proof.Machine

open Sys2Proof

/-! ## The gang (R680, R694) -/

/-- EV_GANG_DISAGREE (R539, R694): the value is a number of 32 bits, signed for kinds 0x03 and 0x04. -/
def State.disagree (kind member : Nat) (value : Int) (s : State) : State :=
  s.raise 0x11 ([BitVec.ofNat 8 kind, BitVec.ofNat 8 s.gang.leader, BitVec.ofNat 8 member, 0#8] ++ le 4 (value % (2 ^ 32 : Nat)).toNat)

/-- The gang logic of a module that is no member: its configuration and what it has counted and measured stay (R680, R700 to
R702). DESIGN CHOICE (log entry 156): R199 calls the gang state of Ride-through IDLE, but the module has left its gang (R680, R694), and
R700 gives a module that is no member the code 0b00; the model takes that code. -/
def Gang.left (g : Gang) : Gang :=
  { Gang.reset with
    expected := g.expected
    rule := g.rule
    counter := g.counter
    slips := g.slips
    delay := g.delay
    offset := g.offset }

/-- RESULT of a GANG_JOIN completion (R625). -/
def joinResult (g : Gang) (reason : Nat) : List Byte :=
  [BitVec.ofNat 8 g.state, BitVec.ofNat 8 g.leader, BitVec.ofNat 8 g.present, BitVec.ofNat 8 reason]

/-- The GANG_JOIN in flight. -/
def Gang.joiner (g : Gang) : Option (Nat × Nat) :=
  match g.joining with
  | .none => none
  | .listening session tag => some (session, tag)
  | .requested session tag => some (session, tag)
  | .aligning _ => none

/-- A GANG_JOIN ends (R628, R676). -/
def State.joinEnds (st reason : Nat) (s : State) : State :=
  match s.gang.joiner with
  | none => s
  | some (session, tag) =>
    (s.onGang (fun g => { g with joining := .none })).complete0 session tag 0x54 st (joinResult s.gang reason)

/-- The module leaves the gang: its logic is reset and its slew ends (R680, R274). -/
def State.gangOut (s : State) : State := (s.onGang Gang.left).onTb (fun b => { b with slewing := false })

/-- The module leaves for a reason of R694 and says so; a GANG_JOIN in flight ends. -/
def State.gangLeaves (reason : Nat) (s : State) : State :=
  if s.gang.state = 0 then (s.joinEnds stFailAborted 0).gangOut
  else ((s.disagree 0x07 s.trig.gangId reason).joinEnds stFailAborted 0).gangOut

/-! ## The throttle level in force -/

/-- Stage 5 under the level in force: at level 1 and deeper the rest of the frame passes unchanged (R240, R408, R418). -/
def State.lagThrottled (s : State) : State :=
  { s with
    pipe := { s.pipe with sharpApplied := 0 }
    rd := { s.rd with
      lagChanged := s.rd.lagChanged || (s.rd.frameOpen && 0 < s.pipe.sharpApplied)
      lagLow := true
      slot := s.rd.slot.map (fun v => { v with sharp := 0 }) } }

/-- Level 3: the readout stops at the end of the frame in transfer, a calibration ends (R41, R474, R826). -/
def State.stopAtEnd (s : State) : State := (s.calEnds stFailAborted false).haltAllAtEnd

/-- What the level in force demands after a rise from `old`: counts, sharpness, frame rate, the gang, the readout, and the
deferred requests (R28, R29, R41, R408, R621). -/
def State.levelRaised (old : Nat) (s : State) : State :=
  let s1 := s.onCounters (countersUp 7 (s.level - old))
  let s2 := if 1 ≤ s.level then s1.lagThrottled else s1
  let s3 := s2.rateStep
  let s4 := if old < 2 && 2 ≤ s.level && s.gang.state ≠ 0 then s3.gangLeaves 0x01 else s3
  (if old < 3 && 3 ≤ s.level then s4.stopAtEnd else s4).reevaluate

/-- The converter demands at least a level (R239, R242). -/
def State.convDemand (k : Nat) (s : State) : State :=
  (s.onPwr (fun p => { p with convStep := max p.convStep k })).levelRaised s.level

/-- Step 3 that the converter asked for at the end of the frame in transfer, however that ended (R239). -/
def State.convFrameEnd (s : State) : State :=
  if s.pwr.convAtFrameEnd && !s.rd.frameOpen then (s.onPwr (fun p => { p with convAtFrameEnd := false })).convDemand 3 else s

end Sys2Proof.Machine
end

