-- ==== Sys2Proof/Machine/StreamCmds.lean ====
section
/-!
DEFINITION. Opcodes 0x10 to 0x1A: streams, the readout's configuration and arming, the pipeline's settings
(spec/12_command_catalogue.md R603 to R610, spec/06_sensor_die_readout.md R289 to R306, spec/11 R567 to R583).
-/

namespace Sys2Proof.Machine

open Sys2Proof

/-! ## Shared conditions -/

/-- WAIT above 60,000 ms (R570). -/
def waitBad (wait : Nat) : Nat × Bool := (0, 60000 < wait)

/-- The owner of an open stream when the session is neither it nor the Steward (R567); no claim code names a stream. -/
def State.streamOwner (s : State) (h : Hdr) (i : Nat) : Option (Nat × Nat) :=
  let x := s.stream i
  if x.opened && x.owner ≠ h.session && h.session ≠ 0 then some (x.owner, 0) else none

/-- The ADC calibration or its seeding runs (R325). -/
def State.adcBusy (s : State) : Bool := s.rd.state = .adcCal || s.rd.state = .seeding

/-- The row time is below the smallest one in force (R374). -/
def State.haulShort (s : State) (rt : Nat) : Option Shortage :=
  if rt < s.haul.minRt then some { resource := 8, detail := s.haul.lanesUp, need := rt, avail := s.haul.minRt } else none

/-- What keeps the readout from starting, converter before Haul link (R569). -/
def State.startShort (s : State) : Option Shortage :=
  match s.convShort 2 with
  | some q => some q
  | none => s.haulShort s.rd.rt

/-- Number of the next frame of the readout: in a RUNNING gang its counter (R417, R688). -/
def State.nextFrame (s : State) : Nat :=
  if s.gang.state = 3 then (s.rd.nextS0.map (·.2.2)).getD s.gang.counter else s.rd.frameNumber

/-- First frame a stream at decimation D sends (R581). -/
def firstMultiple (d n : Nat) : Nat := ceilDiv n d * d % 2 ^ 32

/-- LINK demand per link in kB/s and FORMATTER demand in kpixel/s of a counted stream (R569, R603). -/
def demandResult (i : Nat) (c : Counted) : List Byte :=
  let sh := c.stream.share c.rows c.period
  let px := c.stream.pixelRate c.rows c.period
  [BitVec.ofNat 8 i, 0#8, 0#8, 0#8] ++ le 4 (roundDiv sh.1 (sh.2 * 1000)) ++ le 4 (roundDiv px.1 (px.2 * 1000))

/-- A column window that R416 and R604 do not accept, by the offset of its start. -/
def columnsBad (off start count : Nat) : List (Nat × Bool) :=
  [(off, start % 8 ≠ 0 || 1280 < start), (off + 2, count % 8 ≠ 0 || 1280 < start + count)]

/-- A route that names no link, or one that the module does not have (R490, R604). -/
def routeBad (route : Nat) : Bool := route = 0 || 15 < route

/-! ## STREAM_OPEN (R603, R604) -/

/-- R604. -/
def openGate (p : StreamOpenP) (s : State) : Gate where
  params := [waitBad p.wait, (2, 15 < p.stream && p.stream ≠ 0xFF), (3, 3 < p.pixfmt), (4, routeBad p.route)]
    ++ columnsBad 6 p.colStart p.colCount
  tier := 3
  owner := none
  state := stateIf (p.stream ≤ 15 && (s.stream p.stream).opened)

/-- The stream that STREAM_OPEN asks for: open and halted, QMASK 0xF (R603, R609). -/
def openedStream (h : Hdr) (cls seq : Nat) (p : StreamOpenP) : Stream :=
  { Stream.reset with
    opened := true
    owner := h.session
    cls := cls
    pixfmt := p.pixfmt
    route := p.route
    colStart := p.colStart
    colCount := p.colCount
    admitSeq := seq }

/-- STREAM_COUNT: 16 open streams, 2 per session (R569). -/
def State.countShort (s : State) (session : Nat) : Option Shortage :=
  if (s.streams.filter (·.opened)).length = 16 then some { resource := 6, detail := 0, need := 1, avail := 0 }
  else if 2 ≤ (s.streams.filter (fun x => x.opened && x.owner = session)).length then
    some { resource := 6, detail := 1, need := 1, avail := 0 }
  else none

/-- Admission of the new stream beside the open ones (R574), the count of streams after links and formatters (R569). -/
def openBody (h : Hdr) (p : StreamOpenP) (s : State) : State :=
  let cls := s.sess.effClass h
  let x := openedStream h cls (s.lastAdmit + 1) p
  let present := s.counted s.streams s.rd.count s.rd.cfgPeriod
  let l := present ++ s.counted [x] s.rd.count s.rd.cfgPeriod
  match admitStream s.cxp l present.length cls with
  | .error q => s.refuseCapacity h 0x10 q
  | .ok t =>
    match s.countShort h.session with
    | some q => s.refuseCapacity h 0x10 q
    | none =>
      let i := if p.stream = 0xFF then ((List.range 16).find? (fun n => !(s.stream n).opened)).getD 0 else p.stream
      let s1 := (s.setStreams t).onStream i (fun _ => x)
      (if i = 0 then s1.mirrorOpen else s1).answer h 0x10 stOk
        (demandResult i { stream := x, rows := s.rd.count, period := s.countedPeriod cls s.rd.cfgPeriod })

/-- STREAM_OPEN (R603, R604). -/
def execStreamOpen (h : Hdr) (p : StreamOpenP) (s : State) : Out :=
  live s (serve h 0x10 (.streamOpen h p) (openGate p) (openBody h p))

/-! ## STREAM_CLOSE, STREAM_HALT (R552, R553, R603 to R605) -/

/-- A stream that must be open, of the session or the Steward (R567). -/
def streamGate (h : Hdr) (off i : Nat) (s : State) : Gate where
  params := [(off, 15 < i)]
  tier := 3
  owner := s.streamOwner h i
  state := stateIf (!(s.stream i).opened)

/-- The stream closes at once, or at the end of its frame in transfer with the reply after the close (R603). -/
def closeBody (h : Hdr) (i : Nat) (s : State) : State :=
  let s1 := (s.haltAtEnd i true).settle
  if (s.stream i).inFrame then s1.park h 0x11 (.frameEnd i) else s1.reevaluate.answer h 0x11 stOk []

/-- STREAM_CLOSE (R603, R605). -/
def execStreamClose (h : Hdr) (stream : Nat) (s : State) : Out :=
  live s (serve h 0x11 (.streamClose h stream) (streamGate h 0 stream) (closeBody h stream))

/-- STREAM_HALT names one stream, or 0xFF for all that the session owns, all for the Steward (R603). -/
def haltGate (h : Hdr) (i : Nat) (s : State) : Gate :=
  if i = 0xFF then Gate.plain 3 else streamGate h 0 i s

/-- The streams that a STREAM_HALT names. -/
def State.haltTargets (s : State) (h : Hdr) (i : Nat) : List Nat :=
  if i = 0xFF then s.runningStreams.filter (fun n => h.session = 0 || (s.stream n).owner = h.session)
  else if (s.stream i).running then [i] else []

/-- URGENT truncates the frame in transfer at once; otherwise the reply follows the end of the frame (R552, R553). -/
def haltBody (h : Hdr) (i : Nat) (s : State) : State :=
  let l := s.haltTargets h i
  if h.urgent then (((l.foldl (fun t n => t.truncate stFailAborted n) s).settle).convFrameEnd).answer h 0x13 stOk []
  else
    let s1 := (l.foldl (fun t n => t.haltAtEnd n false) s).settle
    match (l.filter (fun n => (s.stream n).inFrame)).getLast? with
    | some n => s1.park h 0x13 (.frameEnd n)
    | none => s1.answer h 0x13 stOk []

/-- STREAM_HALT (R552, R553, R603). -/
def execStreamHalt (h : Hdr) (stream : Nat) (s : State) : Out :=
  live s (serve h 0x13 (.streamHalt h stream) (haltGate h stream) (haltBody h stream))

/-! ## STREAM_START (R571, R605 to R607) -/

/-- R325, R363, R605, R828. -/
def startGate (h : Hdr) (wait i : Nat) (s : State) : Gate where
  params := [waitBad wait, (2, 15 < i)]
  tier := 3
  owner := s.streamOwner h i
  state := orStatus (stateIf (!(s.stream i).opened || (s.stream i).running || s.adcBusy || s.noSensor)) s.thermalGate

/-- The stream runs; a disarmed readout is armed, and the module is in Run (R36, R606). -/
def State.startStream (i : Nat) (s : State) : State :=
  let s1 := s.onStream i (fun x => { x with running := true })
  (if s.rd.isArmed then s1 else s1.rdArm .streamStart).enter .run

/-- The stream is evaluated again against the configuration in force (R571), then starts. -/
def startBody (h : Hdr) (i : Nat) (s : State) : State :=
  let l := s.counted s.streams s.rd.count s.rd.cfgPeriod
  match admitStream s.cxp l i (s.stream i).cls with
  | .error q => s.refuseCapacity h 0x12 q
  | .ok t =>
    match s.startShort with
    | some q => s.refuseCapacity h 0x12 q
    | none =>
      let s1 := (s.setStreams t).startStream i
      s1.answer h 0x12 stOk (le 4 (firstMultiple (s1.stream i).decim s1.nextFrame))

/-- STREAM_START (R603, R606, R607). -/
def execStreamStart (h : Hdr) (wait stream : Nat) (s : State) : Out :=
  live s (serve h 0x12 (.streamStart h wait stream) (startGate h wait stream) (startBody h stream))

/-! ## STREAM_MODIFY (R603 to R605) -/

/-- R604, R605; fields that are not present are not looked at. -/
def modifyGate (h : Hdr) (p : StreamModifyP) (s : State) : Gate where
  params := [waitBad p.wait, (2, 15 < p.stream), (3, 7 < p.present), (4, p.present.testBit 0 && 3 < p.pixfmt),
      (5, p.present.testBit 1 && routeBad p.route)]
    ++ (if p.present.testBit 2 then columnsBad 6 p.colStart p.colCount else [])
  tier := 3
  owner := s.streamOwner h p.stream
  state := stateIf (!(s.stream p.stream).opened || (s.stream p.stream).running)

/-- A stream with the present fields replaced. -/
def Stream.modified (p : StreamModifyP) (x : Stream) : Stream :=
  { x with
    pixfmt := if p.present.testBit 0 then p.pixfmt else x.pixfmt
    route := if p.present.testBit 1 then p.route else x.route
    colStart := if p.present.testBit 2 then p.colStart else x.colStart
    colCount := if p.present.testBit 2 then p.colCount else x.colCount }

/-- The modified stream is admitted as a new one would be (R570); deferred requests are evaluated again (R577). -/
def modifyBody (h : Hdr) (p : StreamModifyP) (s : State) : State :=
  let l := s.counted (s.streams.modify p.stream (Stream.modified p)) s.rd.count s.rd.cfgPeriod
  match admitStream s.cxp l p.stream (s.stream p.stream).cls with
  | .error q => s.refuseCapacity h 0x14 q
  | .ok t =>
    let s1 := s.setStreams t
    let x := s1.stream p.stream
    (s1.answer h 0x14 stOk (demandResult p.stream
      { stream := x, rows := s.rd.count, period := s.countedPeriod x.cls s.rd.cfgPeriod })).reevaluate

/-- STREAM_MODIFY (R603 to R605). -/
def execStreamModify (h : Hdr) (p : StreamModifyP) (s : State) : Out :=
  live s (serve h 0x14 (.streamModify h p) (modifyGate h p) (modifyBody h p))

/-! ## READOUT_CONFIG (R289 to R306, R334) -/

/-- A readout configuration. -/
structure RdCfg where
  rt : Nat
  int : Nat
  start : Nat
  count : Nat
  period : Nat
  gain : Nat
  deriving DecidableEq, Repr

/-- The configuration in force. -/
def Rd.cfg (r : Rd) : RdCfg :=
  { rt := r.rt, int := r.cfgInt, start := r.start, count := r.count, period := r.cfgPeriod, gain := r.gain }

/-- The configuration a READOUT_CONFIG asks for. -/
def configTarget (p : ReadoutP) (c : RdCfg) : RdCfg :=
  { rt := if p.present.testBit 0 then p.rt else c.rt
    int := if p.present.testBit 1 then p.int else c.int
    start := if p.present.testBit 2 then p.start else c.start
    count := if p.present.testBit 2 then p.count else c.count
    period := if p.present.testBit 3 then p.period else c.period
    gain := if p.present.testBit 4 then p.gain else c.gain }

/-- A value outside its range or off its step. -/
def offGrid (lo hi step v : Nat) : Bool := v < lo || hi < v || v % step ≠ 0

/-- Minimum frame period of a configuration (R19, R299). -/
def RdCfg.minPeriod (c : RdCfg) : Nat := (c.count + 25) * c.rt

/-- Offset of the first present field of a list, for an error that lies in their combination. -/
def firstPresent (p : Nat) (l : List (Nat × Nat)) : Nat := ((l.find? (fun x => p.testBit x.1)).map (·.2)).getD 2

/-- What is wrong with a configuration (R289, R290, R293, R299, R303, R339). -/
def configBad (p : ReadoutP) (c : RdCfg) : List (Nat × Bool) :=
  [ (2, 31 < p.present)
  , (3, p.present.testBit 4 && 2 < p.gain)
  , (4, p.present.testBit 0 && offGrid 200 6400 10 p.rt)
  , (6, p.present.testBit 1 && offGrid 200 6000 10 p.int)
  , (8, p.present.testBit 2 && offGrid 0 992 8 p.start)
  , (10, p.present.testBit 2 && (offGrid 32 1024 8 p.count || 1024 < p.start + p.count))
  , (firstPresent p.present [(1, 6), (0, 4)], 16 * c.rt < c.int)
  , (firstPresent p.present [(3, 12), (0, 4), (2, 10)], c.period < c.minPeriod) ]

/-- What forbids a change of the readout (R24, R292, R305, R325, R363, R452). -/
def State.configRefused (s : State) (c : RdCfg) : Bool :=
  let o := s.rd.cfg
  s.adcBusy || s.noSensor || (2 ≤ s.gang.state && o ≠ c)
    || (s.rd.isArmed && (o.rt ≠ c.rt || o.start ≠ c.start || o.count ≠ c.count || o.gain ≠ c.gain))
    || (s.cal.cal.isSome && (o.int ≠ c.int || o.period ≠ c.period))

/-- The gate of READOUT_CONFIG. -/
def configGate (h : Hdr) (p : ReadoutP) (s : State) : Gate where
  params := waitBad p.wait :: configBad p (configTarget p s.rd.cfg)
  tier := 2
  owner := s.sess.claimedBy h.session [0x14]
  state := stateIf (s.configRefused (configTarget p s.rd.cfg))

/-- INT and P take effect at once while the readout is disarmed, at a frame-start slot otherwise (R304). -/
def Rd.configure (c : RdCfg) (r : Rd) : Rd :=
  { r with
    rt := c.rt
    start := c.start
    count := c.count
    gain := c.gain
    int := if r.isArmed then r.int else c.int
    period := if r.isArmed then r.period else c.period
    pendInt := if r.isArmed then some c.int else none
    pendPeriod := if r.isArmed then some c.period else none }

/-- Admission of a configuration (R374, R572). -/
def State.admitConfig (s : State) (c : RdCfg) : Except Shortage (List Counted) :=
  match admitReadout s c.count c.period (evalOrder s.streams) (s.counted s.streams s.rd.count s.rd.cfgPeriod) with
  | .error q => .error q
  | .ok t =>
    match s.haulShort c.rt with
    | some q => .error q
    | none => .ok t

/-- The configuration takes effect; an armed readout applies it at the next frame-start slot (R304, R354). -/
def State.configure (c : RdCfg) (l : List Counted) (s : State) : State :=
  ((s.setStreams l).onRd (Rd.configure c)).onHaul (fun h => if s.rd.isArmed then h.downSend .apply else h)

/-- READOUT_CONFIG's own effect: the reply names the minimum frame period. -/
def configBody (h : Hdr) (p : ReadoutP) (s : State) : State :=
  let c := configTarget p s.rd.cfg
  match s.admitConfig c with
  | .error q => s.refuseCapacity h 0x15 q
  | .ok l => (s.configure c l).answer h 0x15 stOk (le 4 c.minPeriod)

/-- READOUT_CONFIG (R603). -/
def execReadoutConfig (h : Hdr) (p : ReadoutP) (s : State) : Out :=
  live s (serve h 0x15 (.readoutConfig h p) (configGate h p) (configBody h p))

/-! ## READOUT_ARM (R325, R374, R606, R610) -/

/-- WAIT of a disarm is ignored (R610); an ADC_CAL refuses a disarm too (R325). -/
def armGate (h : Hdr) (wait arm : Nat) (s : State) : Gate where
  params := [(0, arm = 1 && 60000 < wait), (2, 1 < arm)]
  tier := 2
  owner := s.sess.claimedBy h.session [0x14]
  state := if arm = 0 then stateIf s.adcBusy else orStatus (stateIf (s.adcBusy || s.noSensor)) s.thermalGate

/-- Arms in the source of TRIG_CONFIG; a disarm halts running streams at frame end (R603). A readout that is armed already stays
armed until READOUT_ARM disarms it. -/
def armBody (h : Hdr) (arm : Nat) (s : State) : State :=
  if arm = 0 then s.haltAllAtEnd.answer h 0x16 stOk []
  else
    match s.startShort with
    | some q => s.refuseCapacity h 0x16 q
    | none =>
      ((if s.rd.isArmed then s.onRd (fun r => { r with armedBy := .readoutArm, disarmDue := false })
        else s.rdArm .readoutArm).enter .run).answer h 0x16 stOk []

/-- READOUT_ARM (R603, R606). -/
def execReadoutArm (h : Hdr) (wait arm : Nat) (s : State) : Out :=
  live s (serve h 0x16 (.readoutArm h wait arm) (armGate h wait arm) (armBody h arm))

/-! ## FRAME_SNAP (R608) -/

/-- Only the owner snaps; the readout is armed and the stream halted (R325, R608, R828). -/
def snapGate (h : Hdr) (i count : Nat) (s : State) : Gate where
  params := [(0, 15 < i), (2, count = 0)]
  tier := 3
  owner := if (s.stream i).opened && (s.stream i).owner ≠ h.session then some ((s.stream i).owner, 0) else none
  state := orStatus (stateIf (!(s.stream i).opened || (s.stream i).running || !s.rd.isArmed || s.adcBusy || s.noSensor)) s.thermalGate

/-- The stream runs until COUNT frames are sent (R608); with the converter at level 3 no frame can come (R243). -/
def snapBody (h : Hdr) (i count : Nat) (s : State) : State :=
  match s.convShort 2 with
  | some q => s.refuseCapacity h 0x17 q
  | none => (s.onStream i (fun x => { x with running := true, snap := some (h.session, h.tag, count, 0, 0) })).accept h 0x17

/-- FRAME_SNAP (R603, R608). -/
def execFrameSnap (h : Hdr) (stream count : Nat) (s : State) : Out :=
  live s (serve h 0x17 (.frameSnap h stream count) (snapGate h stream count) (snapBody h stream count))

/-! ## PIPE_CONFIG, RADIOMETRY_SET, QUALITY_CONFIG (R396, R408, R409, R413, R603, R609) -/

/-- SHARP to 0x100, five bypass bits. -/
def pipeGate (h : Hdr) (wait sharp bypass : Nat) (s : State) : Gate where
  params := [waitBad wait, (2, 0x100 < sharp), (4, 31 < bypass)]
  tier := 2
  owner := s.sess.claimedBy h.session [0x14]
  state := none

/-- Stored, and applied at the next frame-start slot; a converter level refuses a sharpness above 0 (R243, R409). -/
def pipeBody (h : Hdr) (sharp bypass : Nat) (s : State) : State :=
  match (if 0 < sharp then s.convShort 0 else none) with
  | some q => s.refuseCapacity h 0x18 q
  | none => (s.onPipe (fun p => { p with sharp := sharp, bypass := bypass })).answer h 0x18 stOk []

/-- PIPE_CONFIG (R603). -/
def execPipeConfig (h : Hdr) (wait sharp bypass : Nat) (s : State) : Out :=
  live s (serve h 0x18 (.pipeConfig h wait sharp bypass) (pipeGate h wait sharp bypass) (pipeBody h sharp bypass))

/-- ε from 100 to 1,000. -/
def radiometryGate (h : Hdr) (eps : Nat) (s : State) : Gate where
  params := [(0, eps < 100 || 1000 < eps)]
  tier := 2
  owner := s.sess.claimedBy h.session [0x14]
  state := none

/-- ε and T_REFL for the frames that follow (R413). -/
def radiometryBody (h : Hdr) (eps tRefl : Nat) (s : State) : State :=
  (s.onPipe (fun p => { p with eps := eps, tRefl := tRefl })).answer h 0x19 stOk []

/-- RADIOMETRY_SET (R603). -/
def execRadiometrySet (h : Hdr) (eps tRefl : Nat) (s : State) : Out :=
  live s (serve h 0x19 (.radiometrySet h eps tRefl) (radiometryGate h eps) (radiometryBody h eps tRefl))

/-- Four QMASK bits. -/
def qualityGate (qmask : Nat) (_ : State) : Gate where
  params := [(0, 15 < qmask)]
  tier := 3
  owner := none
  state := none

/-- A QUAL4 stream of a session. -/
def Stream.qual4Of (session : Nat) (x : Stream) : Bool := x.opened && x.owner = session && x.pixfmt = 3

/-- The previous QMASK: that of the session's QUAL4 streams when they agree; where there is none, or they differ, the spec names
no value, so it is a free value (log entry 2). -/
def State.previousQmask (s : State) (session : Nat) : Nat :=
  match s.streams.filter (Stream.qual4Of session) with
  | [] => (Config.freeValue s.freeCtr).toNat % 16
  | x :: xs => if xs.all (fun y => y.qmask = x.qmask) then x.qmask else (Config.freeValue s.freeCtr).toNat % 16

/-- Every QUAL4 stream that the session owns, from the next frame on (R609). -/
def qualityBody (h : Hdr) (qmask : Nat) (s : State) : State :=
  ({ s.onStreams (fun l => l.map (fun x : Stream => if x.qual4Of h.session then { x with qmask := qmask } else x)) with
     freeCtr := s.freeCtr + 1 }).answer h 0x1A stOk ([BitVec.ofNat 8 (s.previousQmask h.session)] ++ [0#8, 0#8, 0#8])

/-- QUALITY_CONFIG (R609). -/
def execQualityConfig (h : Hdr) (qmask : Nat) (s : State) : Out :=
  live s (serve h 0x1A (.qualityConfig h qmask) (qualityGate qmask) (qualityBody h qmask))

end Sys2Proof.Machine
end

