-- ==== Sys2Proof/Machine/ActCmds.lean ====
section
/-!
DEFINITION. Opcodes 0x30 to 0x36: actuators and shutter (spec/12_command_catalogue.md R615 to R620, spec/14_actuator_drive.md).
-/

namespace Sys2Proof.Machine

open Sys2Proof

/-- Index of a channel code, 9 when it names none. -/
def chanOf (code : Nat) : Nat := (chanIndex code).getD 9

/-- Claim that gates commands naming a bank (R565). -/
def State.bankClaim (s : State) (h : Hdr) (bank : Nat) : Option (Nat × Nat) :=
  if bank = 0 then s.sess.claimedBy h.session [0x10] else if bank = 1 then s.sess.claimedBy h.session [0x11] else none

/-! ## ACT_CONFIG (R616, R707) -/

/-- The fields of a configuration outside R707, by offset. -/
def actCfgBad (shutter : Bool) (c : ActCfg) : List (Nat × Bool) :=
  let out := fun (lo hi v : Nat) => decide (v < lo) || decide (hi < v)
  [ (1, if shutter then out 1 2 c.mode else out 0 2 c.mode)
  , (2, !shutter && decide (1 < c.retrigger))
  , (4, if shutter then out 100 1500 c.iPeak else out 500 10000 c.iPeak)
  , (6, (if shutter then out 100 500 c.iHold else out 500 4000 c.iHold) || decide (2 * c.iPeak < 2 * c.iHold + c.band))
  , (8, if shutter then out 20 200 c.band else out 50 1000 c.band)
  , (10, decide (c.maxPeak ≤ c.minPeak))
  , (14, !((c.dipStart = 0 && c.dipEnd = 0) || (c.dipStart < c.dipEnd && c.dipEnd ≤ c.minPeak)))
  , (20, out 1 1000 c.dutyLimit)
  , (22, out 10 10000 c.dutyWindow)
  , (24, if shutter then out 10 2000000 c.defHold else out 10 60000000 c.defHold) ]

/-- A profile or program of the channel runs or is scheduled (R616). -/
def State.chanBusy (s : State) (i : Nat) : Bool :=
  (s.chan i).phase ≠ .off || (s.chan i).waiting.isSome || s.act.schedules.any (fun x => x.ch = i)
    || ((s.chan i).cfg.mode = 2 && (s.act.chisel (bankOf i)).run) || (i = 8 && s.act.move.isSome)

/-- The gate of ACT_CONFIG. -/
def actConfigGate (h : Hdr) (code : Nat) (c : ActCfg) (s : State) : Gate where
  params := (0, (chanIndex code).isNone) :: actCfgBad (code = 0x20) c
  tier := 2
  owner := s.bankClaim h (bankOf (chanOf code))
  state := stateIf (s.chanBusy (chanOf code))

/-- The channel takes its configuration. -/
def actConfigBody (h : Hdr) (code : Nat) (c : ActCfg) (s : State) : State :=
  (s.onChan (chanOf code) (fun x => { x with cfg := c })).answer h 0x30 stOk []

/-- ACT_CONFIG (R615, R707). -/
def execActConfig (h : Hdr) (ch : Nat) (c : ActCfg) (s : State) : Out :=
  live s (serve h 0x30 (.actConfig h ch c) (actConfigGate h ch c) (actConfigBody h ch c))

/-! ## ACT_PROGRAM_LOAD (R616, R750) -/

/-- Channels of a sequencer's bank. -/
def seqChans (q : Nat) : List Nat := if q < 2 then bankChans q else [8]

/-- The gate of ACT_PROGRAM_LOAD. -/
def programGate (h : Hdr) (q first : Nat) (words : List Nat) (s : State) : Gate where
  params := [(0, decide (2 < q)), (2, decide (511 < first)), (4, words.isEmpty || decide (254 < words.length) || decide (512 < first + words.length))]
  tier := 2
  owner := s.bankClaim h q
  state := stateIf ((seqChans q).any s.chanBusy || (s.act.chisel q).run)

/-- A list with a run replaced. -/
def putRun (l : List Nat) (first : Nat) (run : List Nat) : List Nat :=
  l.mapIdx (fun i w => if first ≤ i && i < first + run.length then run.getD (i - first) 0 else w)

/-- CRC-32 over the whole program (R615). -/
def programCrc (l : List Nat) : Nat := (crc32 ((l.map (le 4)).flatten)).toNat

/-- The words are written whatever they hold (R750). -/
def programBody (h : Hdr) (q first : Nat) (words : List Nat) (s : State) : State :=
  let l := putRun (s.act.chisel q).words first words
  (s.onChisel q (fun c => { c with words := l, loaded := true })).answer h 0x31 stOk (le 4 (programCrc l))

/-- ACT_PROGRAM_LOAD (R615, R750). -/
def execActProgramLoad (h : Hdr) (target first : Nat) (words : List Nat) (s : State) : Out :=
  live s (serve h 0x31 (.actProgramLoad h target first words) (programGate h target first words) (programBody h target first words))

/-! ## ACT_FIRE (R616, R617, R712 to R721, R742, R759) -/

/-- A fire names a bank channel, kind 0 or 1, and an entry word of the program (R742, R759). -/
def fireParams (code kind hold offCh offKind offHold : Nat) : List (Nat × Bool) :=
  [(offCh, 7 < chanOf code), (offKind, 1 < kind), (offHold, kind = 1 && 511 < hold)]

/-- A fire's kind is the channel's mode (R742). -/
def Chan.kindWrong (c : Chan) (kind : Nat) : Bool := c.cfg.mode ≠ kind + 1

/-- What refuses a fire with REFUSED_STATE: the channel, its supply, its duty, a program that runs, a fire that waits (R616, R716,
R727, R731, R742). -/
def State.fireRefused (s : State) (i kind : Nat) : Bool :=
  s.fireBar i s.tb.now || (s.chan i).kindWrong kind
    || (if kind = 1 then (s.act.chisel (bankOf i)).run else (s.chan i).waiting.isSome && !(s.chan i).extends)

/-- The gate of ACT_FIRE; WAIT is ignored (R617). -/
def fireGate (h : Hdr) (code kind hold : Nat) (s : State) : Gate where
  params := fireParams code kind hold 2 3 4
  tier := 2
  owner := s.bankClaim h (bankOf (chanOf code))
  state := stateIf (s.fireRefused (chanOf code) kind)

/-- Two free words as the 64-bit value that the spec leaves open. -/
def freeTick (ctr : Nat) : Nat := (Config.freeValue ctr).toNat * 2 ^ 32 + (Config.freeValue (ctr + 1)).toNat

/-- EXTEND is answered with the running profile's switch-on (R718); a program starts at once, and the spec names no switch-on
instant of its own, so that reply carries a free value (log entry 2); another fire is answered when its slot is granted (R617). -/
def fireBody (h : Hdr) (code kind hold : Nat) (s : State) : State :=
  let i := chanOf code
  let s1 := s.fire i kind hold s.tb.now (.command h.session h.tag)
  if kind = 1 then ({ s1 with freeCtr := s1.freeCtr + 2 }).answer h 0x32 stOk (le 8 (freeTick s.freeCtr))
  else if (s.chan i).extends then s1.answer h 0x32 stOk (le 8 (s.chan i).onAt)
  else s1.park h 0x32 (.slot i)

/-- ACT_FIRE (R615, R617). -/
def execActFire (h : Hdr) (wait ch kind hold : Nat) (s : State) : Out :=
  live s (serve h 0x32 (.actFire h wait ch kind hold) (fireGate h ch kind hold) (fireBody h ch kind hold))

/-! ## ACT_SCHEDULE (R618, R735 to R737) -/

/-- First non-zero byte of a number, counted from an offset. -/
def firstByte (off v : Nat) : Nat := off + ((List.range 8).find? (fun k => v / 256 ^ k % 256 ≠ 0)).getD 0

/-- What is wrong with a reference value (R615, R663, R737). -/
def refBad (p : ScheduleP) (s : State) : List (Nat × Bool) :=
  match p.ref with
  | 0 => [(8, p.value + p.offset < s.tb.now + 2000)]
  | 1 => [(firstByte 8 p.value, p.value ≠ 0)]
  | 2 => [(firstByte 12 (p.value / 2 ^ 32), p.value / 2 ^ 32 ≠ 0), (8, s.rd.isArmed && p.value % 2 ^ 32 < s.nextFrame)]
  | _ => [(8, 63 < p.value % 256), (firstByte 9 (p.value / 256), p.value / 256 ≠ 0)]

/-- The gate of ACT_SCHEDULE; the duty is judged at the fire's own instant (R727, R736). -/
def scheduleGate (h : Hdr) (p : ScheduleP) (s : State) : Gate where
  params := fireParams p.ch p.kind p.hold 2 3 20 ++ [(4, decide (3 < p.ref)), (16, p.ref ≠ 0 && p.offset < 200)] ++ refBad p s
  tier := 2
  owner := s.bankClaim h (bankOf (chanOf p.ch))
  state := stateIf (s.chanBar (chanOf p.ch) || (s.chan (chanOf p.ch)).kindWrong p.kind || s.act.freeHandle.isNone
    || 16 ≤ (s.act.schedules.filter (fun x => bankOf x.ch = bankOf (chanOf p.ch))).length)

/-- The fire takes the lowest free handle; a TB reference fixes its instant at once (R735, R736). -/
def scheduleBody (h : Hdr) (p : ScheduleP) (s : State) : State :=
  let handle := s.act.freeHandle.getD 0
  let x : Schedule :=
    { handle := handle, session := h.session, ch := chanOf p.ch, kind := p.kind, ref := p.ref, value := p.value % 2 ^ 64,
      offset := p.offset, hold := p.hold, fireAt := if p.ref = 0 then some (p.value + p.offset) else none }
  (s.onAct (fun a => { a with schedules := a.schedules ++ [x] })).answer h 0x33 stOk [BitVec.ofNat 8 handle, 0#8, 0#8, 0#8]

/-- ACT_SCHEDULE (R615, R735 to R737). -/
def execActSchedule (h : Hdr) (p : ScheduleP) (s : State) : Out :=
  live s (serve h 0x33 (.actSchedule h p) (scheduleGate h p) (scheduleBody h p))

/-! ## ACT_ABORT (R552, R619, R741) -/

/-- Unused bits of the channel bytes are zero. -/
def abortGate (a b flags : Nat) (_ : State) : Gate where
  params := [(0, 15 < a), (1, 15 < b), (2, 3 < flags)]
  tier := 2
  owner := none
  state := none

/-- The channels that an ACT_ABORT names. -/
def abortChans (a b flags : Nat) : List Nat :=
  (List.range 4).filter (fun n => a.testBit n) ++ ((List.range 4).filter (fun n => b.testBit n)).map (· + 4)
    ++ (if flags.testBit 0 then [8] else [])

/-- One named channel goes to turn-off: a program that drives it ends, its waiting fire ends (R741). -/
def State.abortChan (s : State) (i : Nat) : State :=
  let s1 := if (s.act.chisel (bankOf i)).drove.contains i || (i = 8 && (s.act.chisel 2).run) then s.onAct (Act.endProgram (bankOf i)) else s
  ((s1.dropWaiting i stFailAborted []).onChan i Chan.turnOff).onAct (Act.releaseSlot i)

/-- A move of the shutter that ACT_ABORT meets: under way it ends unconfirmed, its position unknown (R754, R757); one that waits
for VSHR is dropped with FAIL_ABORTED as a waiting fire is, its position kept. -/
def State.abortMove (s : State) : State :=
  match s.act.move with
  | none => s
  | some m =>
    if s.act.moving then s.shutterEnds false true
    else
      match m.asker with
      | .command session tag =>
        ((s.onAct (fun a => { a with move := none, vshrWait := false })).complete0 session tag 0x36 stFailAborted [0#8]).reevaluate
      | .orphan => s.shutterEnds false false
      | .calibration => s.shutterEnds false false
      | .parking => s.shutterEnds false false

/-- The channels named go off, and the scheduled fires on them end when bit 1 asks for it (R741). -/
def State.abort (a b flags : Nat) (s : State) : State :=
  let l := abortChans a b flags
  let s1 := l.foldl State.abortChan s
  let s2 := if flags.testBit 0 then s1.abortMove else s1
  if flags.testBit 1 then s2.endSchedules (fun x => l.contains x.ch) stFailAborted else s2

/-- ACT_ABORT at its effect instant (R741). -/
def abortBody (h : Hdr) (a b flags : Nat) (s : State) : State := (s.abort a b flags).answer h 0x34 stOk []

/-- ACT_ABORT (R552, R741). -/
def execActAbort (h : Hdr) (a b flags : Nat) (s : State) : Out :=
  live s (serve h 0x34 (.actAbort h a b flags) (abortGate a b flags) (abortBody h a b flags))

/-! ## ACT_DIAG_GET (R615, R763) -/

/-- A channel code. -/
def diagGate (code : Nat) (_ : State) : Gate where
  params := [(0, (chanIndex code).isNone)]
  tier := 3
  owner := none
  state := none

/-- State and diagnostics of a channel. -/
def State.diagResult (s : State) (i : Nat) : List Byte :=
  let c := s.chan i
  le 1 (if i = 8 then s.act.position * 16 + s.act.shutCode else c.code) ++ le 1 c.lastFault ++ [0#8, 0#8]
    ++ le 2 c.lastPeak ++ le 2 c.lastTtp ++ le 2 c.lastDip ++ le 2 (c.duty s.tb.now) ++ le 4 c.fires ++ le 4 c.faults

/-- ACT_DIAG_GET (R615). -/
def execActDiagGet (h : Hdr) (ch : Nat) (s : State) : Out :=
  live s (serve h 0x35 (.actDiagGet h ch) (diagGate ch) (fun t => t.answer h 0x35 stOk (t.diagResult (chanOf ch))))

/-! ## SHUTTER_MOVE (R620, R752 to R758) -/

/-- Another session's inhibit forbids a closing move; a disabled channel moves nothing (R620, R758). -/
def moveGate (h : Hdr) (wait dir : Nat) (s : State) : Gate where
  params := [waitBad wait, (2, 1 < dir)]
  tier := 2
  owner := s.sess.claimedBy h.session [0x12]
  state := stateIf ((s.chan 8).disabled || (dir = 1 && s.cal.inhibitedFor h.session))

/-- SHUTTER_MOVE (R615, R620). -/
def execShutterMove (h : Hdr) (wait dir : Nat) (s : State) : Out :=
  live s (serve h 0x36 (.shutterMove h wait dir) (moveGate h wait dir)
    (fun t => t.admitExclusive h 0x36 wait (.shutterMove h wait dir) (needsOf 0x36) (State.startCmd (.shutterMove h wait dir))))

end Sys2Proof.Machine
end

