-- ==== Sys2Proof/Machine/Sense.lean ====
section
/-!
DEFINITION. What the P die makes of the converter samples of the actuators: the reference test, motion detection and the fault tests
(spec/14_actuator_drive.md R706, R722, R729, R730). The rows of the table report what these tests find.
-/

namespace Sys2Proof.Machine

open Sys2Proof

/-- A current as the converter of its channel reports it: 0 A to 12.5 A for a coil, up to 2.0 A in either direction for the bridge (R8,
R706). -/
def measuredCoil (i mA : Nat) : Nat := min mA (if i = 8 then 2000 else 12500)

/-- A bank's high-side current as its converter reports it (R8, R706). -/
def measuredHs (mA : Nat) : Nat := min mA 16000

/-- The high-side reading changes by 100 mA ± 20 mA under the reference current (R730). -/
def refTestOk (delta : Nat) : Bool := 80 ≤ delta && delta ≤ 120

/-- A converter sample: its tick, whether the low-side switch is on, the current. -/
structure CoilSample where
  tick : Nat
  on   : Bool
  mA   : Nat
  deriving DecidableEq, Repr

/-- Motion detection so far: the running maximum, then the lowest value of a fall with its sample. -/
structure DipScan where
  top    : Nat
  lowest : Option (Nat × Nat)
  deriving DecidableEq, Repr

/-- A fall or a rise of at least D = the larger of 2 % of I_PEAK and 40 mA (R722). -/
def dipMoved (iPeak fromMa toMa : Nat) : Bool := max iPeak 2000 ≤ 50 * (toMa - fromMa)

/-- The next sample of motion detection: the dip time and the confirmation instant once motion is confirmed (R722). -/
def DipScan.next (iPeak : Nat) (d : DipScan) (x : CoilSample) : DipScan × Option (Nat × Nat) :=
  match d.lowest with
  | none =>
    if x.on && dipMoved iPeak x.mA d.top then ({ d with lowest := some (x.mA, x.tick) }, none)
    else ({ d with top := max d.top x.mA }, none)
  | some (low, at_) =>
    if dipMoved iPeak low x.mA then (d, some (at_, x.tick))
    else if x.mA < low then ({ d with lowest := some (x.mA, x.tick) }, none)
    else (d, none)

/-- Motion detection over the samples of a dip window: the dip time and the confirmation instant (R722). -/
def confirmMotion (iPeak : Nat) : DipScan → List CoilSample → Option (Nat × Nat)
  | _, [] => none
  | d, x :: l =>
    match d.next iPeak x with
    | (_, some r) => some r
    | (e, none) => confirmMotion iPeak e l

/-- 256 consecutive converter readings change by at most 2 LSB (R729); the test counts where a switch state changed in them. -/
def stuckReading (l : List Nat) (switched : Bool) : Bool :=
  switched && 256 ≤ l.length && l.foldl max 0 - l.foldl min 4095 ≤ 2

/-- A channel reading differs from the high-side reading by more than 0.3 A + 10 % of the larger (R729). -/
def disagrees (ch hs : Nat) : Bool := 3000 + max ch hs < 10 * (max ch hs - min ch hs)

/-- SENSE_FAIL by disagreement: 64 consecutive samples of the only channel that is on (R729). -/
def senseDisagrees (l : List (Nat × Nat)) : Bool := 64 ≤ l.length && l.all (fun p => disagrees p.1 p.2)

/-- SHORT: more than the smaller of 1.25 × I_PEAK and 12.5 A, or 2.0 A for the shutter (R729). -/
def shortCurrent (i iPeak mA : Nat) : Bool := if i = 8 then 2000 < mA else 5 * iPeak < 4 * mA || 12500 < mA

/-- BANK_OVERCURRENT: more than 13.0 A for 2 µs, eight samples at 4 MS/s (R706, R729). -/
def bankOvercurrent (l : List Nat) : Bool := 8 ≤ l.length && l.all (fun x => 13000 < x)

end Sys2Proof.Machine
end

