-- ==== Sys2Proof/Machine/Actuators.lean ====
section
/-!
DEFINITION. The events of the actuators, the Chisel sequencers and the shutter (spec/14_actuator_drive.md), and the report that
puts them into a frame trailer (spec/08_correction_pipeline.md R419 to R421).
-/

namespace Sys2Proof.Machine

open Sys2Proof

/-! ## Shared operations -/

/-- Supply of a channel: its bank's, or VSHR for the shutter (R703, R751). -/
def State.supplyOf (s : State) (i : Nat) : Nat := if i = 8 then s.pwr.vshr else s.pwr.bankMv (bankOf i)

/-- A switched-off channel: turn-off, its slot released. -/
def State.chanOff (i : Nat) (s : State) : State := (s.onChan i Chan.turnOff).onAct (Act.releaseSlot i)

/-- A word is END (R744). -/
def isEnd (w : Nat) : Bool := w / 2 ^ 28 % 16 = 0xF && w / 2 ^ 26 % 4 = 0 && w % 2 ^ 24 = 0

/-- A shutter program that has ended ends its move: confirmed when it ended on END with DIP set (R753). -/
def State.programMove (s : State) : State :=
  let c := s.act.chisel 2
  if s.deadMove then s.shutterEnds (isEnd (c.words.getD c.pc 0) && c.dip) true else s

/-- A waiting program goes on at a tick, with the end of a shutter move that its end brings (R744, R753). -/
def State.programGoes (q t : Nat) (f : Chisel → Chisel) (s : State) : State := (s.chiselResume q t f).programMove

/-- A move on the bridge ends with its channel's switch-off (R752, R754). -/
def State.moveOver (i : Nat) (confirmed : Bool) (s : State) : State :=
  if i = 8 && s.act.moving then s.shutterEnds confirmed true else s

/-- After a shutter fault the position is unknown, and a move, on the bridge or waiting for VSHR, ends unconfirmed (R731, R754). -/
def State.shutterFault (i : Nat) (s : State) : State :=
  if i ≠ 8 then s
  else if s.act.move.isSome then s.shutterEnds false s.act.moving
  else s.onAct (fun a => { a with position := 0 })

/-- A program that drives a channel ends (R749). -/
def State.endDriver (i : Nat) (s : State) : State :=
  if (s.act.chisel (bankOf i)).drove.contains i then s.onAct (Act.endProgram (bankOf i)) else s

/-! ## The slot (R712 to R717, R730, R746) -/

/-- The head of the waiting fires may switch on: slot, ceiling, order, supply (R712 to R714, R80). -/
def State.mayGrant (s : State) (i : Nat) : Bool :=
  i < 8 && (s.chan i).waiting.isSome && s.act.slotFree i && s.act.ceilingMet i && !s.act.earlierWaits i
    && !s.chanDead i && 9000 ≤ s.supplyOf i

/-- The granted fire switches on (R709, R719, R746); a program's request clears TO and its program goes on. -/
def State.grant (i t : Nat) (f : Fire) (s : State) : State :=
  match f.src with
  | .program =>
    ((s.onChan i (Chan.programOn t)).onAct (Act.takeSlot i)).programGoes (bankOf i) t (fun c => { c with timedOut := false })
  | .command session tag =>
    ((s.onChan i (Chan.switchOn t f.hold)).onAct (Act.takeSlot i)).fireEnds i (.command session tag) stOk (le 8 t)
  | .schedule handle => ((s.onChan i (Chan.switchOn t f.hold)).onAct (Act.takeSlot i)).fireEnds i (.schedule handle) stOk []
  | .move => (s.onChan i (Chan.switchOn t f.hold)).onAct (Act.takeSlot i)

/-- A waiting fire is granted; `hsDelta` is the change of the high-side reading in mA under the reference current, and a test that fails
disables the bank (R730). -/
def execActSlotGrant (ch hsDelta tick : Nat) (s : State) : Out :=
  live s (fun t0 =>
    let t := t0.atTick tick
    match (t.chan ch).waiting with
    | some f => if t.mayGrant ch then (if refTestOk hsDelta then t.grant ch tick f else t.bankFault (bankOf ch) 0x04) else t
    | none => t)

/-- A waiting fire is refused when its maximum peak delay runs out (R715); a program sees TO (R746). -/
def State.slotTimeout (i : Nat) (s : State) : State :=
  match (s.chan i).waiting with
  | some f =>
    (match f.src with
     | .program => (s.onChan i (fun c => { c with waiting := none })).programGoes (bankOf i) s.tb.now (fun c => { c with timedOut := true })
     | .command _ _ => s.dropWaiting i stCapacity (slotRefusal (s.chan i) (bankOf i))
     | .schedule _ => s.dropWaiting i stCapacity []
     | .move => s)
  | none => s

/-- The maximum peak delay of a waiting fire has passed (R714, R715). -/
def execActPeakDelayExpiry (ch : Nat) (s : State) : Out := live s (State.slotTimeout ch)

/-! ## Phases (R709 to R711, R722 to R725) -/

/-- The window in which NO_MOTION can be raised is not 0 and ends before switch-on + H (R723). -/
def Chan.watched (c : Chan) : Bool := 0 < c.cfg.dipEnd && c.onAt + usTicks c.cfg.dipEnd < c.offAt

/-- A boost of a profile ends: NO_MOTION without confirmed motion (R723). -/
def State.boostOver (i : Nat) (s : State) : State :=
  if (s.chan i).phase = .boost && !(s.chan i).chisel && (s.chan i).watched && !(s.chan i).motion then
    s.actDiag (chanCode i) 0x02 0
  else s

/-- Boost gives way to decay; a program's ON regulates at I_PEAK instead (R709, R744). -/
def Chan.boostEnds (t : Nat) (c : Chan) : Chan :=
  if c.phase ≠ .boost then c
  else if c.chisel then c
  else { c with phase := .decay, pathOn := false, lastSwitch := t }

/-- The current has reached I_PEAK: PEAK_TIME when it is early, NO_MOTION, decay to hold (R709, R723, R724). -/
def State.peakReached (i mA t : Nat) (s : State) : State :=
  let c := s.chan i
  if c.phase ≠ .boost || c.peaked then s
  else
    let us := roundDiv (t - c.onAt) 100
    let s1 := s.onChan i (fun c => { c with peaked := true, lastPeak := measuredCoil i mA, lastTtp := min us 0xFFFF })
    let s2 := if t - c.onAt < usTicks c.cfg.minPeak then s1.actDiag (chanCode i) 0x01 us else s1
    (s2.boostOver i).onChan i (Chan.boostEnds t)

/-- The coil current reaches I_PEAK (R709). -/
def execActPeakReached (ch currentMa tick : Nat) (s : State) : Out :=
  live s (fun t => (t.atTick tick).peakReached ch currentMa tick)

/-- The maximum time to peak has passed without the peak: OPEN_COIL below 20 mA with a supply of 9 V, PEAK_TIME at 20 mA or more
(R709, R724, R729). -/
def State.peakMissed (i mA t : Nat) (s : State) : State :=
  if (s.chan i).phase ≠ .boost || (s.chan i).peaked then s
  else if mA < 20 && 9000 ≤ s.supplyOf i then (s.chanFault i 0x01).shutterFault i
  else
    let s1 := if 20 ≤ mA then s.actDiag (chanCode i) 0x01 0xFFFFFFFF else s
    (s1.boostOver i).onChan i (Chan.boostEnds t)

/-- The maximum time to peak passes (R709, R724, R729). -/
def execActMaxTimeToPeak (ch currentMa tick : Nat) (s : State) : Out :=
  live s (fun t => (t.atTick tick).peakMissed ch currentMa tick)

/-- Hold is entered and the slot is released (R709, R712). -/
def State.holdEntered (i t : Nat) (s : State) : State :=
  if (s.chan i).phase = .decay then
    (s.onChan i (fun c => { c with phase := .hold, pathOn := false, lastSwitch := t })).onAct (Act.releaseSlot i)
  else s

/-- The current has fallen to I_HOLD + band / 2 (R709). -/
def execActHoldEntered (ch tick : Nat) (s : State) : Out := live s (fun t => (t.atTick tick).holdEntered ch tick)

/-- 500 µs have passed since boost ended (R709). -/
def execActDecayTimeout (ch tick : Nat) (s : State) : Out := live s (fun t => (t.atTick tick).holdEntered ch tick)

/-- The path changes at a band edge, at the earliest 2.5 µs after the last change (R709, R711); a program's ON that has reached I_PEAK
regulates there in the same way (R744). -/
def Chan.cross (upper : Bool) (t : Nat) (c : Chan) : Chan :=
  if (c.phase = .hold || (c.phase = .boost && c.chisel && c.peaked)) && c.pathOn = upper then
    { c with pathOn := !upper, lastSwitch := max t (c.lastSwitch + 250) }
  else c

/-- The current crosses an edge of the band (R711). -/
def execActHoldBandCrossing (ch : Nat) (upper : Bool) (tick : Nat) (s : State) : Out :=
  live s (fun t => (t.atTick tick).onChan ch (Chan.cross upper tick))

/-- Switch-on + H has come: turn-off from whatever phase, the slot released, the end of a shutter move in mode 0x01 (R710, R712,
R752). -/
def State.switchOff (i t : Nat) (s : State) : State :=
  let c := s.chan i
  if c.profileRuns && !c.chisel && c.offAt ≤ t then
    ((s.boostOver i).chanOff i).moveOver i c.motion
  else s

/-- The switch-off instant of a profile (R710). -/
def execActSwitchOffTime (ch tick : Nat) (s : State) : Out := live s (fun t => (t.atTick tick).switchOff ch tick)

/-- The current has fallen below 20 mA: the channel is off (R709). -/
def execActTurnOffEnd (ch tick : Nat) (s : State) : Out :=
  live s (fun t => (t.atTick tick).onChan ch (fun c => if c.phase = .turnOff then c.finish tick else c))

/-- Motion is confirmed by a dip in the window, before the boost ends; `dipAt` is the sample of the lowest value (R722). A
program's DIP watches its own window (R744). -/
def State.motionDip (i dipAt t : Nat) (s : State) : State :=
  let c := s.chan i
  let q := bankOf i
  if c.chisel then
    (match (s.act.chisel q).dipArm with
     | some (j, deadline) =>
       if j = i && t ≤ deadline && c.lowSide t then
         (s.onChan i (fun c => { c with lastDip := min (roundDiv (dipAt - c.onAt) 100) 0xFFFF })).onChisel q
           (fun x => { x with dip := true, dipArm := none })
       else s
     | none => s)
  else if c.phase = .boost && 0 < c.cfg.dipEnd && c.lowSide t && c.onAt + usTicks c.cfg.dipStart ≤ dipAt && dipAt ≤ c.onAt + usTicks c.cfg.dipEnd then
    s.onChan i (fun c => { c with motion := true, lastDip := min (roundDiv (dipAt - c.onAt) 100) 0xFFFF })
  else s

/-- A dip and its recovery are found (R722). -/
def execActMotionDip (ch dipAt tick : Nat) (s : State) : Out := live s (fun t => (t.atTick tick).motionDip ch dipAt tick)

/-- The duty has reached its limit: switched off as at the end of the hold, DUTY_CUT, the program that drove the channel ends, a
move ends (R728, R749, R752). -/
def State.dutyCut (i duty : Nat) (s : State) : State :=
  let c := s.chan i
  if c.phase = .off then s
  else ((((s.boostOver i).endDriver i).chanOff i).actDiag (chanCode i) 0x03 duty).moveOver i (c.motion && !c.chisel)

/-- The duty of a channel reaches its limit (R728). -/
def execActDutyLimitReached (ch duty tick : Nat) (s : State) : Out := live s (fun t => (t.atTick tick).dutyCut ch duty)

/-! ## Faults (R729 to R734) -/

/-- SENSE_FAIL (R729). -/
def execActSenseFail (ch tick : Nat) (s : State) : Out :=
  live s (fun t => ((t.atTick tick).chanFault ch 0x02).shutterFault ch)

/-- SHORT (R729). -/
def execActShort (ch tick : Nat) (s : State) : Out :=
  live s (fun t => ((t.atTick tick).chanFault ch 0x03).shutterFault ch)

/-- HS_SENSE_FAIL (R729, R732). -/
def execActHsSenseFail (bank tick : Nat) (s : State) : Out := live s (fun t => (t.atTick tick).bankFault bank 0x04)

/-- BANK_OVERCURRENT (R729, R732). -/
def execActBankOvercurrent (bank tick : Nat) (s : State) : Out := live s (fun t => (t.atTick tick).bankFault bank 0x05)

/-- One channel that is not off is switched off by SUPPLY_LOW, not disabled; its event carries its own code (R729, R734). -/
def State.supplyCut (s : State) (i : Nat) : State :=
  if (s.chan i).phase = .off then s
  else ((s.onChan i (fun c => { c.turnOff with lastFault := 0x06, faults := (c.faults + 1) % 2 ^ 32 })).onAct
    (Act.releaseSlot i)).actFaultEvent (chanCode i) 0x06

/-- The supply of a bank; below 9 V for 10 µs every channel that is not off is switched off (R729, R764). -/
def execActSupplyLow (bank mv tick : Nat) (s : State) : Out :=
  live s (fun t0 =>
    let t := (t0.atTick tick).onPwr (fun p => if bank = 0 then { p with vactA := mv } else { p with vactB := mv })
    if mv < 9000 then (bankChans bank).foldl State.supplyCut t else t)

/-! ## Scheduled fires (R736 to R740) -/

/-- The fire instant `t` of a schedule: treated as a fire of that instant (R714, R738). A refused one ends with REFUSED_STATE, which R739 does not list; the
other fires that end at their instant, a program started and an EXTEND, end with OK. -/
def State.scheduleFires (x : Schedule) (t : Nat) (s : State) : State :=
  if s.fireRefused x.ch x.kind then s.scheduleEnd x.handle stState
  else
    let ends := x.kind = 1 || (s.chan x.ch).extends
    let s1 := s.fire x.ch x.kind x.hold t (.schedule x.handle)
    if ends then (s1.scheduleEnd x.handle stOk).programMove else s1

/-- A scheduled fire whose instant is known has reached it, none of the same instant and a smaller handle still to come (R738,
R740). -/
def State.scheduleDue (s : State) (handle t : Nat) : Option Schedule :=
  match s.act.schedule handle with
  | some x =>
    match x.fireAt with
    | some at_ =>
      if at_ ≤ t && !(s.chan x.ch).waiting.any (fun f => f.src = .schedule handle)
          && !s.act.schedules.any (fun y => y.fireAt = some at_ && y.handle < handle
            && !(s.chan y.ch).waiting.any (fun f => f.src = .schedule y.handle)) then some x
      else none
    | none => none
  | none => none

/-- A scheduled fire reaches its fire instant (R738). -/
def execScheduledFireInstant (handle tick : Nat) (s : State) : Out :=
  live s (fun t0 =>
    let t := t0.atTick tick
    match t.scheduleDue handle tick with
    | some x => t.scheduleFires x (x.fireAt.getD tick)
    | none => t)

/-! ## Chisel (R744 to R748) -/

/-- A WAIT or WAITM ends at its tick (R744). -/
def execChiselWaitEnd (seq tick : Nat) (s : State) : Out :=
  live s (fun t0 =>
    let t := t0.atTick tick
    match (t.act.chisel seq).wait with
    | .untilTick n => if (t.act.chisel seq).run && n ≤ tick then t.programGoes seq tick id else t
    | _ => t)

/-- The counted strobes have arrived: FRAME_S0 counts them down (R744). -/
def execChiselWaitfEnd (seq tick : Nat) (s : State) : Out :=
  live s (fun t0 =>
    let t := t0.atTick tick
    match (t.act.chisel seq).wait with
    | .strobes 0 => if (t.act.chisel seq).run then t.programGoes seq tick id else t
    | _ => t)

/-- The angle entry has fired: MARK takes its stamp; no entry fires while the encoder is LOST (R667, R744). -/
def execChiselWaitaEnd (seq tick : Nat) (s : State) : Out :=
  live s (fun t0 =>
    let t := t0.atTick tick
    match (t.act.chisel seq).wait with
    | .angle _ =>
      if (t.act.chisel seq).run && t.enc.state = 0 then t.programGoes seq tick (fun c => { c with mark := tick }) else t
    | _ => t)

/-- The current has reached the level: TO is cleared (R744). -/
def execChiselWaitiEnd (seq tick : Nat) (s : State) : Out :=
  live s (fun t0 =>
    let t := t0.atTick tick
    match (t.act.chisel seq).wait with
    | .current _ _ _ _ => if (t.act.chisel seq).run then t.programGoes seq tick (fun c => { c with timedOut := false }) else t
    | _ => t)

/-- The timeout of a WAITI has passed: TO is set (R744). -/
def execChiselWaitiTimeout (seq tick : Nat) (s : State) : Out :=
  live s (fun t0 =>
    let t := t0.atTick tick
    match (t.act.chisel seq).wait with
    | .current _ _ _ deadline =>
      if (t.act.chisel seq).run && deadline ≤ tick then t.programGoes seq tick (fun c => { c with timedOut := true }) else t
    | _ => t)

/-- A program that is left running after 4,096 instructions without a waiting one ends with PFAULT 0x04 (R748). -/
def execChiselInstructionLimit (seq tick : Nat) (s : State) : Out :=
  live s (fun t0 =>
    let t := t0.atTick tick
    let c := t.act.chisel seq
    if c.run && c.wait = .none then (t.programFault seq 0x04 (wordChan seq (c.words.getD c.pc 0))).programMove else t)

/-! ## Shutter (R753, R756) -/

/-- A shutter program that has run for 2.0 s is ended, its move not confirmed (R753). -/
def execShutterProgramTimeout (tick : Nat) (s : State) : Out :=
  live s (fun t0 =>
    let t := t0.atTick tick
    if (t.act.chisel 2).run then
      let u := t.onAct (Act.endProgram 2)
      if u.act.moving then u.shutterEnds false true else u
    else t)

/-- The 2.0 s of R756 apply to a move that was requested, not to the parking move of R150. -/
def State.moveTimed (s : State) : Bool :=
  match s.act.move with
  | some { asker := .parking, .. } => false
  | some _ => true
  | none => false

/-- VSHR has not reached 18.0 V within 2.0 s of a move's request: SHUTTER_SUPPLY, FAIL_HW (R756). -/
def execShutterVshrTimeout (s : State) : Out :=
  live s (fun t =>
    if t.act.vshrWait && t.moveTimed then
      ((t.onChan 8 (fun c => { c with lastFault := 0x08, faults := (c.faults + 1) % 2 ^ 32 })).actFaultEvent 0x20 0x08).shutterEnds
        false false
    else t)

/-! ## The trailer (R419 to R421) -/

/-- An event that reaches the C die after the trailer of its own frame is LATE (R420). -/
def State.actLate (s : State) (t : Nat) : Bool := !(s.rd.anyFrame && s.rd.frameOpen && s.rd.stamp ≤ t)

/-- A switch event reaches the C die (R419, R420). -/
def execActEventReport (ch kind tick : Nat) (s : State) : Out :=
  live s (fun t0 => t0.onAct (fun a =>
    { a with
      events := a.events ++ [{ time := tick, ch := ch, kind := kind, late := t0.actLate tick }] }))

end Sys2Proof.Machine
end

