-- ==== Sys2Proof/Machine/Background.lean ====
section
/-!
DEFINITION. Background stores (spec/04_power_down_and_ride_through.md R230, spec/17_parameter_and_calibration_storage.md R866,
R871 to R877, R881, R885 to R893, spec/18_firmware_security_background.md R955): what each needs, what it does, and how it waits for energy.
-/

namespace Sys2Proof.Machine

open Sys2Proof

/-- Energy a background store needs (R228, R867, R891). -/
def State.bgNeed (s : State) : BgJob → Nat
  | .runMarker => s.psto.needOf needRecord
  | .counters => if s.psto.ringFull 1 then needErase else needSlot
  | .ring0 => needSlot
  | .ring2 => needSlot
  | .ringErase _ => needErase
  | .resolve _ => needErase
  | .rebuild => needErase
  | .compaction => needErase
  | .log => if s.psto.ringFull 3 then needErase else needFlash

/-- The store needs no check: writes of ring 0 and ring 2 and the erases that they call for (R231, R892, R936). -/
def BgJob.unchecked : BgJob → Bool
  | .ringErase k => k = 0 || k = 2
  | .ring0 => true
  | .ring2 => true
  | .runMarker => false
  | .counters => false
  | .resolve _ => false
  | .rebuild => false
  | .compaction => false
  | .log => false

/-- A pending erase is resolved: only ERASE_DONE when the margin read passes, else the sector is erased again (R875, R877). -/
def Psto.resolve (marginOk : Bool) (p : Psto) : Psto :=
  match p.pendingErase with
  | none => { p with resolving := false, scan := 2 }
  | some k =>
    let r := { p with pendingErase := none, resolving := false, scan := 2 }.eraseSector k
    if marginOk then r.store (.eraseDone k 0) else (r.store (.eraseStart k 0)).append (.eraseDone k 0)

/-- The log entry of a resolved erase (R881, R954). -/
def State.resolveLogged (marginOk : Bool) (s : State) : State :=
  match s.psto.pendingErase with
  | none => s
  | some k => s.logEntry 0x0007 [BitVec.ofNat 8 k, BitVec.ofNat 8 (bit (!marginOk))]

/-! ## What the start-up scan finds (R871 to R877, R881) -/

/-- Sectors with an ERASE_START and no later ERASE_DONE (R874). -/
def pendingIn : Option Nat → List JEntry → Option Nat
  | k, [] => k
  | _, .eraseStart n _ :: es => pendingIn (some n) es
  | k, .header _ _ :: es => pendingIn k es
  | k, .eraseDone n _ :: es => pendingIn (if k = some n then none else k) es
  | k, .writeStart _ _ _ :: es => pendingIn k es
  | k, .writeCommit _ _ _ :: es => pendingIn k es
  | k, .void _ _ _ :: es => pendingIn k es
  | k, .protect _ _ :: es => pendingIn k es
  | k, .run _ :: es => pendingIn k es
  | k, .cleanOff _ :: es => pendingIn k es

/-- A WRITE_START is completed by the entry that follows it (R877). -/
def commits (o l : Nat) : List JEntry → Bool
  | .writeCommit o' l' _ :: _ => o = o' && l = l'
  | _ => false

/-- Void ranges of a journal: those of VOID entries and of writes without their commit, less what was erased since (R877). -/
def voidsIn : List (Nat × Nat) → List JEntry → List (Nat × Nat)
  | v, [] => v
  | v, .eraseStart _ _ :: es => voidsIn v es
  | v, .header _ _ :: es => voidsIn v es
  | v, .eraseDone n _ :: es => voidsIn (if n < 12 then v else (v.map (voidRest (userOffset n))).flatten) es
  | v, .writeStart o l _ :: es => voidsIn (if commits o l es then v else v ++ [(o, l)]) es
  | v, .writeCommit _ _ _ :: es => voidsIn v es
  | v, .void o l _ :: es => voidsIn (v ++ [(o, l)]) es
  | v, .protect _ _ :: es => voidsIn v es
  | v, .run _ :: es => voidsIn v es
  | v, .cleanOff _ :: es => voidsIn v es

/-- The protection code of the latest PROTECT entry (R883). -/
def protectIn : Nat → List JEntry → Nat
  | c, [] => c
  | _, .protect n _ :: es => protectIn n es
  | c, .header _ _ :: es => protectIn c es
  | c, .eraseStart _ _ :: es => protectIn c es
  | c, .eraseDone _ _ :: es => protectIn c es
  | c, .writeStart _ _ _ :: es => protectIn c es
  | c, .writeCommit _ _ _ :: es => protectIn c es
  | c, .void _ _ _ :: es => protectIn c es
  | c, .run _ :: es => protectIn c es
  | c, .cleanOff _ :: es => protectIn c es

/-- What the scan finds (R865, R872, R873): SCAN is done, RESOLVING stands while an erase is pending. -/
def Psto.scanned (p0 : Psto) : Psto :=
  let p := if p0.active.isNone then p0.rebuilt else p0
  { p with
    protect := protectIn 0 p.journal
    voids := voidsIn [] p.journal
    pendingErase := pendingIn none p.journal
    scan := 2
    resolving := (pendingIn none p.journal).isSome }

/-- A log entry for a void range that the log does not already record (R881). -/
def State.voidLogged (s : State) (v : Nat × Nat) : State :=
  let d := logData (le 4 v.1 ++ le 2 v.2)
  s.logIf (!(s.cfl.log ++ s.cfl.logBuf).any (fun e => e.code = 0x0008 && e.data = d)) 0x0008 d

/-- The scan is done, and what it found is logged (R871, R881). -/
def State.scanEnds (s : State) : State := (s.psto.scanned.voids).foldl State.voidLogged (s.onPsto Psto.scanned)

/-! ## Running a store, or waiting for it -/

/-- A background store is made. -/
def State.bgRun (j : BgJob) (s : State) : State :=
  match j with
  | .runMarker => s.onPsto (Psto.store (.run 0))
  | .counters => s.onPsto (Psto.storeCounters s.counters)
  | .ring0 => s.storeRing0
  | .ring2 => s.storeRing2
  | .ringErase k => s.onPsto (Psto.ringErase k)
  | .resolve ok => (s.resolveLogged ok).onPsto (Psto.resolve ok)
  | .rebuild => s.scanEnds
  | .compaction => s.onPsto Psto.ready
  | .log => (s.onCfl Cfl.writeLog).storeRing3

/-- A background store is due: none is started in Ride-through; it is made when its energy check passes, else it waits (R202, R228,
R230). -/
def State.background (j : BgJob) (s : State) : State :=
  if s.pwr.mode = .ride then s.bgWait j none
  else if j.unchecked || s.pwr.covers (s.bgNeed j) then s.bgRun j
  else s.bgWait j (some s.pwr.vhold)

/-- A waiting store may be tried again: VHOLD stands 0.5 V above where its check failed; one that Ride-through held waits for nothing
more (R230). -/
def bgDue (vhold : Nat) (w : BgJob × Option Nat) : Bool :=
  match w.2 with
  | some v => v + 500 ≤ vhold
  | none => true

/-- The waiting background stores whose time has come are tried again, each by its own level; nothing in Ride-through or while the
core does not serve (R202, R230). -/
def State.bgRetry (s : State) : State :=
  if s.pwr.mode = .ride || !s.coreServes then s
  else (s.psto.bg.filter (bgDue s.pwr.vhold)).foldl (fun t w => t.background w.1)
    (s.onPsto (fun p => { p with bg := p.bg.filter (fun w => !bgDue s.pwr.vhold w) }))

end Sys2Proof.Machine
end

