-- ==== Sys2Proof/Machine/Options.lean ====
section
/-!
DEFINITION. The option rows: their layout, what the loader accepts and which copy it uses
(spec/03_reset_and_bring_up.md, R122 to R126).
-/

namespace Sys2Proof.Machine

open Sys2Proof

/-- The fields of an option-row copy (R122). -/
def optFields (bs : List Byte) : Options where
  serial := bytesAt bs 0x08 8
  refTrim := signed 16 (bytesAt bs 0x10 2)
  aonTrim := bytesAt bs 0x12 2
  regTrim := (List.range 16).map (fun i => signed 8 (bytesAt bs (0x14 + i) 1))
  tsensTrim := (List.range 9).map (fun i => signed 16 (bytesAt bs (0x24 + 2 * i) 2))
  pllCfg := bytesAt bs 0x36 2
  haulEq := bytesAt bs 0x38 2
  cxpStart := bytesAt bs 0x3A 1
  calsetDefault := bytesAt bs 0x3B 1

/-- MAGIC, FORMAT, LENGTH and CRC are correct, and CXP_START and CALSET_DEFAULT hold listed codes (R123). -/
def optAccepted (bs : List Byte) : Bool :=
  bytesAt bs 0x00 4 = 0x4F505431 && bytesAt bs 0x04 2 = 1 && bytesAt bs 0x06 2 = 0x80
    && bytesAt bs 0x7C 4 = (crc32 (bs.take 0x7C)).toNat
    && (bytesAt bs 0x3A 1 = 1 || bytesAt bs 0x3A 1 = 3 || bytesAt bs 0x3A 1 = 6) && bytesAt bs 0x3B 1 ≤ 3

/-- Copy A is rejected (R123). -/
def Psto.badA (p : Psto) : Bool := !optAccepted p.optA

/-- Copy B is rejected (R123). -/
def Psto.badB (p : Psto) : Bool := !optAccepted p.optB

/-- RSTC.BOOT.OPT_BAD after a load (R125, R178). -/
def Psto.optBad (p : Psto) : Nat := bit p.badA + 2 * bit p.badB

/-- What the option loader uses: copy A where it is accepted, else copy B, else the built-in defaults (R124, R126; the defaults'
values are DESIGN CHOICE, log entry 157). -/
def Psto.options (p : Psto) : Options :=
  if !p.badA then optFields p.optA else if !p.badB then optFields p.optB else Options.builtIn

end Sys2Proof.Machine
end

