-- ==== Sys2Proof/Machine/Reset.lean ====
section
/-!
DEFINITION. Resets, the release order and the reverse walk as shared operations (spec/03_reset_and_bring_up.md R109 to R149,
spec/04_power_down_and_ride_through.md R180 to R193, spec/15_watchdogs.md R790 to R799, spec/18 R931 to R938).
-/

namespace Sys2Proof.Machine

open Sys2Proof

/-! ## What each level clears (R110) -/

/-- The power block through a SYSTEM order: the hold-up measurement, Ride-through's record and PWR.DOWN_FAULT stay (R245 to
R249). -/
def Pwr.systemClear (p : Pwr) : Pwr :=
  { p with
    walk := .none
    walkStep := 0
    standbyBy := none
    measuring := none
    convStep := 0
    phOpen := 0
    phSense := 0
    phIdled := 0
    convAtFrameEnd := false }

/-- The power block after POWER-ON: AON retention is gone, the supplies stay. -/
def Pwr.powerOnClear (p : Pwr) : Pwr :=
  { Pwr.reset with
    vlink0 := p.vlink0
    vlink1 := p.vlink1
    vhold := p.vhold
    vshr := p.vshr
    vactA := p.vactA
    vactB := p.vactB
    share := p.share }

/-- The reset controller through a SYSTEM order: causes, counts and the wake record stay (R176 to R179). -/
def Rstc.systemClear (r : Rstc) : Rstc :=
  { r with
    step := 1
    bootOk := false
    order := .none
    inGap := false
    backoff := false
    attempt := 1
    waiting := .none
    ledgeWanted := false
    coreUp := false
    outage := false
    outageCause := 0
    wakeArmed := true
    faultn := none
    padsDriven := false
    tripVio := false
    unitBusy := none }

/-- The timebase is stopped until step 8 of the order sets it to 0 (R269, R283 to R285). -/
def Tbase.systemClear (b : Tbase) : Tbase :=
  { b with
    running := false
    nowHi := 0
    bridged := false
    slewing := false
    compHold := false
    aonCal := false
    firstComp := true
    stored := 0
    standbyTicks := 0
    biasTrim := 0
    cdieTrim := 0
    pdieTrim := 0
    heartbeats := [none, none, none, none] }

/-- The watchdogs: both stopped, the count and the evidence stay (R767, R802). -/
def Wdg.systemClear (w : Wdg) : Wdg :=
  { w with
    host := Dog.reset 1000000
    fw := Dog.reset 500000
    coreRelease := none }

/-- The thermal block: shutdown count and trip record stay (R844 to R847). -/
def Thm.systemClear (t : Thm) : Thm :=
  { Thm.reset with
    shutdowns := t.shutdowns
    tripValid := t.tripValid
    tripSensor := t.tripSensor }

/-- The parameter-store controller: contents stay, what the scan gives is gone until it has run (R137, R914 to R916). -/
def Psto.systemClear (p : Psto) : Psto :=
  { p with
    protect := 0
    voids := []
    pendingErase := none
    scan := 0
    resolving := false
    erasing := 0xFF
    busy := false
    suspended := false
    job := none
    queued := []
    bg := []
    ce := 0
    ue := 0
    ueAddr := 0 }

/-- The calibration flash: contents and walk counts stay (R917, R918). Log entries not yet written are lost with the core. -/
def Cfl.systemClear (c : Cfl) : Cfl :=
  { c with
    loaded := 0
    requested := 0
    lost := 0
    userValid := false
    result := 0
    recalling := none
    save := none
    saveCancel := false
    holdStart := 0
    fwWrite := none
    fwVerify := none
    logBuf := [] }

/-- Instruction codes that keep the module outside the ratings (R943, R946). -/
def Jtag.holds (j : Jtag) : Bool := j.ir = 0 || j.ir = 3 || j.ir = 4

/-- Everything that a SYSTEM order clears (R110, R119, R586, R697 to R702, R708). -/
def State.systemClear (s : State) : State :=
  { s with
    pwr := s.pwr.systemClear
    rstc := s.rstc.systemClear
    tb := s.tb.systemClear
    cxp := { Cxp.reset with tx := s.cxp.tx }
    sess := Sess.reset
    streams := List.replicate 16 Stream.reset
    rd := Rd.reset
    haul := Haul.reset
    pipe := Pipe.reset
    cal := CalState.reset
    act := s.act.systemReset
    trig := { s.trig with cfg := TrigP.reset, accepted := 0, early := 0 }
    enc := { Enc.reset with a := s.enc.a, b := s.enc.b }
    gang := Gang.reset
    wdg := s.wdg.systemClear
    thm := s.thm.systemClear
    psto := s.psto.systemClear
    cfl := s.cfl.systemClear
    fuse := { s.fuse with armed := none }
    jtag := { s.jtag with tainted := s.jtag.tainted && s.jtag.holds } }

/-- What POWER-ON clears beside it: AON retention with the sampled straps, the cause registers, the test access port (R110). The counters restart from
the ring (R885, R893), the AON tick from AON_TRIM (R260). -/
def State.powerOnClear (s0 : State) : State :=
  let s := s0.systemClear
  { s with
    pwr := s.pwr.powerOnClear
    rstc := { Rstc.reset with order := .none, resetnLow := s.rstc.resetnLow }
    tb := { Tbase.reset with now := s.tb.now, aonTrim := s.psto.options.aonTrim }
    aon := Aon.reset
    act := Act.reset
    trig := { s.trig with gangId := Trig.reset.gangId, vsel := Trig.reset.vsel }
    wdg := Wdg.reset
    thm := Thm.reset
    cfl := { s.cfl with walkFails := 0, walkPasses := 0, walkLast := 0x3FF }
    jtag := { Jtag.reset with trstn := s.jtag.trstn }
    counters := s.psto.ringCounters }

/-! ## Causes (R109, R138, R176, R177) -/

/-- A reset is recorded: the step in progress, the level performed, the cause and its sticky bit. -/
def Rstc.record (cause level : Nat) (r : Rstc) : Rstc :=
  { r with
    lastStep := if r.order = .none then 0 else r.step
    lastLevel := level
    lastCause := cause
    sticky := r.sticky ||| 2 ^ cause }

/-- The causes of watchdog-caused resets (R790). -/
def wdgCause (cause : Nat) : Bool := cause = 6 || cause = 7 || cause = 8

/-- A watchdog-caused reset is counted (R621). -/
def State.countWdg (cause : Nat) (s : State) : State := if wdgCause cause then s.count 3 else s

/-- A start of a trial image ends before its BOOT_OK by a cause of R935. -/
def State.trialEnds (cause : Nat) (s : State) : Bool :=
  (cause = 9 || cause = 6 || cause = 8 || cause = 3) && s.cfl.trial && s.cfl.running = s.cfl.nextImg && s.rstc.coreUp
    && !s.rstc.bootOk && s.pwr.mode ≠ .ledge

/-- NEXT returns to CONFIRMED and the reversion is logged (R935, R954). -/
def State.trialReverts (s : State) : State :=
  (s.select (fun c => { c with nextImg := c.confirmed, trial := false })).logEntry 0x000B [BitVec.ofNat 8 s.cfl.nextImg, 2#8]

/-! ## Beginning an order (R115, R117) -/

/-- First step an order performs: a SYSTEM order passes the steps whose domains are up, but tests the phases of step 6 (R117,
R244). -/
def firstStep (o : Order) (rails : Nat) : Nat :=
  match o with
  | .none => 0
  | .powerOn => 1
  | .system => min 6 (rails + 1)
  | .wakeKeep => 2
  | .wakeKeepWarm => 3
  | .rideReturn => 12

/-- The set that step 11 recalls: CALSET_DEFAULT, in a wake from Keep the set last asked for. -/
def State.startSet (s : State) : Nat := if s.rstc.order = .wakeKeep then s.cfl.requested else s.psto.opt.calsetDefault

/-- Actions with which steps 11, 14 and 15 begin (R115, R117, R24). -/
def State.stepOpens (k : Nat) (s : State) : State :=
  if k = 11 then
    { s with
      pipe := { s.pipe with recalling := true }
      cfl := { s.cfl with requested := s.startSet, result := 1 } }
  else if k = 14 then
    s.onHaul (fun h => { h with training := 1, attempt := 0, state := 1, lanesUp := 0, barred := h.lanesFailed, down := [.training 0] })
  else if k = 15 && s.haul.state ≠ 4 then
    s.onRd (fun r => { r with state := if s.rstc.order = .wakeKeepWarm || s.rstc.order = .rideReturn then .seeding else .adcCal })
  else s

/-- A step begins (R178). -/
def State.stepBegins (k : Nat) (s : State) : State :=
  (s.onRstc (fun r => { r with step := k, inGap := false, backoff := false })).stepOpens k

/-- The order in progress begins at its first step, once no walk, no wait and no low RESETN is in its way (R119, R132); a SYSTEM order
keeps the rails of steps 1 to 6 alone (R181). -/
def State.tryBegin (s : State) : State :=
  if s.rstc.order ≠ .none && s.pwr.walk = .none && s.rstc.waiting = .none && !s.rstc.resetnLow then
    (s.onRstc (fun r => { r with rails := if r.order = .system then min 6 r.rails else r.rails })).stepBegins
      (firstStep s.rstc.order s.rstc.rails)
  else s

/-- The S die, when it is up, is switched off by a walk of steps 15 to 12 first (R119, R181). -/
def State.sensorWalk (s : State) : State :=
  s.onPwr (fun p => if 12 ≤ s.rstc.rails then { p with walk := .system, walkStep := s.rstc.rails } else p)

/-- An order of a kind is due; it waits for VLINK when Ride-through was in progress (R265). -/
def State.orderDue (o : Order) (waitVlink : Bool) (s : State) : State :=
  (s.onRstc (fun r => { r with
    order := o
    waiting := if waitVlink then .clkLoss else .none
    rails := if o = .powerOn then 0 else r.rails })).tryBegin

/-! ## POWER-ON and SYSTEM resets -/

/-- A POWER-ON order: everything is cleared, then the cause is recorded and the order is counted (R110, R118, R621). -/
def State.powerOnReset (cause : Nat) (s : State) : State :=
  let r := s.rstc.record cause 3
  (((s.powerOnClear.onRstc (fun q => { q with
    lastStep := r.lastStep
    lastLevel := r.lastLevel
    lastCause := r.lastCause
    sticky := 2 ^ cause })).count 0).onPwr (fun p => { p with
      mode := .bringUp
      prev := .bringUp })).orderDue .powerOn false

/-- Nothing but its own ending leaves a Power-down, an unpowered module, the wait after a thermal shutdown or that of R147 (R185,
R147, R836, R837). -/
def State.deaf (s : State) : Bool :=
  s.pwr.mode = .powerDown || (s.pwr.mode = .off && s.rstc.waiting = .none) || s.rstc.waiting = .thermal || s.rstc.waiting = .aonOnly

/-- A POWER-ON order is in progress: an overlapping SYSTEM reset restarts it at the deeper level (R133). -/
def Rstc.deeper (r : Rstc) : Bool := r.order = .powerOn

/-- The cause registers as a reset leaves them (R138, R176, R177). -/
def Rstc.causesOf (q r : Rstc) : Rstc :=
  { r with
    lastStep := q.lastStep
    lastLevel := q.lastLevel
    lastCause := q.lastCause
    sticky := q.sticky }

/-- A SYSTEM reset (R109, R110, R119, R133, R138, R265). PWR.STATE takes its S column: PREV 0, TRANSITIONS kept (R47). `ledge` sends its
order into Ledge at step 10 (R790). One that a POWER-ON order absorbs is carried out at that level, and adds its cause to those
recorded so far. -/
def State.systemStart (cause : Nat) (ledge waitVlink : Bool) (s : State) : State :=
  let deep := s.rstc.deeper
  let s1 := if deep then s.powerOnClear else s.systemClear
  let s2 := { s1 with
    rstc := { (s.rstc.record cause (if deep then 3 else 2)).causesOf s1.rstc with ledgeWanted := ledge }
    pwr := { s1.pwr with mode := .bringUp, prev := .bringUp } }
  let s3 := (s2.countWdg cause).count (if deep then 0 else 1)
  let s4 := if s.trialEnds cause then s3.trialReverts else s3
  let s5 := if deep then s4 else s4.sensorWalk
  s5.orderDue (if deep then .powerOn else .system) waitVlink

/-- VLINK is away: in Ride-through until it has returned, and in the waits that its return ends (R136, R189, R207, R265). -/
def State.vlinkAway (s : State) : Bool :=
  (s.pwr.mode = .ride && s.rstc.order ≠ .rideReturn) || s.rstc.waiting = .vlinkDip || s.rstc.waiting = .rideCollapse || s.rstc.waiting = .clkLoss

/-- A Power-down loses a clock that it has not switched off yet: the SYSTEM reset of R262 or R263 is recorded and stops the core, and the
walk runs on to step 1 (R185). DEDUCED, log entry 159. -/
def State.clockLossDown (s : State) : State :=
  { (s.systemClear.onPwr (fun _ => s.pwr)) with
    rstc := (s.rstc.record 3 2).causesOf { s.systemClear.rstc with rails := s.rstc.rails }
    counters := countersUp 1 1 s.counters }

/-- A SYSTEM reset from outside or by a watchdog. -/
def State.systemReset (cause : Nat) (ledge : Bool) (s : State) : State :=
  if s.deaf then s else s.systemStart cause ledge s.vlinkAway

/-! ## CORE resets (R112, R113, R134, R135, R798, R799, R938) -/

/-- The firmware watchdog starts at a core release: an opening period of 500,000 µs (R767, R783). -/
def Dog.release (t : Nat) (d : Dog) : Dog :=
  { Dog.reset 500000 with enabled := true, opening := true, start := t, lastServe := d.lastServe }

/-- A watchdog stops (R767). -/
def Dog.stop (d : Dog) : Dog := { d with enabled := false, keyA := none, warned := false }

/-- A started command that the core leaves unanswered; the isolation wrapper answers a unit reset itself (R113, R175). -/
def Flight.coreStarted (f : Flight) : Bool :=
  match f.st with
  | .waiting (.unit _) => false
  | .waiting _ => true
  | .queued => false
  | .running => false
  | .deferred _ _ _ => false
  | .answered => false
  | .held => false

/-- A CALSET_SELECT left unfinished: the store holds what the copy had reached, which the spec leaves open; its reserved bits read 0
(R12, R389). -/
def State.recallCut (st : Nat) (s : State) : State :=
  if s.cfl.recalling.isSome then
    { s.recallReply st with
      freeCtr := s.freeCtr + 3
      pipe := { s.pipe with
        csto := RecStore.all (((Config.freeValue s.freeCtr ++ Config.freeValue (s.freeCtr + 1) ++ Config.freeValue (s.freeCtr + 2)).setWidth 76).setWidth 80)
        recalling := false }
      cfl := { (s.recallReply st).cfl with result := 0 } }
  else s

/-- A FRAME_SNAP that the core leaves unfinished. -/
def State.snapCut (s : State) (i : Nat) : State :=
  if (s.stream i).snap.isSome then
    ((s.endSnap i stFailAborted).onStream i (fun x => { x with snap := none })).haltAtEnd i false
  else s

/-- A SHUTTER_MOVE is a long operation that the core started: its command ends, while the switches carry the move to its end (R938). -/
def State.moveCut (st : Nat) (s : State) : State :=
  match s.act.move with
  | none => s
  | some m =>
    match m.asker with
    | .command session tag =>
      (s.onAct (fun a => { a with move := some { m with asker := .orphan } })).complete0 session tag 0x36 st [0#8]
    | .orphan => s
    | .calibration => s
    | .parking => s

/-- Long operations that the core started end with FAIL_ABORTED, and so do the commands it had started (R113, R326, R938). -/
def State.coreCuts (s : State) : State :=
  let s1 := (s.sess.flights.filter Flight.coreStarted).foldl (fun t f => t.answerOpen f stFailAborted []) s
  let s2 := (List.range 16).foldl State.snapCut (((s1.calEnds stFailAborted false).adcCalEnds stFailAborted 0).moveCut stFailAborted)
  ((((s2.recallCut stFailAborted).saveEnds stFailAborted).fwWriteEnds stFailAborted).fwVerifyEnds stFailAborted).erasesEnd stFailAborted
    |>.joinEnds stFailAborted 0 |>.onHaul (fun h => { h with pendingRegs := h.pendingRegs.filter (fun r => r.hdr.isNone) })

/-- The core restarts with an image; none passing, the module enters Ledge with NO_IMAGE once the outage ends (R148, R931). -/
def State.coreDo (cause : Nat) (s : State) : State :=
  let s1 := ((s.onRstc (Rstc.record cause 1)).countWdg cause).count 2
  let s2 := if s.trialEnds cause then s1.trialReverts else s1
  { s2 with
    rstc := { s2.rstc with
      step := if s.rstc.order = .none then 10 else s2.rstc.step
      bootOk := false
      outage := true
      outageCause := cause }
    fuse := { s2.fuse with armed := none }
    wdg := { s2.wdg with
      fw := s2.wdg.fw.stop
      host := if cause = 7 then { s2.wdg.host with suspended := true, keyA := none } else s2.wdg.host }
    cfl := { s2.cfl with running := if s.pwr.mode = .ledge then s2.cfl.running else s2.imageToRun.getD s2.cfl.running } }

/-- A CORE reset: recorded only while no core runs, a SYSTEM reset between core release and BOOT_OK, else the core restarts (R134,
R135, R799). -/
def State.coreReset (cause : Nat) (s : State) : State :=
  if s.deaf then s
  else if !s.rstc.coreUp then s.onRstc (Rstc.record cause 1)
  else if s.pwr.mode = .ledge || s.rstc.bootOk || s.rstc.outage then s.coreDo cause
  else s.systemReset cause false

/-! ## Option rows, straps, fuse shadow (R110, R122 to R128, R141, R792) -/

/-- Step 7: the copy in force, the straps, the fuse shadow and the watchdog reset count of ring 0. -/
def State.optionLoad (straps : Nat) (s : State) : State :=
  let fresh := s.rstc.order = .powerOn || s.rstc.order = .system
  { s with
    psto := { s.psto with opt := s.psto.options }
    rstc := { s.rstc with optBad := s.psto.optBad }
    wdg := { s.wdg with count := max s.wdg.count (min s.psto.ringWdg 7) }
    trig := if fresh then { s.trig with gangId := straps / 16 % 8, vsel := straps % 2 } else s.trig
    fuse := if fresh then { s.fuse with shadow := s.fuse.words } else s.fuse }

/-- Step 8: the timebase starts at 0, or at its estimate across the standby; the correction is REF_TRIM alone (R256, R269,
R272). -/
def State.pllLocked (s : State) : State :=
  let wake := s.rstc.order = .wakeKeep || s.rstc.order = .wakeKeepWarm
  s.onTb (fun b => { b with
    now := if wake then max b.now (b.stored + 100 * b.standbyTicks) else 0
    running := true
    bridged := b.bridged || wake
    target := s.psto.opt.refTrim
    corr := s.psto.opt.refTrim
    compHold := false
    firstComp := true })

/-! ## Core release and Ledge (R141 to R150, R767, R871) -/

/-- The links answer discovery at a rate; in Ledge PHY 0 alone is powered (R121, R150, R493). -/
def Cxp.start (ledge : Bool) (rate : Nat) (c : Cxp) : Cxp :=
  { c with
    links := c.links.mapIdx (fun i l => if i = 0 || !ledge then { l with powered := true, up := false, rate := rate } else Link.off)
    cfgRate := rate }

/-- The core is released: its watchdog runs an opening period of 500,000 µs, the parameter store is scanned, link 0 comes up, the next
update of the compensation is the first (R121, R256, R767, R783, R871). -/
def State.coreReleased (ledge : Bool) (rate : Nat) (s : State) : State :=
  { s with
    rstc := { s.rstc with coreUp := true, outage := false }
    tb := { s.tb with firstComp := true }
    wdg := { s.wdg with fw := s.wdg.fw.release s.tb.now }
    psto := { s.psto with scan := 1 }
    cxp := s.cxp.start ledge rate }

/-- The sessions that an event of a start does not reach now (R157). -/
def Sess.without (up : Bool) (e : Event) (x : Sess) : List Nat :=
  (List.range 16).filter (fun i => !(up && (x.get i).opened && (x.get i).mask.testBit e.code))

/-- EV_BOOT as it stands (R156, R539). -/
def State.bootEvent (count : Nat) (s : State) : Event :=
  { code := 0x01, status := 0, target := none, only := none, forced := none, time := s.tb.now,
    data := le 4 s.rstc.lastCauseWord ++ le 2 s.rstc.sticky ++ le 1 count ++ le 1 s.rstc.ledgeCause ++ le 1 s.rstc.optBad
      ++ [0#8, 0#8, 0#8] }

/-- EV_MODE as it stands (R40, R539). -/
def State.modeEvent (s : State) : Event :=
  { code := 0x02, status := 0, target := none, only := none, forced := none, time := s.tb.now,
    data := [BitVec.ofNat 8 (modeCode s.pwr.mode), BitVec.ofNat 8 (modeCode s.pwr.prev), 0#8, 0#8] }

/-- An event of a start: delivered to the sessions that subscribe, held in the AON queue for the others until each first subscribes
to it (R157). -/
def State.bootRaise (e : Event) (s : State) : State :=
  { s with
    sess := { s.sess with list := sessionsAfter s.cxp.up0 e s.sess.list }
    cxp := s.cxp.send (packetsOf e s.sess.list)
    aon := if (s.sess.without s.cxp.up0 e).isEmpty then s.aon else s.aon.hold { ev := e, due := some (s.sess.without s.cxp.up0 e) } }

/-- EV_BOOT, with EV_MODE when the state changed (R155, R156, R157). -/
def State.bootEvents (count : Nat) (withMode : Bool) (s : State) : State :=
  let es := if withMode then [s.bootEvent count, s.modeEvent] else [s.bootEvent count]
  es.foldl (fun t e => t.bootRaise e) s

/-- The Start entry of the log (R954). -/
def State.logStart (count : Nat) (s : State) : State :=
  s.logEntry 0x0001 (le 4 s.rstc.lastCauseWord ++ le 2 s.rstc.sticky ++ le 1 count ++ le 1 s.rstc.ledgeCause)

/-- The parking move of Ledge with the configuration of R708, unless the fuse names none (R150, R760, R949). -/
def State.park0 (s : State) : State :=
  match s.fuse.parkDir with
  | some dir => (s.onChan 8 (fun c => { c with cfg := Chan.shutter.cfg })).moveRequest dir .parking s.tb.now
  | none => s

/-- Ledge is entered (R142, R148 to R150, R156): the S die and every switch off, the maintenance monitor, link 0 at CXP-1,
FAULTN low. -/
def State.enterLedge (cause : Nat) (s : State) : State :=
  let s1 := ((s.setMode .ledge).onRstc (fun r => { r with
      order := .none
      inGap := false
      ledgeWanted := false
      ledgeCause := cause
      faultn := some false
      padsDriven := true
      rails := 10 })).onRd (fun r => { r with state := .off })
  let s2 := (s1.coreReleased true 1).onCfl (fun c => { c with running := 0xFF })
  ((s2.bootEvents s2.rstc.failCount true).logStart s2.rstc.failCount).park0

/-- A clean-off marker stands last in the journal (R192). -/
def Psto.cleanOff (p : Psto) : Bool :=
  match p.journal.reverse.find? JEntry.isMarker with
  | some (.cleanOff _) => true
  | some _ => false
  | none => false

/-- At step 10 of a POWER-ON order the journal tells an unclean off from a clean one (R192). -/
def Rstc.cleanCheck (clean : Bool) (r : Rstc) : Rstc :=
  if r.order = .powerOn && r.lastCause = 0 && !clean then
    { r with lastCause := 1, sticky := (r.sticky - (r.sticky &&& 1)) ||| 2 }
  else r

/-- The order goes on from a step to the next one it performs: in a wake from Keep-warm and in a return from Ride-through the
coefficients are held and step 11 is passed (R117). -/
def State.stepNext (k : Nat) (s : State) : State :=
  s.stepBegins (if k = 10 && s.rstc.order = .wakeKeepWarm then 12 else k + 1)

/-- The failed-start count that step 10 goes by: the larger of the value in AON retention and the one in the ring (R141). -/
def Rstc.loadCount (ring : Nat) (r : Rstc) : Rstc := { r with failCount := max r.failCount (min ring 7) }

/-- The failed-start check and the start of the core with the image whose header is valid (R141 to R143, R148, R149, R126, R931,
R932). DESIGN CHOICE (log entry 152): where several of the conditions of Ledge hold at once, BOOT_TRIES is recorded before
WDG_LADDER and that before OPTION_CRC, and a start that ends there by one of these is not counted as an attempt. -/
def State.startCore (image : Option Nat) (s0 : State) : State :=
  let s := (s0.recordsLoaded.onRstc (Rstc.cleanCheck s0.psto.cleanOff)).onRstc (Rstc.loadCount s0.psto.ringFail)
  if s.fuse.bootTries ≤ s.rstc.failCount then s.enterLedge 1
  else if s.rstc.ledgeWanted then s.enterLedge 3
  else if s.rstc.optBad = 3 then s.enterLedge 2
  else
    let s1 := (s.onRstc (fun r => { r with failCount := min 7 (r.failCount + 1) })).storeRing0
    match image with
    | none => s1.enterLedge 4
    | some i => ((s1.onCfl (fun c => { c with running := i })).coreReleased false s.psto.opt.cxpStart).stepNext 10

/-! ## Steps of the order (R115 to R117) -/

/-- Whether a gap follows a step: none after steps 10, 14 and 15, none after a step that was only checked (R115, R117). -/
def Rstc.gapAfter (k : Nat) (r : Rstc) : Bool := !(k = 10 || k = 14 || k = 15 || (r.order = .system && k = 6 && 6 ≤ r.rails))

/-- A step other than 10 and 15 is complete: its rails are up; its gap is counted or the next step begins. -/
def State.stepDone (k : Nat) (s : State) : State :=
  let s1 := s.onRstc (fun r => { r with rails := max r.rails k })
  if s.rstc.gapAfter k then s1.onRstc (fun r => { r with inGap := true }) else s1.stepNext k

/-- Rail or clock code of RSTC.WAKE for a step (R179). -/
def railOf (step : Nat) : Nat :=
  match step with
  | 2 => 2
  | 3 => 3
  | 4 => 4
  | 5 => 5
  | 6 => 6
  | 8 => 8
  | _ => 0

/-- The C die and the S die lose their power: links down, the core stopped, pads released, switches off. -/
def State.diesOff (s : State) : State :=
  let s1 := s.actCut stFailAborted s.tb.now
  { s1 with
    rstc := { s1.rstc with
      coreUp := false
      outage := false
      bootOk := false
      inGap := false
      backoff := false
      faultn := none
      padsDriven := false
      tripVio := false }
    tb := { s1.tb with running := false, aonCal := false }
    cxp := { s1.cxp with links := List.replicate 4 Link.off }
    rd := { s1.rd with state := .off }
    haul := { s1.haul with released := false, state := 0, lanesUp := 0, training := 0, pendingRegs := [], almWait := false }
    pipe := { s1.pipe with recalling := false }
    wdg := { s1.wdg with fw := s1.wdg.fw.stop }
    pwr := { s1.pwr with measuring := none } }

/-- A walk begins at the highest step reached (R181); with nothing above its last step it has ended. -/
def State.walkFrom (w : Walk) (last : Nat) (s : State) : State :=
  s.onPwr (fun p => if last ≤ s.rstc.rails then { p with walk := w, walkStep := s.rstc.rails }
    else { p with walk := .none, walkStep := 0 })

/-- The failed-start count rises, and with it the count of failed starts (R146, R162, R621). -/
def State.failedStart (s : State) : State :=
  (s.onRstc (fun r => { r with failCount := min 7 (r.failCount + 1) })).count 4

/-- A start whose third attempt failed: powered down from the failed step, then a SYSTEM order after 100 ms, or AON only once the count stands at its
limit; the failed step and the rail are kept (R146, R147). -/
def State.startFails (s : State) : State :=
  let spent := s.fuse.bootTries ≤ s.rstc.failCount
  let s1 := (if spent then s.onRstc (fun r => { r with wakeFailStep := r.step, wakeRail := railOf r.step }) else s).failedStart
  ((s1.diesOff).onRstc (fun r => { r with
    order := .none
    rails := max r.rails r.step
    waiting := if spent then .aonOnly else .failedStart })).walkFrom .failedStep 2

/-- EV_WAKE_FAIL is raised, and held while no link is up (R162, R164). AON records carry no timebase stamps (R266): while the
timebase stands, its stamp is a free value (log entry 2). -/
def State.wakeFailEvent (s : State) : State :=
  ({ s with freeCtr := s.freeCtr + 2 }).raiseEv
    { code := 0x03, status := 0, target := none, only := none, forced := none,
      data := [BitVec.ofNat 8 s.rstc.wakeFailStep, BitVec.ofNat 8 s.rstc.wakeRail, BitVec.ofNat 8 s.rstc.wakeAttempts, 0#8],
      time := if s.tb.running then s.tb.now
        else (Config.freeValue s.freeCtr).toNat + 2 ^ 32 * (Config.freeValue (s.freeCtr + 1)).toNat }

/-- The step up to which a standby state keeps its rails (R181). -/
def standbyRails (o : Order) : Nat := if o = .wakeKeepWarm then 2 else 1

/-- A wake whose third attempt failed returns to its standby state (R161 to R164). -/
def State.wakeFails (s : State) : State :=
  ((s.failedStart).onRstc (fun r => { r with
    order := .none
    wakeResult := true
    wakeArmed := false
    rails := standbyRails s.rstc.order })).wakeFailEvent

/-- An order is a wake (R117). -/
def Order.isWake : Order → Bool
  | .wakeKeep => true
  | .wakeKeepWarm => true
  | .none => false
  | .powerOn => false
  | .system => false
  | .rideReturn => false

/-- Rails that remain when an attempt fails: a wake switches off what it enabled (R160). -/
def Rstc.afterFail (r : Rstc) : Nat :=
  if r.order.isWake then standbyRails r.order else if r.order = .powerOn then 0 else r.rails

/-- A step among 1 to 9 fails: a back-off before the second and the third attempt, then the start has failed (R145, R160); AON_CAL falls
with REF (R284). DEDUCED (log entry 45): R147 has a failed start that finds the count at BOOT_TRIES keep the AON domain alone, R162 has
a failed wake return to its standby state; a wake at that count follows R162. -/
def State.stepFails (s : State) : State :=
  let s1 := if s.rstc.order.isWake then
      s.onRstc (fun r => { r with wakeFailStep := r.step, wakeRail := railOf r.step, wakeAttempts := r.attempt })
    else s
  let s2 := (s1.onRstc (fun r => { r with rails := r.afterFail, inGap := false })).onTb (fun b =>
    { b with running := b.running && 8 ≤ s1.rstc.afterFail, aonCal := b.aonCal && 3 ≤ s1.rstc.afterFail })
  if s.rstc.attempt < 3 then s2.onRstc (fun r => { r with backoff := true })
  else if s.rstc.order.isWake then s2.wakeFails
  else s1.startFails

/-- A sensor of a list reads 122.0 °C or more during a restart after a thermal shutdown (R838). -/
def State.stillHot (l : List Int) (s : State) : Bool := s.rstc.lastCause = 4 && l.any (fun t => 7808 ≤ t)

/-- The restart is given up: powered down from the step, and a new wait (R838). -/
def State.hotAgain (s : State) : State :=
  ((s.diesOff).onRstc (fun r => { r with
    order := .none
    rails := max r.rails r.step
    waiting := .thermal })).walkFrom .failedStep 2

/-- Phases that pass the test pulse are in service; with two, steps 1 to 3 are in force (R239, R244, R249). DESIGN CHOICE (log entry 154):
R249 gives the fields of a POWER-ON and a SYSTEM order only; in a wake too the test decides, so SENSE is cleared and a phase removed
before the standby is in service again when its pulse passes. -/
def Pwr.phaseTest (phases : Nat) (p : Pwr) : Pwr :=
  let n := ((List.range 4).filter (fun i => phases.testBit i)).length
  { p with
    healthy := phases % 16
    phOpen := 15 - phases % 16
    phSense := 0
    convStep := if n = 2 then 3 else p.convStep }

/-- Phases in a mask. -/
def phasesIn (m : Nat) : Nat := ((List.range 4).filter (fun i => m.testBit i)).length

/-- INT of the gain mode that a start sets (R336). -/
def intOfMode (mode : Nat) : Nat :=
  match mode with
  | 0 => 3000
  | 1 => 1200
  | _ => 400

/-- Step 11 ends: the recall's outcome, the estimator's start, INT of the gain mode (R336, R478, R905, R907). -/
def State.recallStep (lost : List Nat) (s : State) : State :=
  ((s.recallEnds s.cfl.requested lost).onDrift Drift.restart).onRd (fun r => { r with int := intOfMode r.gain })

/-! ## The walk down (R180 to R182, R215, R271) -/

/-- Step 11 of a walk: the counters, the log and the clean-off marker, when the energy check passes (R180, R182, R215, R228). -/
def State.offStores (s : State) : State :=
  if s.pwr.covers needDown then
    (((s.onPsto (Psto.storeCounters s.counters)).onCfl Cfl.writeLog).storeRing3).onPsto (Psto.store (.cleanOff 0))
  else s

/-- What completing a walk's step does. -/
def State.unstep (k : Nat) (s : State) : State :=
  match k with
  | 14 => s.onHaul (fun h => { h with state := 0, lanesUp := 0, training := 0 })
  | 13 => s.onHaul (fun h => { h with released := false, state := 0, lanesUp := 0, training := 0, down := [] })
  | 12 => s.onRd (fun r => { r with state := .off })
  | 11 => if s.rstc.coreUp then s.offStores else s
  | 10 => { s with
      rstc := { s.rstc with coreUp := false, outage := false }
      wdg := { s.wdg with fw := s.wdg.fw.stop } }
  | 9 => { s with
      cxp := { s.cxp with links := List.replicate 4 Link.off }
      tb := { s.tb with stored := s.tb.now, standbyTicks := 0, running := false } }
  | 3 => s.onTb (fun b => { b with aonCal := false })
  | _ => s

/-- Last step of a walk (R181). -/
def Walk.last : Walk → Nat
  | .none => 0
  | .ride => 12
  | .keepWarm => 3
  | .keep => 2
  | .system => 12
  | .failedStep => 2
  | .powerDown => 1

/-- Keep is entered: every session is closed and the coefficients are lost (R35, R39). -/
def State.keepEntered (s : State) : State :=
  { s.setMode .keep with
    sess := { s.sess with
      list := s.sess.list.map (fun x => Session.closed x.tier x.enabled)
      flights := []
      claims := [] }
    streams := List.replicate 16 Stream.reset
    pipe := { s.pipe with csto := RecStore.all 0, changed := false } }

/-- The module is without power (R36). -/
def State.powerLost (s : State) : State :=
  { (s.diesOff).setMode .off with
    rstc := { s.diesOff.rstc with
      order := .none
      waiting := .none
      rails := 0
      unitBusy := none }
    pwr := { (s.diesOff.setMode .off).pwr with walk := .none, walkStep := 0, standbyBy := none } }

/-- Pads leave their states in standby (R35, R97). -/
def Rstc.padsOff (r : Rstc) : Rstc := { r with faultn := none, padsDriven := false }

/-- What follows a walk that has reached its last step (R36, R119, R181, R185). -/
def State.walkEnds (s : State) : State :=
  let s1 := s.onPwr (fun p => { p with walk := .none, walkStep := 0, standbyBy := none })
  match s.pwr.walk with
  | .none => s
  | .ride => s1.tryBegin
  | .keepWarm => (((s1.actCut stFailAborted s.tb.now).setMode .keepWarm).onRstc (fun r => { r.padsOff with wakeArmed := true })).onSess
      (Sess.dropFlights (fun _ => true))
  | .keep => ((s1.actCut stFailAborted s.tb.now).keepEntered).onRstc (fun r => { r.padsOff with wakeArmed := true })
  | .system => s1.tryBegin
  | .failedStep => s1.tryBegin
  | .powerDown =>
    let s2 := s1.powerLost
    if 19000 ≤ s.pwr.vlink0 then s2.powerOnReset 0 else s2

/-- One step of the walk is complete (R180, R181). -/
def State.walkStepDone (s : State) : State :=
  match s.pwr.walk with
  | .none => s
  | w =>
    let k := s.pwr.walkStep
    let s1 := (s.unstep k).onRstc (fun r => { r with rails := min r.rails (k - 1) })
    if k ≤ w.last then s1.walkEnds else s1.onPwr (fun p => { p with walkStep := k - 1 })

/-- ORDER code of PWR.DOWN_FAULT (R246). -/
def State.orderCode (s : State) : Nat :=
  match s.pwr.walk with
  | .powerDown => 2
  | .failedStep => 2
  | .keepWarm => 3
  | .keep => 4
  | .ride => 5
  | .system => 6
  | .none => if s.rstc.order = .none then 0 else 1

/-- The step in progress, 0 when no order is walking (R246). -/
def State.stepInProgress (s : State) : Nat :=
  if s.pwr.walk ≠ .none then s.pwr.walkStep else if s.rstc.order ≠ .none then s.rstc.step else 0

/-- PWR.DOWN_FAULT takes a record; that of a collapse, kind 1, only when none is present (R184, R187). -/
def State.downRecord (kind rail : Nat) (s : State) : State :=
  s.onPwr (fun p => if kind = 1 && p.downFault.valid then p
    else { p with downFault := { valid := true, kind := kind, step := s.stepInProgress, order := s.orderCode, rail := rail } })

end Sys2Proof.Machine
end

