-- ==== Sys2Proof/Machine/BringUp.lean ====
section
/-!
DEFINITION. Events of reset, bring-up and wake (spec/03_reset_and_bring_up.md) and of the clocks
(spec/05_clocks_and_timebase.md R254 to R265).
-/

namespace Sys2Proof.Machine

open Sys2Proof

/-! ## The release order -/

/-- The order in progress is on a step: no gap, no back-off, no walk and no wait holds it. -/
def State.stepRuns (s : State) : Bool :=
  s.rstc.order ≠ .none && !s.rstc.inGap && !s.rstc.backoff && s.pwr.walk = .none && s.rstc.waiting = .none && !s.rstc.resetnLow

/-- Replies marked for replay (R211, R217). -/
def Sess.marked (x : Sess) : Nat := x.owed.length + (x.flights.filter (·.replay)).length

/-- EV_RIDE_END: the instant of return, the duration, the energy and the replies queued (R211, R539). -/
def State.rideEndEvent (s : State) : State :=
  s.raiseEv { code := 0x10, status := 0, target := none, only := none, forced := none, time := s.pwr.rideEndAt,
              data := le 8 (s.pwr.rideEndAt - s.pwr.rideStart) ++ le 4 s.pwr.rideEndE ++ le 1 s.sess.marked ++ [0#8, 0#8, 0#8] }

/-- Step 15 of a return from Ride-through: the factors are restored, Idle is entered, EV_RIDE_END and EV_MODE follow (R209). -/
def State.rideReturned (s : State) : State :=
  let s1 := { s with
    rstc := { s.rstc with order := .none, rails := 15 }
    rd := { s.rd with state := .disarmed }
    pwr := { s.pwr with rideLast := 1 } }
  (((s1.factorsRestored).setMode .idle).rideEndEvent).raiseMode

/-- The S die is alive (step 13). -/
def State.sensorReleased (s : State) : State :=
  { s with
    haul := { s.haul with released := true }
    rd := { s.rd with state := .disarmed } }.sensorPowered

/-- A phase that the test of step 6 finds open is removed like any other: logged, counted and reported (R238, R244). AON records carry no
timebase stamps (R266), so while the timebase stands the stamp is a free value (log entry 2). -/
def State.phaseLostAtTest (level n : Nat) (s : State) (i : Nat) : State :=
  let s1 := ((s.logEntry 0x0006 [BitVec.ofNat 8 i, 0#8, BitVec.ofNat 8 n]).count 9)
  ({ s1 with freeCtr := s.freeCtr + 2 }).raiseEv
    { code := 0x0E, status := 0, target := none, only := none, forced := none,
      data := [BitVec.ofNat 8 i, 0#8, BitVec.ofNat 8 n, BitVec.ofNat 8 level],
      time := if s.tb.running then s.tb.now
        else (Config.freeValue s.freeCtr).toNat + 2 ^ 32 * (Config.freeValue (s.freeCtr + 1)).toNat }

/-- The test of step 6 leaves the phases that pass; each one that was in service and fails is reported; with two left, level 3 is in
force (R238, R239, R244). -/
def State.phasesTested (phases : Nat) (s : State) : State :=
  let s1 := (s.onPwr (Pwr.phaseTest phases)).levelRaised s.level
  ((List.range 4).filter (fun i => s.pwr.healthy.testBit i && !phases.testBit i)).foldl
    (State.phaseLostAtTest s.level (phasesIn (phases % 16))) s1

/-- The present step's condition is met (R115, R116, R838). -/
def State.stepComplete (i : StepInfo) (s : State) : State :=
  if !s.stepRuns then s
  else match s.rstc.step with
    | 2 => if s.stillHot ((i.temps.drop 2).take 4) then s.hotAgain else s.stepDone 2
    | 6 => if phasesIn (i.phases % 16) < 2 then s.stepFails else (s.phasesTested i.phases).stepDone 6
    | 7 => (s.optionLoad i.straps).stepDone 7
    | 8 => s.pllLocked.stepDone 8
    | 10 => s.startCore s.imageToRun
    | 11 => (s.recallStep i.lost).stepDone 11
    | 13 => if s.stillHot (i.temps.take 2) then s.hotAgain else s.sensorReleased.stepDone 13
    | 14 => s
    | 15 => if s.rstc.order = .rideReturn then s.rideReturned else s
    | k => s.stepDone k

/-- RELEASE_STEP_COMPLETE (R115). -/
def execReleaseStepComplete (i : StepInfo) (s : State) : Out := live s (State.stepComplete i)

/-- RELEASE_GAP_EXPIRY: the next step begins (R115). -/
def execReleaseGapExpiry (s : State) : Out :=
  live s (fun t => if t.rstc.order ≠ .none && t.rstc.inGap && t.pwr.walk = .none && !t.rstc.resetnLow then t.stepNext t.rstc.step else t)

/-- RELEASE_STEP_LIMIT_EXPIRY: steps 1 to 9 are retried (R145); with no valid header at step 10 the start ends as R148 states.
DESIGN CHOICE (log entry 17): the rules name no consequence of a limit that expires at step 11, 12 or 13, and the model lets the step
stand, so that BOOT_TIMEOUT ends the start (R140). -/
def execReleaseStepLimitExpiry (s : State) : Out :=
  live s (fun t =>
    if !t.stepRuns then t
    else if t.rstc.step < 10 then t.stepFails
    else if t.rstc.step = 10 then t.startCore none
    else t)

/-- The next attempt begins at the first step that the start performs (R145, R160, R179). -/
def State.retry (s : State) : State :=
  (s.onRstc (fun r => { r with
    attempt := r.attempt + 1
    wakeAttempts := if r.order.isWake then r.attempt + 1 else r.wakeAttempts })).stepBegins (firstStep s.rstc.order s.rstc.rails)

/-- STEP_RETRY_BACKOFF_EXPIRY (R145). -/
def execStepRetryBackoffExpiry (s : State) : Out :=
  live s (fun t => if t.rstc.order ≠ .none && t.rstc.backoff && !t.rstc.resetnLow then t.retry else t)

/-- FAILED_START_WAIT_EXPIRY: a SYSTEM order with cause RAIL_FAULT (R146). -/
def execFailedStartWaitExpiry (s : State) : Out :=
  live s (fun t => if t.rstc.waiting = .failedStart && t.pwr.walk = .none then t.systemStart 5 false false else t)

/-! ## BOOT_OK (R139, R144, R155 to R157, R183, R191, R893, R934) -/

/-- The firmware may post BOOT_OK: at step 15 of an order, or after a CORE reset. -/
def State.bootable (s : State) : Bool :=
  s.coreServes && !s.rstc.bootOk && s.pwr.mode ≠ .ledge
    && (s.rstc.order = .none || (s.rstc.step = 15 && s.stepRuns && s.rstc.order ≠ .rideReturn))

/-- The first BOOT_OK of a trial image confirms it (R934). -/
def State.trialConfirms (s : State) : State :=
  if s.cfl.trial && s.cfl.running = s.cfl.nextImg then
    (s.select (fun c => { c with confirmed := c.nextImg, trial := false })).logEntry 0x000B [BitVec.ofNat 8 s.cfl.nextImg, 1#8]
  else s

/-- What the log takes before BOOT_OK (R191, R803, R954). -/
def State.bootLog (s : State) : State :=
  ((((s.logIf s.pwr.downFault.valid 0x0002 (le 4 s.pwr.downFault.word)).logIf s.wdg.unlogged 0x0003
    (le 4 s.wdg.evidenceWord ++ le 4 s.wdg.lastPc)).logIf (s.rstc.lastCause = 4) 0x0005 (le 1 s.thm.tripSensor)).logIf
    (s.rstc.optBad ≠ 0) 0x000F (le 1 s.rstc.optBad)).logStart s.rstc.failCount |>.onWdg (fun w => { w with unlogged := false })

/-- The order ends with the readout ready and its factors restored; with no lane trained the factors are skipped (R115, R327, R363). -/
def State.readoutReady (s : State) : State :=
  let s1 := s.onRd (fun r => { r with state := .disarmed })
  if s.haul.noLane then s1 else s1.factorsRestored

/-- The firmware posts BOOT_OK. -/
def State.postBoot (s : State) : State :=
  let kind := s.rstc.order
  let s1 := ((s.bootLog).onRstc (fun r => { r with
      bootOk := true
      failCount := 0
      order := .none
      rails := if kind = .none then r.rails else 15
      faultn := some true
      padsDriven := true
      wakeResult := if kind.isWake then false else r.wakeResult })).storeRing0
  let s2 := (if kind = .none then s1 else s1.readoutReady).trialConfirms.background .runMarker
  let s3 := if kind = .powerOn || kind = .system then s2.background .counters else s2
  if kind = .none then s3.bootEvents s.rstc.failCount false else (s3.setMode .idle).bootEvents s.rstc.failCount true

/-- BOOT_OK (R155). -/
def execBootOk (s : State) : Out := live s (fun t => if t.bootable then t.postBoot else t)

/-- BOOT_TIMEOUT: a SYSTEM reset, and a failed start is counted (R140, R621). -/
def execBootTimeout (s : State) : Out :=
  live s (fun t => if t.coreServes && !t.rstc.bootOk && t.pwr.mode ≠ .ledge then (t.count 4).systemReset 9 false else t)

/-! ## The end of a core outage (R112, R113, R148, R175, R767, R783, R938) -/

/-- The host watchdog waits for a core release after a reset that it caused, not for a packet after a standby or Ride-through (R212,
R798). -/
def State.hostAwaitsCore (s : State) : Bool :=
  s.rstc.outageCause = 7 || (s.wdg.host.suspended && !s.pwr.hostDogStops && !s.sess.firstPacketDue)

/-- The watchdogs at core release: the firmware's runs an opening period, the host's resumes with one after a reset that it caused; the
release after a watchdog-caused CORE reset is the one that R790 counts from (R767, R783, R798). -/
def State.dogsReleased (s : State) : State :=
  s.onWdg (fun w =>
    { w with
      fw := w.fw.release s.tb.now
      host := if s.hostAwaitsCore then w.host.resume s.tb.now else w.host
      coreRelease := if s.rstc.outageCause = 6 || s.rstc.outageCause = 7 then some s.tb.now else w.coreRelease })

/-- Unit resets that ended during the outage are answered OK (R175). -/
def State.unitsAnswered (s : State) : State :=
  (s.sess.flights.filter (fun f => match f.st with
    | .waiting (.unit c) => (s.rstc.unitBusy.map (·.1)) ≠ some c
    | .waiting (.frameEnd _) => false
    | .waiting (.slot _) => false
    | .waiting .reg => false
    | .queued => false
    | .running => false
    | .deferred _ _ _ => false
    | .answered => false
    | .held => false)).foldl (fun t f => t.answerOpen f stOk []) s

/-- A changed watchdog reset count goes to the ring before any other store (R793). -/
def State.ringAfter (s : State) : State := if s.rstc.outageCause = 6 || s.rstc.outageCause = 7 then s.storeRing0 else s

/-- The restarted core serves again: EV_CORE_RESTART, then the ends of what it had started (R112, R113, R938); with no valid image the
module enters Ledge. -/
def State.outageEnds (s : State) : State :=
  let s1 := ((s.onRstc (fun r => { r with outage := false })).onTb (fun b => { b with firstComp := true })).ringAfter
  if s.pwr.mode ≠ .ledge && s.imageToRun.isNone then
    ((((s1.coreCuts).stopReadout stFailAborted).convFrameEnd).actCut stFailAborted s.tb.now).enterLedge 4
  else ((((s1.dogsReleased).raise 0x16 [BitVec.ofNat 8 s.rstc.outageCause, 0#8, 0#8, 0#8]).coreCuts).unitsAnswered).reevaluate

/-- CORE_OUTAGE_END (R938). -/
def execCoreOutageEnd (s : State) : Out := live s (fun t => if t.rstc.coreUp && t.rstc.outage then t.outageEnds else t)

/-! ## RESETN (R129 to R132) -/

/-- A low pulse counts as a reset from 2.2 µs and not below 2.0 µs; between the two a free value decides. -/
def State.resetnTaken (width : Nat) (s : State) : Bool :=
  2200 ≤ width || (2000 ≤ width && (Config.freeValue s.freeCtr).getLsbD 0)

/-- RESETN_ASSERT (R129, R130): taken whatever the ratings, since it is what the board does to leave them (R946). -/
def execResetnAssert (width : Nat) (s : State) : Out :=
  if s.rstc.resetnLow then .next s
  else
    let t := { s with freeCtr := s.freeCtr + 1 }
    if s.resetnTaken width then .next ((t.onRstc (fun r => { r with resetnLow := true })).systemReset 2 false) else .next t

/-- RESETN_RELEASE: the SYSTEM order begins (R132). -/
def execResetnRelease (s : State) : Out := .next ((s.onRstc (fun r => { r with resetnLow := false })).tryBegin)

/-! ## Wake (R158 to R164) -/

/-- A wake starts from the standby state: its first step, its first attempt (R117, R179, R212, R783). -/
def State.wakeStarts (aonTicks : Nat) (s : State) : State :=
  let o := if s.pwr.mode = .keepWarm then Order.wakeKeepWarm else .wakeKeep
  ({ s with
    rstc := { s.rstc with
      order := o
      attempt := 1
      rails := standbyRails o
      wakeFailStep := 0
      wakeRail := 0
      wakeAttempts := 1
      bootOk := false }
    tb := { s.tb with standbyTicks := max s.tb.standbyTicks aonTicks }
    sess := { s.sess with firstPacketDue := true } }).tryBegin

/-- WAKE_QUALIFIED (R44, R158). -/
def execWakeQualified (aonTicks : Nat) (s : State) : Out :=
  live s (fun t =>
    if (t.pwr.mode = .keep || t.pwr.mode = .keepWarm) && t.rstc.wakeArmed && t.rstc.order = .none && t.pwr.walk = .none then
      t.wakeStarts aonTicks
    else t)

/-- WAKE_DETECTOR_REARM (R163). -/
def execWakeDetectorRearm (s : State) : Out := live s (State.onRstc (fun r => { r with wakeArmed := true }))

/-! ## Clocks (R254 to R265, R817, R818) -/

/-- A clock is lost (R262, R263, R265). -/
def State.clockLoss (s : State) : State := if s.pwr.mode = .powerDown then s.clockLossDown else s.systemReset 3 false

/-- PLL_LOCK_LOSS: 2 µs out of lock after step 8 (R262). -/
def execPllLockLoss (widthNs : Nat) (s : State) : Out :=
  live s (fun t => if 2000 ≤ widthNs && 8 ≤ t.rstc.rails then t.clockLoss else t)

/-- The clock monitor watches: from step 9 of an order to step 8 of the next Power-down (R263). -/
def State.clockWatched (s : State) : Bool := 9 ≤ s.rstc.rails || (s.stepRuns && s.rstc.step = 9)

/-- CLOCK_MONITOR_WINDOW: fewer than 17 or more than 33 toggles (R263). -/
def execClockMonitorWindow (toggles : Nat) (s : State) : Out :=
  live s (fun t => if (toggles < 17 || 33 < toggles) && t.clockWatched then t.clockLoss else t)

/-- A sensor is valid now (R813, R814): its reading is there and its bit is clear. -/
def Thm.validNow (t : Thm) (n : Nat) : Bool := !t.invalid.testBit n && (t.readings.getD n none).isSome

/-- The correction moves to its target, by at most 0.05 ppm after the first update (R255 to R257). DESIGN CHOICE (log entry 160): an
update that an invalid reading holds is not the first update of R256, so the next valid one still applies its full target. -/
def Tbase.compensate (valid : Bool) (target : Int) (b : Tbase) : Tbase :=
  if valid then
    { b with
      compHold := false
      target := target
      corr := if b.firstComp then target else b.corr + clamp (-5) 5 (target - b.corr)
      firstComp := false }
  else { b with compHold := true }

/-- The held reading of a sensor in 1/64 °C, 0 where there is none. -/
def Thm.reading (t : Thm) (n : Nat) : Int := (t.readings.getD n none).getD 0

/-- The target correction in 0.01 ppm: the factory curve at sensor 6, plus REF_TRIM (R254, R285). -/
def State.compTarget (s : State) : Int := saturate 16 (Config.refCurve (s.thm.reading 6) + s.psto.opt.refTrim)

/-- One update of the compensation and of the reference trims (R254, R818). -/
def State.compUpdate (bias cdie pdie : Int) (s : State) : State :=
  s.onTb (fun b =>
    { b.compensate (s.thm.validNow 6) s.compTarget with
      biasTrim := if s.thm.validNow 1 then bias else b.biasTrim
      cdieTrim := if s.thm.validNow 6 then cdie else b.cdieTrim
      pdieTrim := if s.thm.validNow 7 then pdie else b.pdieTrim })

/-- COMPENSATION_UPDATE: while the core serves; a core outage holds everything (R258, R938). The trims of the references are operands: the
spec says which sensor each follows and not how (R818, log entry 158). -/
def execCompensationUpdate (tick : Nat) (bias cdie pdie : Int) (s : State) : Out :=
  live s (fun t => if t.coreServes then (t.atTick tick).compUpdate bias cdie pdie else t)

/-- AON_TRIM: the prescaler is trimmed while REF runs (R259, R260). -/
def execAonTrim (trim : Nat) (s : State) : Out :=
  live s (fun t => if 3 ≤ t.rstc.rails then t.onTb (fun b => { b with aonTrim := trim, aonCal := true }) else t)

end Sys2Proof.Machine
end

