-- ==== Sys2Proof/Machine/Firmware.lean ====
section
/-!
DEFINITION. Firmware images: FW_INFO, FW_WRITE, FW_VERIFY, FW_ACTIVATE, LEDGE_EXIT and the ends of writes and verifications
(spec/12_command_catalogue.md R630 to R633, spec/18_firmware_security_background.md R919 to R937, spec/03_reset_and_bring_up.md
R151 to R154).
-/

namespace Sys2Proof.Machine

open Sys2Proof

/-- An image by number. -/
def Cfl.image (c : Cfl) (i : Nat) : Image := c.images.getD i Image.empty

/-- Version and state of an image as FW_INFO gives them (R630). -/
def Image.infoBytes (x : Image) : List Byte :=
  le 1 x.header.version.1 ++ le 1 x.header.version.2.1 ++ le 1 x.header.version.2.2 ++ le 1 x.state

/-- RESULT of FW_INFO (R630). -/
def State.infoResult (s : State) : List Byte :=
  le 8 s.psto.opt.serial ++ le 1 s.cfl.running ++ le 1 s.cfl.nextImg ++ (s.cfl.image 0).infoBytes ++ (s.cfl.image 1).infoBytes
    ++ le 2 s.fwCompat ++ List.replicate 4 0#8

/-- FW_INFO (R630). In Ledge FW_COMPAT is a free value, and the next one is another. -/
def execFwInfo (h : Hdr) (s : State) : Out :=
  live s (serve h 0x70 (.fwInfo h) (fun _ => Gate.plain 3)
    (fun t => { t.answer h 0x70 stOk t.infoResult with freeCtr := if t.cfl.running < 2 then t.freeCtr else t.freeCtr + 1 }))

/-! ## FW_WRITE (R631, R632, R923 to R926) -/

/-- R630, R632, R924, R926. -/
def fwWriteGate (image offset : Nat) (bytes : List Byte) (s : State) : Gate where
  params := [(0, 1 < image),
    (2, 4194304 ≤ offset || (offset ≠ 0 && offset ≠ (s.cfl.image image).written)),
    (6, bytes.length = 0 || 1016 < bytes.length || (offset < 4194304 && 4194304 < offset + bytes.length))]
  tier := 0
  owner := none
  state := if image = s.cfl.running then some stState else if s.pwr.covers needFlash then none else some stEnergy

/-- A write at offset 0 marks the image invalid and erases its directory (R631, R923). -/
def Image.restart (x : Image) : Image :=
  { x with
    dirState := 0
    verState := 0
    written := 0
    erased := []
    tabulated := []
    badBlocks := []
    factory := none }

/-- A block is erased at its first touch (R631). -/
def Image.touch (b : Nat) (x : Image) : Image :=
  if x.erased.contains b then x else { x with bytes := cellErase x.bytes (65536 * b) 65536, erased := x.erased ++ [b] }

/-- Bytes written at the next offset; the blocks they touch are erased first (R631). -/
def Image.put (offset : Nat) (bytes : List Byte) (x : Image) : Image :=
  let y := (x.touch (offset / 65536)).touch ((offset + bytes.length - 1) / 65536)
  { y with bytes := cellSetRun y.bytes offset bytes, written := offset + bytes.length }

/-- DIR_STATE valid, VER_STATE absent: state 0x01 (R631, R923). -/
def Image.writtenState (x : Image) : Image := { x with dirState := 1, verState := 0 }

/-- The read-back of a completed block matches: its entry is programmed (R925). -/
def Image.tabulate (b : Nat) (x : Image) : Image :=
  if x.tabulated.contains b then x else { x with tabulated := x.tabulated ++ [b] }

/-- Entries of completed blocks that lacked the energy for their program are programmed before the writing goes on (DESIGN CHOICE, log
entry 173: R926 keeps the bytes valid for a continuation). -/
def Image.catchUp (x : Image) : Image :=
  ((List.range (x.written / 65536)).filter (fun b => !x.badBlocks.contains b)).foldl (fun y b => y.tabulate b) x

/-- The image after the bytes of a write. -/
def Image.write (offset : Nat) (bytes : List Byte) (x : Image) : Image :=
  if offset = 0 then x.restart.put 0 bytes else x.catchUp.put offset bytes

/-- An FW_WRITE in flight ends with the read-back of the block it completed; the program of its entry needs energy (R925, R926). -/
def State.fwBlockDone (ok : Bool) (s : State) : State :=
  match s.cfl.fwWrite with
  | none => s
  | some (_, _, i) =>
    let b := (s.cfl.image i).doneBlock
    if !s.pwr.covers needFlash then s.fwWriteEnds stEnergy
    else if ok then (s.onCfl (Cfl.onImage i (fun x => (x.tabulate b).writtenState))).fwWriteEnds stOk
    else (s.onCfl (Cfl.onImage i (fun x => { x.spoil b with dirState := 2 }))).fwWriteEnds stFailHw

/-- The entry of a last partial block is completed, its unwritten bytes counting as 0xFF (R927). -/
def Image.lastBlock (x : Image) : Image := if x.written % 65536 = 0 then x else x.tabulate (x.written / 65536)

/-- An FW_VERIFY in flight ends with the outcome of its checks (R927, R928); what it programs is a store, which needs energy and is not
begun in Ride-through (R202, R228, R229). -/
def State.fwVerified (s : State) : State :=
  match s.cfl.fwVerify with
  | none => s
  | some (_, _, i) =>
    if s.pwr.mode = .ride then s.fwVerifyEnds stFailAborted else if !s.pwr.covers needFlash then s.fwVerifyEnds stEnergy else
    let s1 := s.onCfl (Cfl.onImage i Image.lastBlock)
    match s1.verifyFails i with
    | none => (s1.onCfl (Cfl.onImage i (fun x => { x with verState := 1 }))).fwVerifyEnds stOk
    | some reason =>
      ((s1.onCfl (Cfl.onImage i (fun x => { x with verState := 2 }))).logEntry 0x000B
        [BitVec.ofNat 8 i, 3#8, BitVec.ofNat 8 reason]).fwVerifyEnds stFailVerify

/-- The one operation on the images that is in flight ends before the next begins. -/
def State.fwSettled (s : State) : State := (s.fwBlockDone true).fwVerified

/-- The bytes are written; a write that completes a block stays in flight until the block is read back (R925). -/
def fwWriteBody (h : Hdr) (image offset : Nat) (bytes : List Byte) (s : State) : State :=
  let s0 := s.fwSettled
  let s1 := ((s0.onCfl (Cfl.onImage image (Image.write offset bytes))).accept h 0x71).onCfl
    (fun c => { c with fwWrite := some (h.session, h.tag, image) })
  if offset / 65536 = (offset + bytes.length) / 65536 then (s1.onCfl (Cfl.onImage image Image.writtenState)).fwWriteEnds stOk
  else s1

/-- FW_WRITE (R923). -/
def execFwWrite (h : Hdr) (image offset : Nat) (bytes : List Byte) (s : State) : Out :=
  live s (serve h 0x71 (.fwWrite h image offset bytes) (fwWriteGate image offset bytes) (fwWriteBody h image offset bytes))

/-- FW_WRITE_BLOCK_DONE (R925). -/
def execFwWriteBlockDone (readBackOk : Bool) (s : State) : Out := live s (onCore (State.fwBlockDone readBackOk))

/-! ## FW_VERIFY (R927 to R930) -/

/-- R630, R632. -/
def fwVerifyGate (image : Nat) (s : State) : Gate where
  params := [(0, 1 < image)]
  tier := 0
  owner := none
  state := stateIf (image = s.cfl.running)

/-- FW_VERIFY (R927). -/
def execFwVerify (h : Hdr) (image : Nat) (s : State) : Out :=
  live s (serve h 0x72 (.fwVerify h image) (fwVerifyGate image)
    (fun t => ((t.fwSettled).accept h 0x72).onCfl (fun c => { c with fwVerify := some (h.session, h.tag, image) })))

/-- FW_VERIFY_DONE (R928). -/
def execFwVerifyDone (s : State) : Out := live s (onCore State.fwVerified)

/-! ## FW_ACTIVATE (R152, R632, R633, R933, R937) -/

/-- A save or an operation on the images is in flight (R937). -/
def Cfl.inFlight (c : Cfl) : Bool := c.save.isSome || c.fwWrite.isSome || c.fwVerify.isSome

/-- R630, R632, R633, R937. -/
def fwActivateGate (image later : Nat) (s : State) : Gate where
  params := [(0, 1 < image), (1, 1 < later)]
  tier := 0
  owner := none
  state :=
    if image = s.cfl.running || (later = 0 && s.cfl.inFlight) then some stState
    else if (s.cfl.image image).state = 2 then none else some stFailVerify

/-- NEXT names the image, on trial; "now" is a CORE reset after the reply, but not in Ledge (R152, R933). -/
def fwActivateBody (h : Hdr) (image later : Nat) (s : State) : State :=
  let s1 := (s.select (fun c => { c with nextImg := image, trial := true, activations := (c.activations + 1) % 2 ^ 32 })).answer
    h 0x73 stOk []
  if later = 0 && s.pwr.mode ≠ .ledge then s1.coreReset 0xD else s1

/-- FW_ACTIVATE (R933). -/
def execFwActivate (h : Hdr) (image later : Nat) (s : State) : Out :=
  live s (serve h 0x73 (.fwActivate h image later) (fwActivateGate image later) (fwActivateBody h image later))

/-! ## LEDGE_EXIT (R153, R154) -/

/-- Refused when neither option-row copy, or neither image, would be accepted (R153). -/
def ledgeExitGate (s : State) : Gate where
  params := []
  tier := 0
  owner := none
  state := stateIf ((s.psto.badA && s.psto.badB) || (!s.imageBoots 0 && !s.imageBoots 1))

/-- The failed-start count and the watchdog reset count are 0 (R154). -/
def State.countsCleared (s : State) : State :=
  ((s.onRstc (fun r => { r with failCount := 0 })).onWdg (fun w => { w with count := 0 })).storeRing0

/-- LEDGE_EXIT (R154). -/
def execLedgeExit (h : Hdr) (s : State) : Out :=
  live s (serve h 0x76 (.ledgeExit h) ledgeExitGate
    (fun t => ((t.answer h 0x76 stOk []).countsCleared).systemStart 0xE false false))

end Sys2Proof.Machine
end

