-- ==== Sys2Proof/Machine/Starts.lean ====
section
/-!
DEFINITION. Frame starts: their acceptance, S_0 and the truncation in resynchronise mode, the starts of a gang, and what the end of
a frame does (spec/13_triggers_encoder_gang.md R641 to R651 and R683 to R690, spec/06_sensor_die_readout.md R307,
spec/12_command_catalogue.md R603 to R608).
-/

namespace Sys2Proof.Machine

open Sys2Proof

/-! ## The end of a frame -/

/-- A stream that waits for its frame's end halts, closed if asked; a FRAME_SNAP in progress ends early. In a core outage the core's
part waits (R603, R608, R938). -/
def State.streamHalts (s : State) (i : Nat) : State :=
  let x := s.stream i
  if x.haltDue && !x.inFrame then
    let s1 := if s.coreServes then s.endSnap i stFailAborted else s
    let s2 := s1.onStream i (fun y =>
      if x.closeDue then y.closed else { y.halted with snap := if s.coreServes then none else x.snap })
    let s3 := (s2.answerFrameEnd i).mirrorClosed
    if x.closeDue then s3.reevaluate else s3
  else s

/-- A gang whose settings disagree is ARMED again at the end of the frame in transfer (R692). -/
def State.gangFrameEnd (s : State) : State :=
  s.onGang (fun g => if g.toArmed then { g with state := if g.state = 3 then 2 else g.state, toArmed := false, lastStart := none } else g)

/-- What the end of the frame in transfer, complete or cut, brings about. -/
def State.frameEnds (s : State) : State :=
  let s1 := (List.range 16).foldl State.streamHalts (s.onRd (fun r => { r with frameOpen := false }))
  ((s1.settle).gangFrameEnd).convFrameEnd

/-! ## Truncation by a start (R649) -/

/-- A frame is cut on one stream: end marker, EV_FRAME_DROP with cause 0x01, counted; the stream keeps running. -/
def State.cutStream (number rows : Nat) (s : State) (i : Nat) : State :=
  ((s.sendStream i (.endMarker (endMarkerBytes number rows))).raiseDrop i 1 number).onStream i
    (fun y => { y with dropped := satAdd 0xFFFFFFFF y.dropped 1, inFrame := false })

/-- Streams that carry the frame in transfer. -/
def State.carriers (s : State) : List Nat := (List.range 16).filter (fun i => (s.stream i).inFrame)

/-- The previous frame is cut on every stream that carries it. -/
def State.cutFrame (s : State) : State :=
  match s.rd.next with
  | some f =>
    (((f.streams.filter (fun i => (s.stream i).running && f.number % (s.stream i).decim = 0)).foldl
      (fun t i => State.cutStream f.number 0 (t.imageHeader i) i) s).onRd
      (fun r => { r with next := none })).onAct (fun a =>
        { a with events := a.events.map (fun e => { e with late := e.late || f.s0 ≤ e.time }) })
  | none =>
    if s.rd.frameOpen then
      ((((s.carriers).foldl (State.cutStream s.rd.present s.rd.delivered) s).frameEnds).onRd (fun r => { r with testSums := noSums })).onAct
        Act.eventsLate
    else s

/-! ## Acceptance (R644 to R651) -/

/-- S_0 of a row-aligned start: the first grid instant at or after t + 35 ticks (R644). -/
def Rd.gridAt (t : Nat) (r : Rd) : Nat :=
  let g := if r.anyFrame then r.sPrev else r.gridOrigin
  g + ceilDiv (t + 35 - g) r.rt * r.rt

/-- S_0 that a start with stamp t produces (R644, R646, R686). -/
def State.placeStart (s : State) (t : Nat) : Nat :=
  if 2 ≤ s.gang.state then t + 300 else if s.trig.cfg.mode = 1 then t + 40 else s.rd.gridAt t

/-- S_0 of the previous frame: that of an accepted start, else of the latest frame. -/
def Rd.previous (r : Rd) : Option Nat :=
  match r.nextS0 with
  | some x => some x.1
  | none => if r.anyFrame then some r.sPrev else none

/-- The start comes before S_prev + P (R648). -/
def Rd.isEarly (s0 : Nat) (r : Rd) : Bool :=
  match r.previous with
  | some p => s0 < p + r.period
  | none => false

/-- C of R649. -/
def Rd.clearTime (r : Rd) : Nat := (r.count + 24) * r.rt + r.int + 40

/-- The start cuts the previous frame (R649, R650, R686). -/
def State.cuts (s : State) (s0 : Nat) : Bool :=
  (2 ≤ s.gang.state || s.trig.cfg.mode = 1) && s.rd.anyFrame && s0 < s.rd.sPrev + s.rd.clearTime

/-- An early start is counted and starts nothing (R648, R695). -/
def State.startEarly (s : State) : State := s.onTrig (fun x => { x with early := satAdd 0xFF x.early 1 })

/-- The start is accepted: counted; fires that refer to the next trigger have their instant (R651, R695, R736). -/
def State.startTaken (t s0 number : Nat) (s : State) : State :=
  (((if s.cuts s0 then s.cutFrame else s).onRd (fun r => { r with nextS0 := some (s0, t, number), skipNext := r.throttled })).onTrig
    (fun x => { x with accepted := (x.accepted + 1) % 0x10000 })).releaseSchedules (fun x => x.ref = 1) t

/-- The leader of a gang sends START at t + 50 ticks and counts the frame (R685). -/
def State.gangStarts (t : Nat) (s : State) : State :=
  if s.gang.state = 3 then
    (s.onGang (fun g => { g with counter := (g.counter + 1) % 2 ^ 32, lastStart := some t })).onCxp (Cxp.emit [.gangStart (t + 50)])
  else s

/-- A start request that the readout may take (R307, R648 to R651, R685, R688): every second one is discarded under the frame-rate
step. -/
def State.acceptStart (t : Nat) (s : State) : State :=
  let s0 := s.placeStart t
  if s.rd.isEarly s0 then s.startEarly
  else if s.rd.throttled && s.rd.skipNext then s.onRd (fun r => { r with skipNext := false })
  else (s.startTaken t s0 (if s.gang.state = 3 then s.gang.counter else s.rd.frameNumber)).gangStarts t

/-- A start request with its source and stamp: nothing while the readout is disarmed (R641, R643), while a calibration's free-run
readout is armed (R446), or while the module is in an ARMED or RUNNING gang that it does not lead (R689); a leader's counts while the
gang is RUNNING (R683, R685). -/
def State.startRequest (src t : Nat) (s : State) : State :=
  if s.rd.isArmed && !s.rd.forCal && s.trig.cfg.source = src
      && (s.gang.state < 2 || (s.leads && s.gang.state = 3 && !s.gang.toArmed)) then s.acceptStart t
  else s

end Sys2Proof.Machine
end

