-- ==== Sys2Proof/Machine/Gang.lean ====
section
/-!
DEFINITION. The Gang bus: GANG_CONFIG to GANG_STATUS, the cycle, joining and leaving, gang starts and the agreement items
(spec/13_triggers_encoder_gang.md R669 to R694, spec/05_clocks_and_timebase.md R273 and R274, spec/12_command_catalogue.md R625 to
R628).
-/

namespace Sys2Proof.Machine

open Sys2Proof

/-! ## Members -/

/-- Mask bit of this module. -/
def State.ownBit (s : State) : Nat := 2 ^ s.trig.gangId

/-- The lowest identity in a mask (R675). -/
def lowestIn (m : Nat) : Nat := ((List.range 8).find? (fun k => m.testBit k)).getD 0

/-- A mask without some of its bits. -/
def without (m k : Nat) : Nat := m - (m &&& k)

/-- Admitted members in a mask of another. -/
def membersIn (m : Nat) : List Nat := (List.range 8).filter (fun k => m.testBit k)

/-- This module's message (R671). -/
def State.gangMsg (s : State) (tb : Nat) (reply : Option Nat) : GangMsg where
  id := s.trig.gangId
  leader := s.leads
  tb := tb
  counter := s.gang.counter
  state := s.gang.state
  present := s.gang.present
  agree := s.gang.agree
  hash := s.configHash
  compat := s.fwCompat
  delay := 0
  reply := reply

/-- The message goes out in its slot; a leader's carries the measured delays. -/
def State.sendGangMsg (tb : Nat) (reply : Option Nat) (s : State) : State :=
  s.onCxp (Cxp.emit [.gangMessage (s.gangMsg tb reply) (if s.leads then s.gang.memberDelays else [])])

/-! ## The timebase of a member (R273, R274, R693, R768) -/

/-- A watchdog counts clock cycles, so its instants move with the timebase. -/
def Dog.shift (n : Int) (d : Dog) : Dog :=
  { d with start := ((d.start : Int) + n).toNat, keyA := d.keyA.map (fun k => (k.1, ((k.2 : Int) + n).toNat)) }

/-- The timebase advances by a number of ticks where the clock advanced by another. -/
def State.tbAdjust (ticks clocks : Nat) (s : State) : State :=
  (s.onTb (fun b => { b with now := (b.now + ticks) % 2 ^ 64 })).onWdg (fun w =>
    { w with host := w.host.shift ((ticks : Int) - clocks), fw := w.fw.shift ((ticks : Int) - clocks) })

/-- A forward step (R273). -/
def State.tbStep (n : Nat) (s : State) : State := s.tbAdjust n 0

/-- A slew begins or ends (R274). -/
def State.setSlew (v : Option Bool) (s : State) : State :=
  (s.onGang (fun g => { g with slew := v })).onTb (fun b => { b with slewing := v.isSome })

/-- The slew that an offset asks for: by 2 when behind, by 0 when ahead (R693). -/
def slewFor (offset : Int) : Option Bool := if offset.natAbs ≤ 10 then none else some (offset < 0)

/-- GANG_SLEW_PERIOD (R273). -/
def execGangSlewPeriod (s : State) : Out :=
  live s (fun t => match t.gang.slew with
    | some fast => if t.tb.running then t.tbAdjust (if fast then 2 else 0) 1 else t
    | none => t)

/-! ## The gang state (R683, R684) -/

/-- A member's readout arms with the gang. -/
def State.memberArms (s : State) : State :=
  if s.rd.state = .disarmed then (s.rdArmed .readoutArm).enter .run else s

/-- It disarms with the gang, at the end of the frame in transfer. -/
def State.memberDisarms (s : State) : State :=
  if s.rd.isArmed && !s.rd.forCal then s.haltAllAtEnd else s

/-- A member takes the gang state over. -/
def State.gangFollows (st : Nat) (s : State) : State :=
  let s1 := s.onGang (fun g => { g with state := st, toArmed := false, lastStart := none, leaderState := st })
  if 2 ≤ st && s.gang.state < 2 then s1.memberArms
  else if st < 2 && 2 ≤ s.gang.state then s1.memberDisarms
  else s1

/-- A leader in ARMED enters RUNNING when every expected member is present and in agreement (R684). -/
def State.gangSettles (s : State) : State :=
  if s.leads && s.gang.state = 2 && s.gang.complete then s.onGang (fun g => { g with state := 3, lastStart := none }) else s

/-! ## GANG_CONFIG to GANG_STATUS (R625, R627, R676, R680) -/

/-- The gate of GANG_CONFIG (R24, R627). -/
def gangConfigGate (h : Hdr) (rule : Nat) (s : State) : Gate where
  params := [(1, 1 < rule)]
  tier := 2
  owner := s.sess.claimedBy h.session [0x17]
  state := stateIf (1 < s.gang.state)

/-- RESULT carries the hash after the change. -/
def gangConfigBody (h : Hdr) (members rule : Nat) (s : State) : State :=
  let s1 := s.onGang (fun g => { g with expected := members, rule := rule })
  s1.answer h 0x53 stOk (le 4 s1.configHash)

/-- GANG_CONFIG (R625). -/
def execGangConfig (h : Hdr) (members rule : Nat) (s : State) : Out :=
  live s (serve h 0x53 (.gangConfig h members rule) (gangConfigGate h rule) (gangConfigBody h members rule))

/-- The gate of GANG_JOIN (R627); a join that is in flight already is not joined by a second one. -/
def gangJoinGate (h : Hdr) (s : State) : Gate where
  params := []
  tier := 2
  owner := s.sess.claimedBy h.session [0x17]
  state := stateIf (1 < s.gang.state || s.gang.joiner.isSome)

/-- The module listens as no member (R676). -/
def gangJoinBody (h : Hdr) (s : State) : State :=
  (s.gangOut.onGang (fun g => { g with joining := .listening h.session h.tag })).accept h 0x54

/-- GANG_JOIN (R676). -/
def execGangJoin (h : Hdr) (s : State) : Out :=
  live s (serve h 0x54 (.gangJoin h) (gangJoinGate h) (gangJoinBody h))

/-- The gate of GANG_LEAVE (R627). -/
def gangLeaveGate (h : Hdr) (s : State) : Gate where
  params := []
  tier := 2
  owner := s.sess.claimedBy h.session [0x17]
  state := stateIf (s.gang.state = 0)

/-- GANG_LEAVE (R680). -/
def execGangLeave (h : Hdr) (s : State) : Out :=
  live s (serve h 0x55 (.gangLeave h) (gangLeaveGate h) (fun t => t.gangOut.answer h 0x55 stOk []))

/-- RESULT of GANG_STATUS (R625). -/
def State.gangResult (s : State) : List Byte :=
  le 1 s.gang.state ++ le 1 s.trig.gangId ++ le 1 s.gang.leader ++ le 1 s.gang.present ++ le 1 s.gang.agree ++ [0#8]
    ++ le 2 s.gang.slips ++ le 4 s.configHash ++ le 2 s.fwCompat ++ [0#8, 0#8] ++ leInt 4 s.gang.offset

/-- GANG_STATUS (R625). -/
def execGangStatus (h : Hdr) (s : State) : Out :=
  live s (serve h 0x56 (.gangStatus h) (fun _ => Gate.plain 3) (fun t => t.answer h 0x56 stOk t.gangResult))

/-! ## Joining (R676 to R679) -/

/-- A gang of one in IDLE, led by this module. -/
def Gang.found (id : Nat) (g : Gang) : Gang :=
  { g with state := 1, leader := id, present := 2 ^ id, agree := 2 ^ id, differs := 0, leaderState := 1 }

/-- GANG_JOIN_LISTEN_END (R676): the gang follows a readout that is armed already (R683). -/
def execGangJoinListenEnd (s : State) : Out :=
  live s (fun t => match t.gang.joining with
    | .listening _ _ =>
      ((t.onGang (Gang.found t.trig.gangId)).joinEnds stOk 0).onGang (fun g =>
        if t.rd.isArmed && !t.rd.forCal then g.arm else g)
    | .none => t
    | .requested _ _ => t
    | .aligning _ => t)

/-- The reason for which a leader refuses a join (R677). -/
def State.joinReason (r : GangJoinReq) (s : State) : Nat :=
  if r.compat ≠ s.fwCompat then 1
  else if s.gang.present.testBit r.id then 2
  else if !s.gang.expected.testBit r.id then 3
  else if r.id < s.trig.gangId && 2 ≤ s.gang.state then 4
  else if 400 < r.delay then 5
  else if s.tb.now + 100000 < r.tb && 2 ≤ s.gang.state then 6
  else 0

/-- A joiner is admitted: a lower identity leads from now on, and in IDLE the timebase steps to the largest (R675, R678). -/
def State.admitMember (r : GangJoinReq) (s : State) : State :=
  let s1 := s.onGang (fun g => { g with
    present := g.present ||| 2 ^ r.id
    memberDelays := g.memberDelays.modify r.id (fun _ => r.delay)
    leader := min g.leader r.id
    stepDue := g.stepDue || r.id < g.leader })
  if s.gang.state = 1 && s.trig.gangId < r.id && s.tb.now < r.tb then s1.tbStep (r.tb - s.tb.now) else s1

/-- GANG_JOIN_REQUEST (R677, R678, R694): the leader answers in its message; every member sees another FW_COMPAT. -/
def execGangJoinRequest (r : GangJoinReq) (s : State) : Out :=
  live s (fun t =>
    if t.gang.state = 0 then t
    else
      let t1 := if r.compat ≠ t.fwCompat then t.disagree 0x01 r.id r.compat else t
      if t.leads then
        let k := t.joinReason r
        (if k = 0 then t1.admitMember r else t1).sendGangMsg t.tb.now (some k)
      else t1)

/-- The leader admits this module (R676, R678, R679). -/
def State.admitted (m : GangMsg) (s : State) : State :=
  let present := m.present ||| s.ownBit
  let s1 := s.onGang (fun g => { g with
    state := m.state
    leader := if m.state = 1 then lowestIn present else m.id
    present := present
    agree := m.agree ||| s.ownBit
    differs := 0
    delay := m.delay
    counter := m.counter
    leaderState := m.state
    stepDue := true })
  let s2 := s1.joinEnds stOk 0
  if m.state = 1 then (if s2.leads && s.tb.now < m.tb then s2.tbStep (m.tb - s.tb.now) else s2)
  else s2.onGang (fun g => { g with state := 1, joining := .aligning m.state, agree := without m.agree s.ownBit })

/-- The leader's answer to this module's request. -/
def State.joinAnswered (m : GangMsg) (k : Nat) (s : State) : State :=
  if k = 0 then s.admitted m else (s.joinEnds stState k).gangOut

/-- GANG_JOINER_ALIGNED (R679). -/
def execGangJoinerAligned (s : State) : Out :=
  live s (fun t => match t.gang.joining with
    | .aligning st =>
      if t.gang.offset.natAbs ≤ 40 then
        (t.onGang (fun g => { g with joining := .none, agree := g.agree ||| t.ownBit })).gangFollows st
      else t
    | .none => t
    | .listening _ _ => t
    | .requested _ _ => t)

/-! ## SYNC and ACK (R669, R670, R672, R674, R676, R681, R682) -/

/-- GANG_CYCLE: SYNC and the leader's message (R669, R671, R684). -/
def execGangCycle (tick : Nat) (s : State) : Out :=
  live s (fun t =>
    if t.leads then ((t.atTick tick).gangSettles.onCxp (Cxp.emit [.gangSync tick])).sendGangMsg tick none else t)

/-- A member measures its offset, in ns, acknowledges, and steps when one is due and it is behind, else slews as the offset asks
(R674, R678, R679, R693). -/
def State.syncMeasured (stampNs leaderTb : Nat) (s : State) : State :=
  let o : Int := (stampNs : Int) - s.gang.delay - 10 * leaderTb
  let s1 := ((s.onGang (fun g => { g with offset := o, stepDue := false })).onCxp
    (Cxp.emit [.gangAck s.trig.gangId])).sendGangMsg s.tb.now none
  if s.gang.stepDue && o < 0 && s.gang.state ≠ 3 then (s1.setSlew none).tbStep (roundDiv o.natAbs 10) else s1.setSlew (slewFor o)

/-- The join request that answers a SYNC (R671, R676). -/
def State.joinRequest (s : State) : GangJoinReq :=
  { id := s.trig.gangId, compat := s.fwCompat, tb := s.tb.now, delay := 0 }

/-- GANG_SYNC_RECEIVED (R670, R674, R676). -/
def execGangSyncReceived (stampNs leaderTb : Nat) (s : State) : Out :=
  live s (fun t0 =>
    let t := t0.atTick (stampNs / 10)
    match t.gang.joining with
    | .listening session tag =>
      (t.onGang (fun g => { g with joining := .requested session tag })).onCxp (Cxp.emit [.gangJoin t.joinRequest])
    | .requested _ _ => t
    | .none => if t.gang.state ≠ 0 && !t.leads then t.syncMeasured stampNs leaderTb else t
    | .aligning _ => t.syncMeasured stampNs leaderTb)

/-- GANG_ACK_RECEIVED (R672): the leader measures a member's one-way delay, in ns. -/
def execGangAckReceived (id roundTripNs : Nat) (s : State) : Out :=
  live s (fun t =>
    if t.leads && id < 8 && t.gang.present.testBit id then
      t.onGang (fun g => { g with memberDelays := g.memberDelays.modify id (fun _ => roundDiv (roundTripNs - 400 - 200 * id) 2) })
    else t)

/-- A member is gone. -/
def Gang.drop (id : Nat) (g : Gang) : Gang :=
  { g with
    present := without g.present (2 ^ id)
    agree := without g.agree (2 ^ id)
    differs := without g.differs (2 ^ id) }

/-- GANG_ACK_MISSING (R681): the leader removes a member that it hears no more. -/
def execGangAckMissing (id : Nat) (s : State) : Out :=
  live s (fun t =>
    if t.leads && id ≠ t.trig.gangId && t.gang.present.testBit id then
      ((t.onGang (Gang.drop id)).disagree 0x05 id 0).gangSettles
    else t)

/-- The leader is gone: the lowest identity left leads, and the gang state is ARMED; the IDLE of a gang that is not armed stands
(R682, R683). -/
def State.leaderLost (s : State) : State :=
  let old := s.gang.leader
  let s1 := s.onGang (fun g =>
    let g1 := g.drop old
    { g1 with leader := lowestIn g1.present, state := min g.state 2, leaderState := min g.state 2, toArmed := false, lastStart := none })
  ((s1.disagree 0x06 s.trig.gangId old).setSlew none).gangSettles

/-- GANG_SYNC_MISSING (R682). -/
def execGangSyncMissing (s : State) : Out :=
  live s (fun t => if t.gang.state ≠ 0 && !t.leads then t.leaderLost else t)

/-! ## Agreement (R692, R694) -/

/-- A member's CONFIG_HASH differs: no gang starts, and a RUNNING gang is ARMED again at the end of the frame in transfer. -/
def State.configDiffers (id hash : Nat) (s : State) : State :=
  let s1 := if s.gang.differs.testBit id then s else s.disagree 0x02 id hash
  s1.onGang (fun g => { g with
    differs := g.differs ||| 2 ^ id
    agree := without g.agree (2 ^ id)
    toArmed := g.toArmed || (g.state = 3 && s.rd.frameOpen)
    state := if g.state = 3 && !s.rd.frameOpen then 2 else g.state
    lastStart := if g.state = 3 then none else g.lastStart })

/-- A member's CONFIG_HASH agrees. -/
def Gang.configAgrees (id : Nat) (g : Gang) : Gang := { g with differs := without g.differs (2 ^ id) }

/-- The timebase item: a slip is counted as an agreement ends; above 10 µs while RUNNING the member drops out. -/
def State.timeItem (s : State) : State :=
  if 10000 < s.gang.offset.natAbs && s.gang.state = 3 then (s.disagree 0x03 s.trig.gangId s.gang.offset).gangOut
  else if 40 < s.gang.offset.natAbs then
    s.onGang (fun g => { g with
      slips := if g.agree.testBit s.trig.gangId then satAdd 0xFFFF g.slips 1 else g.slips
      agree := without g.agree s.ownBit })
  else s.onGang (fun g => if g.differs.testBit s.trig.gangId then g else { g with agree := g.agree ||| s.ownBit })

/-- Own frame counter less the leader's, signed. -/
def counterLag (own leader : Nat) : Int := signed 32 (own + 2 ^ 32 - leader % 2 ^ 32)

/-- The state item. A change of the leader's state is followed; any other difference is a disagreement, which is adopted or ends the
membership by GANG_CONFIG. -/
def State.stateItem (m : GangMsg) (s0 : State) : State :=
  let s := if m.state ≠ s0.gang.leaderState then s0.gangFollows m.state else s0
  if m.counter = s.gang.counter && (m.state = s.gang.state || s.gang.differs ≠ 0) then s
  else
    let s1 := s.disagree 0x04 s.trig.gangId (counterLag s.gang.counter m.counter)
    if s.gang.rule = 0 then (s1.gangFollows m.state).onGang (fun g => { g with counter := m.counter }) else s1.gangOut

/-- Members that the leader no longer lists are lost; new ones in IDLE ask for a step (R678, R681). -/
def State.rollCall (m : GangMsg) (s : State) : State :=
  let lost := without s.gang.present (m.present ||| s.ownBit)
  let s1 := (membersIn lost).foldl (fun t k => (t.onGang (Gang.drop k)).disagree 0x05 k 0) s
  s1.onGang (fun g => { g with
    stepDue := g.stepDue || (m.state = 1 && without m.present g.present ≠ 0)
    present := m.present
    agree := without m.agree s.ownBit ||| (g.agree &&& s.ownBit)
    leader := m.id
    delay := m.delay })

/-- The leader's message at a member. -/
def State.leaderMessage (m : GangMsg) (s : State) : State :=
  if !m.present.testBit s.trig.gangId then s.gangOut
  else
    let s1 := s.rollCall m
    let s2 := if m.hash ≠ s.configHash then s1.configDiffers s.trig.gangId s.configHash
      else s1.onGang (Gang.configAgrees s.trig.gangId)
    let s3 := s2.timeItem
    if s3.gang.state = 0 then s3 else s3.stateItem m

/-- The leader's message at a joiner that is not aligned yet (R679). -/
def Gang.alignTo (m : GangMsg) (g : Gang) : Gang :=
  { g with joining := .aligning m.state, counter := m.counter, leaderState := m.state, leader := m.id, present := m.present }

/-- Another member's message: its hash concerns everyone, its counter and state the leader (R692). -/
def State.memberMessage (m : GangMsg) (s : State) : State :=
  if !s.gang.present.testBit m.id || m.id = s.trig.gangId || s.gang.differs.testBit s.trig.gangId then s
  else
    let s1 := if m.hash ≠ s.configHash then s.configDiffers m.id m.hash else s.onGang (Gang.configAgrees m.id)
    if s.leads then
      (s1.onGang (fun g =>
        if m.hash = s.configHash && m.counter = g.counter && m.state = g.state then { g with agree := g.agree ||| 2 ^ m.id }
        else { g with agree := without g.agree (2 ^ m.id) })).gangSettles
    else s1

/-- GANG_MESSAGE (R671, R676, R679, R692). -/
def execGangMessage (m : GangMsg) (s : State) : Out :=
  live s (fun t => match t.gang.joining with
    | .listening _ _ => t
    | .requested _ _ => (match m.reply with
      | some k => if m.leader then t.joinAnswered m k else t
      | none => t)
    | .aligning _ => if m.leader then t.onGang (Gang.alignTo m) else t
    | .none =>
      if t.gang.state = 0 then t
      else if m.leader && !t.leads then t.leaderMessage m
      else if m.leader then t
      else t.memberMessage m)

/-! ## Gang starts (R685 to R690) -/

/-- The leader's stamp that a member obtains from START (R686). -/
def State.startStamp (tick : Nat) (s : State) : Nat := tick - roundDiv s.gang.delay 10 - 50

/-- START at a member: S_0 at t + 300, under the gang frame counter (R686, R688). A START tells an ARMED member that the gang is
RUNNING. One that falls less than P after the member's previous frame starts nothing (R301, R648), and a throttled member discards every
second one (R307). -/
def State.gangStarted (t : Nat) (s : State) : State :=
  let s1 := if s.gang.state = 2 then s.gangFollows 3 else s
  let s2 := if s1.rd.isArmed && !s1.rd.forCal then
      (if s1.rd.isEarly (t + 300) then s1.startEarly
       else if s1.rd.throttled && s1.rd.skipNext then s1.onRd (fun r => { r with skipNext := false })
       else s1.startTaken t (t + 300) s1.gang.counter)
    else s1
  s2.onGang (fun g => { g with counter := (g.counter + 1) % 2 ^ 32 })

/-- GANG_START_PULSE (R686). -/
def execGangStartPulse (tick : Nat) (s : State) : Out :=
  live s (fun t => if 2 ≤ t.gang.state && !t.leads then (t.atTick tick).gangStarted (t.startStamp tick) else t)

/-- GANG_FREE_RUN_START (R690): the first stamp is the instant the gang enters RUNNING, each later one P after the one before, a
discarded one among them (R307). -/
def execGangFreeRunStart (tick : Nat) (s : State) : Out :=
  live s (fun t0 =>
    let t := t0.atTick tick
    if t.leads && t.gang.state = 3 && !t.gang.toArmed && t.rd.isArmed && !t.rd.forCal
        && (t.trig.cfg.source = 0 || t.trig.cfg.source = 7) then
      let stamp := (t.gang.lastStart.map (· + t.rd.period)).getD tick
      (t.acceptStart stamp).onGang (fun g => { g with lastStart := some stamp })
    else t)

end Sys2Proof.Machine
end

