-- ==== Sys2Proof/Machine/Power.lean ====
section
/-!
DEFINITION. Events of the supplies (spec/02 R66 to R76), of power-down, Ride-through and the core converter
(spec/04_power_down_and_ride_through.md), and of the hardware thermal shutdown (spec/16 R833 to R839).
-/

namespace Sys2Proof.Machine

open Sys2Proof

/-! ## Supplies -/

/-- Both supplies lie between 20.4 V and 26.4 V: the load is shared (R67, R68, R245). -/
def Pwr.shares (p : Pwr) : Pwr := { p with share := supplyOk p.vlink0 && supplyOk p.vlink1 }

/-- A voltage that the spec only bounds: a free value below the bound. -/
def State.freeBelow (k bound : Nat) (s : State) : Nat := (Config.freeValue (s.freeCtr + k)).toNat % bound

/-- A supply that falls below 18.0 V takes a value that the spec leaves open; one that stands below it already, an unconnected VLINK1
among them (R70), keeps its own. -/
def supplyFalls (mv free : Nat) : Nat := if mv < 18000 then mv else free

/-- Both supplies have fallen below 18.0 V; a measurement in progress is abandoned (R194, R225). -/
def State.supplyGone (s : State) : State :=
  { s with
    freeCtr := s.freeCtr + 2
    pwr := { s.pwr with
      vlink0 := supplyFalls s.pwr.vlink0 (s.freeBelow 0 18000)
      vlink1 := supplyFalls s.pwr.vlink1 (s.freeBelow 1 18000)
      share := false
      measuring := none } }

/-- VLINK0 is qualified (R118): power arrives, or a wait for it ends (R136, R189, R207, R265). -/
def State.vlink0Comes (mv : Nat) (s : State) : State :=
  let s1 := s.onPwr (fun p => { p with vlink0 := mv }.shares)
  if mv < 19000 then s1
  else if s.pwr.mode = .off && s.rstc.waiting = .none then s1.powerOnReset 0
  else match s.rstc.waiting with
    | .vlinkDip => s1.systemStart 0xF false false
    | .rideCollapse => s1.systemStart 5 false false
    | .clkLoss => (s1.onRstc (fun r => { r with waiting := .none })).tryBegin
    | .none => s1
    | .failedStart => s1
    | .railFault => s1
    | .thermal => s1
    | .aonOnly => s1

/-- VLINK0_QUALIFIED (R118). -/
def execVlink0Qualified (mv : Nat) (s : State) : Out := .next (s.vlink0Comes mv)

/-- VLINK1_RISE: sharing begins (R68). -/
def execVlink1Rise (mv : Nat) (s : State) : Out := live s (State.onPwr (fun p => { p with vlink1 := mv }.shares))

/-- LINK_SUPPLY_LOST: the other supply carries the whole load, and no event is raised (R69). -/
def execLinkSupplyLost (link : Nat) (s : State) : Out :=
  live s (fun t =>
    if (if link = 0 then t.pwr.vlink1 else t.pwr.vlink0) < 18000 then t
    else
      { t with
        freeCtr := t.freeCtr + 1
        pwr := { t.pwr with
          vlink0 := if link = 0 then supplyFalls t.pwr.vlink0 (t.freeBelow 0 18000) else t.pwr.vlink0
          vlink1 := if link = 1 then supplyFalls t.pwr.vlink1 (t.freeBelow 0 18000) else t.pwr.vlink1
          share := false } })

/-- VSHR after a measurement: the charger raises it, but not in Ride-through (R71, R75). -/
def Pwr.vshrAt (mv : Nat) (p : Pwr) : Pwr := { p with vshr := if p.mode = .ride then min p.vshr mv else mv }

/-- VSHR_READY: a move that waits for VSHR starts, but not in Ride-through (R75, R76, R150); one whose program ends at once has ended
unconfirmed (R753). -/
def execVshrReady (mv tick : Nat) (s : State) : Out :=
  live s (fun t0 =>
    let t := (t0.atTick tick).onPwr (Pwr.vshrAt mv)
    if 18000 ≤ mv && t.act.vshrWait && t.act.move.isSome && t.pwr.mode ≠ .ride then
      let u := t.moveStart t.tb.now
      if u.deadMove then u.shutterEnds false true else u
    else t)

/-! ## The walk down and collapses (R180 to R190) -/

/-- POWERDOWN_STEP_COMPLETE (R180). -/
def execPowerdownStepComplete (s : State) : Out := live s State.walkStepDone

/-- Rails that a step of the walk switches off (R180, R246). -/
def walkRails (step : Nat) : List Nat :=
  match step with
  | 12 => [12, 13]
  | 6 => [6]
  | 5 => [5]
  | 4 => [4]
  | 2 => [2]
  | _ => []

/-- POWERDOWN_STEP_LIMIT_EXPIRY: NO_DISCHARGE is recorded and the walk goes on (R184). -/
def execPowerdownStepLimitExpiry (rail : Nat) (s : State) : Out :=
  live s (fun t =>
    if t.pwr.walk ≠ .none && (walkRails t.pwr.walkStep).contains rail then (t.downRecord 2 rail).walkStepDone else t)

/-- Release step of a rail. -/
def railStep (rail : Nat) : Nat := if rail = 13 then 12 else rail

/-- The module has only its AON domain powered and waits. -/
def State.aonWait (w : Waiting) (s : State) : State :=
  let s1 := (s.diesOff).setMode .off
  { s1 with
    rstc := { s1.rstc with
      order := .none
      waiting := w
      rails := 1
      unitBusy := none }
    pwr := { s1.pwr with walk := .none, walkStep := 0, standbyBy := none } }

/-- A rail collapses out of order (R186 to R190). -/
def State.collapse (rail : Nat) (s : State) : State :=
  let s1 := s.downRecord 1 rail
  if s.pwr.mode = .powerDown then
    (if 19000 ≤ s.pwr.vlink0 then (s1.powerLost).powerOnReset 0 else s1.powerLost)
  else s1.aonWait (if s.pwr.mode = .ride || s.pwr.vlink < 18000 then .rideCollapse else .railFault)

/-- RAIL_COLLAPSE: of a rail that is up (R186). -/
def execRailCollapse (rail : Nat) (s : State) : Out :=
  live s (fun t => if (walkRails (railStep rail)).contains rail && railStep rail ≤ t.rstc.rails then t.collapse rail else t)

/-- RAIL_FAULT_RESTART: 100 ms after the collapse (R188). -/
def execRailFaultRestart (s : State) : Out :=
  live s (fun t => if t.rstc.waiting = .railFault && 18000 ≤ t.pwr.vlink then t.systemStart 5 false false else t)

/-- VLINK_DIP_BRINGUP: powered down in reverse from the step reached, without Ride-through (R136). -/
def execVlinkDipBringup (s : State) : Out :=
  live s (fun t =>
    if t.pwr.mode = .bringUp && (t.rstc.waiting = .none || t.rstc.waiting = .failedStart) then
      (((t.supplyGone).diesOff).onRstc (fun r => { r with
        rails := if r.order = .none then r.rails else max r.rails r.step
        order := .none
        waiting := .vlinkDip })).walkFrom .failedStep 2
    else t)

/-- VHOLD_BELOW_VMIN: every domain switches off while the converter runs from VHOLD (R73, R216). -/
def execVholdBelowVmin (s : State) : Out :=
  live s (fun t =>
    if t.pwr.vlink < 18000 && 6 ≤ t.rstc.rails then
      { t.powerLost with
        freeCtr := t.freeCtr + 1
        pwr := { t.powerLost.pwr with vhold := t.freeBelow 0 12000 } }
    else t)

/-- AON_POWER_LOSS: with the AON domain alone powered its retention goes with it, and the next start is a POWER-ON (R147, R185,
R839). -/
def execAonPowerLoss (s : State) : Out :=
  live s (fun t =>
    if t.rstc.waiting ≠ .none || (t.pwr.mode ≠ .off && t.rstc.rails < 6 && t.rstc.order = .none && t.pwr.vlink < 18000) then
      { t.powerLost with
        aon := Aon.reset
        pwr := { t.powerLost.pwr with downFault := { valid := false, kind := 0, step := 0, order := 0, rail := 0 } }
        thm := { t.powerLost.thm with shutdowns := 0, tripValid := false, tripSensor := 0 } }
    else t)

/-! ## Ride-through (R194 to R216) -/

/-- The instant of an event: a timebase tick, or in standby the estimate that the row gives. -/
def State.instant (tick : Nat) (s : State) : Nat := if s.tb.running then max s.tb.now tick else tick

/-- The state that Ride-through keeps (R196, R198): a return not yet finished counts as Idle. -/
def Pwr.rideBase (p : Pwr) : ModState := if p.mode = .ride then .idle else p.mode

/-- Ride-through can be entered (R194): from a state, or again during the return from a Ride-through. -/
def State.rideOpen (s : State) : Bool :=
  s.pwr.mode = .run || s.pwr.mode = .idle || s.pwr.mode = .keepWarm || s.pwr.mode = .keep || s.pwr.mode = .ledge
    || (s.pwr.mode = .ride && s.rstc.order = .rideReturn)

/-- A standby entry is abandoned: what Idle holds is on again, PHY 0 at its rate among it, the timebase bridged, and the MODE_SET ends
with FAIL_ABORTED (R196, R199). -/
def State.standbyAbandoned (s : State) : State :=
  match s.pwr.standbyBy with
  | none => s
  | some h =>
    let s1 := { s with
      rstc := { s.rstc with coreUp := true, rails := max 11 s.rstc.rails }
      tb := if s.tb.running then s.tb else
        { s.tb with running := true, bridged := true, now := max s.tb.now (s.tb.stored + 100 * s.tb.standbyTicks) }
      wdg := if s.rstc.coreUp then s.wdg else
        { s.wdg with fw := s.wdg.fw.release s.tb.now }
      cxp := { s.cxp with links := s.cxp.links.mapIdx (fun i (l : Link) =>
        if i = 0 && !l.powered then { Link.off with powered := true, rate := s.cxp.cfgRate } else l) }
      pwr := { s.pwr with walk := .none, walkStep := 0, standbyBy := none } }
    (s1.onSess (Sess.dropFlights (fun f => f.hdr.session = h.session && f.hdr.tag = h.tag && f.opcode = 0x0A))).answer h 0x0A
      stFailAborted []

/-- A wake is abandoned: the standby state's domains stay, and the estimate of the timebase starts from where the wake had carried
it (R198, R271). -/
def State.wakeAbandoned (s : State) : State :=
  if s.rstc.order.isWake then
    let s1 := s.diesOff
    { s1 with
      rstc := { s1.rstc with order := .none, rails := standbyRails s.rstc.order }
      tb := if s.tb.running then { s1.tb with stored := s.tb.now, standbyTicks := 0 } else s1.tb }
  else s

/-- A pushed reply of a flight, interim or final, has been handed over less than 1 ms before an instant. -/
def Flight.justSent (t : Nat) (f : Flight) : Bool :=
  f.st ≠ .held && !f.slot && (f.reply.map (·.push)).getD false && t < f.sentAt + msTicks 1

/-- Every pushed reply sent less than 1 ms before is marked for replay (R217). -/
def Sess.markReplay (t : Nat) (x : Sess) : Sess :=
  { x with flights := x.flights.map (fun f => { f with replay := f.replay || f.justSent t }) }

/-- The block that a CALSET_SAVE is writing becomes invalid (R232). -/
def Cfl.spoilSave (c : Cfl) : Cfl :=
  match c.save with
  | none => c
  | some j =>
    if j.waiting || 199 < j.block then c
    else { c with sets := c.sets.modify 3 (fun x => { x with badBlocks := (List.range 200).filter (fun b => x.badBlocks.contains b || b = j.block) }) }

/-- Calibration-flash operations are suspended, their blocks marked invalid, and their commands end (R232). -/
def State.flashCut (s : State) : State :=
  let s1 := match s.cfl.fwWrite with
    | some (_, _, i) => s.onCfl (Cfl.onImage i (fun x => x.spoil x.doneBlock))
    | none => s.onCfl Cfl.spoilSave
  (s1.fwWriteEnds stFailAborted).saveEnds stFailAborted

/-- A register access over the Haul link ends with a status: the reply of its command, or the Bench port's answer. -/
def State.regEnds (st : Nat) (res : List Byte) (r : RegAccess) (s : State) : State :=
  let s1 := s.onHaul (fun h => { h with pendingRegs := h.pendingRegs.filter (· ≠ r) })
  match r.hdr with
  | some h => (match s1.sess.find h.session h.tag (fun x => x = .waiting .reg) with
    | some f => s1.answerOpen f st res
    | none => s1)
  | none => s1.onCxp (Cxp.emit [.bench (if st = stOk then 0 else 2) st none])

/-- Every register access over the Haul link ends with a status (R380). -/
def State.regsEnd (st : Nat) (s : State) : State := s.haul.pendingRegs.foldl (fun t r => t.regEnds st [] r) s

/-- Unit resets and register accesses that need the S die cannot end any more. -/
def State.sensorUnitsCut (s0 : State) : State :=
  let s := (s0.regsEnd stFailAborted).onHaul (fun h => { h with training := 0, almWait := false })
  match s.rstc.unitBusy with
  | some (u, _) =>
    if u = 1 || u = 2 then
      (s.sess.flights.filter (fun f => f.st = .waiting (.unit u))).foldl (fun t f => t.answerOpen f stFailAborted [])
        (s.onRstc (fun r => { r with unitBusy := none }))
    else s
  | none => s

/-- What entry from Run or Idle does to each unit (R199). -/
def State.rideUnits (s : State) : State :=
  let s1 := ((s.stopReadout stFailAborted).convFrameEnd).actCut stFailAborted s.tb.now
  let s2 := ((s1.calEnds stFailAborted false).adcCalEnds stFailAborted 0).abortDeferred
  let s3 := (s2.gangLeaves 0x03).sensorUnitsCut
  (s3.onCxp (fun c => { c with links := c.links.mapIdx (fun i l => if i = 0 then l else Link.off) })).walkFrom .ride 12

/-- The host watchdog is suspended (R199, R767). -/
def Dog.suspend (d : Dog) : Dog := { d with suspended := true, keyA := none, warned := false }

/-- The retry timer expires: Power-down begins (R206, R214, R954). -/
def State.rideExpires (t : Nat) (s : State) : State :=
  let s1 := (s.onPwr (fun p => { p with rideLast := 2 })).logEntry 0x0004
    (le 4 s.pwr.energy ++ le 4 (roundDiv (t - s.pwr.rideStart) 100000))
  let s2 := s1.onRstc (fun r => { r with
    order := if s.rstc.order = .rideReturn then .none else r.order
    rails := if s.pwr.rideFrom = .ledge then max 11 r.rails else r.rails })
  (s2.setMode .powerDown).walkFrom .powerDown 1

/-- DATA of EV_RIDE_START (R200, R539). -/
def State.rideStartData (base : ModState) (s : State) : List Byte :=
  le 1 (modeCode base) ++ [0#8] ++ le 2 s.pwr.cmeas ++ le 4 s.pwr.energy

/-- Entry to Ride-through at an instant (R194 to R200). -/
def State.rideEntered (vhold t : Nat) (s0 : State) : State :=
  let base := s0.pwr.rideBase
  let s1 := (((s0.supplyGone).onPwr (fun p => { p with vhold := vhold })).standbyAbandoned).wakeAbandoned
  let s2 := ((s1.setMode .ride).onPwr (fun p => { p with
      rideFrom := base
      rideStart := t
      rideDue := t + msTicks p.rideTimer
      rideCount := satAdd 0xFF p.rideCount 1 })).count 5
  let s3 := (s2.onRstc (fun r => { r with order := .none, inGap := false })).onSess
    (fun x => { x.markReplay s0.tb.now with firstPacketDue := true })
  let s4 := (s3.onWdg (fun w => { w with host := w.host.suspend })).raiseEv
    { code := 0x0F, status := 0, target := none, only := none, forced := none, data := s3.rideStartData base, time := t }
  let s5 := s4.flashCut
  let s6 := if base = .run || base = .idle then s5.rideUnits else s5
  if s6.pwr.reserved then s6.rideExpires t else s6

/-- RIDE_THROUGH_ENTRY (R194). -/
def execRideThroughEntry (vhold tick : Nat) (s : State) : Out :=
  live s (fun t => if t.rideOpen then (t.atTick tick).rideEntered vhold (t.instant tick) else t)

/-- Ride-through stands and no return has begun. -/
def State.riding (s : State) : Bool := s.pwr.mode = .ride && s.rstc.order = .none

/-- The return to a Ride-through (R209, R210). -/
def State.rideReturns (t : Nat) (s : State) : State :=
  let s1 := s.onPwr (fun p => { p with rideEndAt := t, rideEndE := p.energy })
  if s.pwr.rideFrom = .run || s.pwr.rideFrom = .idle then s1.orderDue .rideReturn false
  else
    let s2 := (((s1.onPwr (fun p => { p with rideLast := 1 })).setMode s.pwr.rideFrom).rideEndEvent)
    if s.pwr.rideFrom = .ledge then s2.raiseMode else s2

/-- VLINK counts as returned (R207, R208); an expiry, of the set period or by the energy, prevails in its AON tick. A SYSTEM order that waits for VLINK begins (R265). -/
def execVlinkReturn (mv0 mv1 vhold tick : Nat) (s : State) : Out :=
  live s (fun t0 =>
    let t := (t0.atTick tick).onPwr (fun p => { p with vlink0 := mv0, vlink1 := mv1, vhold := vhold }.shares)
    if max mv0 mv1 < 19000 then t
    else if t.riding then
      (if t.pwr.rideDue / 100 ≤ t0.instant tick / 100 || t.pwr.reserved then t.rideExpires (t0.instant tick) else t.rideReturns (t0.instant tick))
    else if t.rstc.waiting = .clkLoss then (t.onRstc (fun r => { r with waiting := .none })).tryBegin
    else t)

/-- RIDE_RETRY_EXPIRY (R205, R214). -/
def execRideRetryExpiry (vhold tick : Nat) (s : State) : Out :=
  live s (fun t =>
    if t.riding && t.pwr.rideDue ≤ t.instant tick then
      ((t.atTick tick).onPwr (fun p => { p with vhold := vhold })).rideExpires (t.instant tick)
    else t)

/-- A return whose instant lies in the AON tick of another: the expiry still prevails (R208). -/
def State.justReturned (t : Nat) (s : State) : Bool :=
  s.pwr.mode = .ride && s.rstc.order = .rideReturn && s.pwr.rideEndAt / 100 = t / 100

/-- RIDE_ENERGY_RESERVE: E has fallen to 120 mJ (R206). -/
def execRideEnergyReserve (vhold tick : Nat) (s : State) : Out :=
  live s (fun t0 =>
    let t := (t0.atTick tick).onPwr (fun p => { p with vhold := vhold })
    if t0.riding || t0.justReturned (t0.instant tick) then (if t.pwr.reserved then t.rideExpires (t0.instant tick) else t) else t0)

/-! ## The hold-up measurement (R222 to R226) -/

/-- HOLDUP_MEASUREMENT_START: from step 11 on, with VHOLD at 6.0 V (R222). DESIGN CHOICE (log entry 153): a start that ends in Ledge
never reaches step 11, so it measures nothing, although the rule says every start. -/
def execHoldupMeasurementStart (vhold dropUv : Nat) (s : State) : Out :=
  live s (fun t =>
    if 6000 ≤ vhold && 18000 ≤ t.pwr.vlink && t.rstc.coreUp && (t.rstc.order = .none || 11 ≤ t.rstc.step) && t.pwr.mode ≠ .ledge then
      t.onPwr (fun p => { p with vhold := vhold, measuring := some dropUv })
    else t)

/-- C_meas from a fall in µV, in µF; outside its 16 bits a free value (R222, R247). -/
def measured (free deltaUv : Nat) : Nat :=
  if deltaUv = 0 || 0xFFFF < roundDiv 1000000000 deltaUv then free % 0x10000 else roundDiv 1000000000 deltaUv

/-- HOLDUP_MEASUREMENT_END: C_meas and ESR (R222, R223, R247). -/
def execHoldupMeasurementEnd (deltaUv : Nat) (s : State) : Out :=
  live s (fun t => match t.pwr.measuring with
    | none => t
    | some drop =>
      { t with
        freeCtr := t.freeCtr + 1
        pwr := { t.pwr with
          measuring := none
          cmeas := measured (Config.freeValue t.freeCtr).toNat deltaUv
          cmeasValid := true
          esr := min 0xFF (roundDiv drop 250) } })

/-! ## The core converter (R236 to R243) -/

/-- A phase leaves service (R237, R249). -/
def Pwr.phaseGone (phase kind : Nat) (p : Pwr) : Pwr :=
  { p with
    healthy := p.healthy - (p.healthy &&& 2 ^ phase)
    phOpen := if kind = 0 then p.phOpen ||| 2 ^ phase else p.phOpen
    phSense := if kind = 0 then p.phSense else p.phSense ||| 2 ^ phase }

/-- What the number of phases left demands (R239); deferred requests are evaluated again after every loss (R28). -/
def State.phaseAct (n : Nat) (s : State) : State :=
  if n < 2 then s.systemReset 5 false
  else if n = 2 then
    (if s.rd.frameOpen then (s.convDemand 2).onPwr (fun p => { p with convAtFrameEnd := true }) else s.convDemand 3)
  else s.reevaluate

/-- PHASE_FAULT: the phase is removed, logged, counted and reported (R236 to R239). -/
def execPhaseFault (phase kind : Nat) (s : State) : Out :=
  live s (fun t =>
    if phase < 4 && t.pwr.healthy.testBit phase && 6 ≤ t.rstc.rails then
      let u := t.onPwr (Pwr.phaseGone phase kind)
      let n := phasesIn u.pwr.healthy
      ((((u.logEntry 0x0006 [BitVec.ofNat 8 phase, BitVec.ofNat 8 kind, BitVec.ofNat 8 n]).count 9).raise 0x0E
        [BitVec.ofNat 8 phase, BitVec.ofNat 8 kind, BitVec.ofNat 8 n, BitVec.ofNat 8 t.level]).phaseAct n)
    else t)

/-- CONVERTER_OVERLOAD: with three phases, step 1 (R239). -/
def execConverterOverload (currentMa : Nat) (s : State) : Out :=
  live s (fun t =>
    if phasesIn t.pwr.healthy = 3 && 7500 < currentMa && t.pwr.convStep = 0 && 6 ≤ t.rstc.rails then t.convDemand 1 else t)

/-- CONVERTER_STEP_TIMER: 200 µs later, one step more (R239). -/
def execConverterStepTimer (currentMa : Nat) (s : State) : Out :=
  live s (fun t =>
    if phasesIn t.pwr.healthy = 3 && 7500 < currentMa && 0 < t.pwr.convStep && t.pwr.convStep < 3 then t.convDemand (t.pwr.convStep + 1)
    else t)

/-! ## Thermal shutdown (R833 to R838) -/

/-- A trip: everything but AON is switched off, whatever is in progress, the trip is recorded, and FAULTN is low while the C die still has
VIO (R833 to R836). -/
def State.tripped (sensor : Nat) (s : State) : State :=
  ((s.aonWait .thermal).onRstc (fun r => { r with tripVio := s.rstc.vioUp })).onThm (fun x => { x with
    shutdowns := satAdd 0xFF x.shutdowns 1
    tripValid := true
    tripSensor := sensor })

/-- THERMAL_TRIP (R833 to R836). -/
def execThermalTrip (sensor : Nat) (s : State) : Out :=
  live s (fun t =>
    if 0 < sensor && sensor < 9 && t.rstc.sensorPowered sensor && t.rstc.waiting ≠ .thermal then t.tripped sensor else t)

/-- THERMAL_RESTART: 2 s have passed, sensors 7 and 8 read below 122.0 °C, VLINK0 is qualified (R837). -/
def execThermalRestart (t7 t8 : Int) (s : State) : Out :=
  live s (fun t =>
    if t.rstc.waiting = .thermal && t.pwr.walk = .none && t7 < 7808 && t8 < 7808 && 19000 ≤ t.pwr.vlink0 then t.systemStart 4 false false
    else t)

end Sys2Proof.Machine
end

