-- ==== Sys2Proof/Machine/Watchdog.lean ====
section
/-!
DEFINITION. The two watchdogs (spec/15_watchdogs.md), HOST_KEEPALIVE and WDG_CONFIG (spec/12_command_catalogue.md R597, R601,
R602).
-/

namespace Sys2Proof.Machine

open Sys2Proof

/-! ## Service (R772 to R784) -/

def keyA : Nat := 0x5AC3
def keyB : Nat := 0xA53C

/-- The host watchdog runs: enabled, and neither suspended nor stopped by the module state (R767). -/
def State.hostRuns (s : State) : Bool := s.wdg.host.enabled && !s.wdg.host.suspended && !s.pwr.hostDogStops

/-- The firmware watchdog runs: from core release to core halt (R767). -/
def State.fwRuns (s : State) : Bool := s.wdg.fw.enabled && s.coreServes

/-- A KEY_A becomes pending, or replaces the pending one (R773). -/
def Dog.takeA (session t : Nat) (d : Dog) : Dog := { d with keyA := some (session, t) }

/-- A KEY_B at a tick completes a service (R774, R775). -/
def Dog.paired (session t : Nat) (d : Dog) : Bool :=
  match d.keyA with
  | some (a, k) => a = session && t ≤ k + 10000
  | none => false

/-- A counted service starts an ordinary period, with the period then configured (R781, R784, R788). -/
def Dog.counted (t : Nat) (d : Dog) : Dog :=
  { d with
    start := t
    opening := false
    period := d.nextPeriod
    t := usTicks d.nextPeriod
    keyA := none
    warned := false
    lastServe := t }

/-- The pending key is gone. -/
def Dog.clearKey (d : Dog) : Dog := { d with keyA := none }

/-- Kinds of violation (R807). -/
def kindExpired : Nat := 1
def kindEarly : Nat := 2
def kindOrder : Nat := 3
def kindBadKey : Nat := 4

/-! ## The ladder (R790 to R799) -/

/-- One of the two watchdogs. -/
def Wdg.dog (w : Wdg) (host : Bool) : Dog := if host then w.host else w.fw

/-- One of them replaced by a function of it. -/
def State.onDog (host : Bool) (f : Dog → Dog) (s : State) : State :=
  s.onWdg (fun w => if host then { w with host := f w.host } else { w with fw := f w.fw })

/-- The violation falls less than 4 × T after the core release of a watchdog-caused CORE reset (R790). -/
def State.escalates (host : Bool) (t : Nat) (s : State) : Bool :=
  match s.wdg.coreRelease with
  | some r => t < r + 4 * (s.wdg.dog host).t
  | none => false

/-- The cause recorded (R790, R799). -/
def State.violationCause (host : Bool) (t : Nat) (s : State) : Nat :=
  if s.pwr.mode = .ledge then 6 else if s.escalates host t then 8 else if host then 7 else 6

/-- The rung taken: 1 CORE, 2 SYSTEM, 3 Ledge (R790, R799, R807); a CORE reset before BOOT_OK is carried out as SYSTEM (R135). -/
def State.violationRung (host : Bool) (t : Nat) (s : State) : Nat :=
  if s.pwr.mode = .ledge then 1
  else if s.fuse.ladder ≤ s.wdg.count + 1 then 3
  else if s.escalates host t || (s.coreServes && !s.rstc.bootOk) then 2
  else 1

/-- The count after a violation; in Ledge it is unchanged (R790, R799). -/
def State.violationCount (s : State) : Nat := if s.pwr.mode = .ledge then s.wdg.count else min 7 (s.wdg.count + 1)

/-- The evidence of a violation (R801). -/
def State.violationRecord (host : Bool) (kind pc t : Nat) (s : State) : State :=
  s.onWdg (fun w =>
    { w with
      count := s.violationCount
      rung := s.violationRung host t
      kind := kind
      which := bit host
      lastPc := if host then w.lastPc else pc
      lastServeTb := (w.dog host).lastServe
      violationTb := t
      unlogged := true })

/-- The reset that a rung calls for (R790). -/
def State.violationReset (rung cause : Nat) (s : State) : State :=
  if rung = 3 then s.systemReset cause true
  else if rung = 2 then s.systemReset cause false
  else s.coreReset cause

/-- What comes before the reset: a host violation switches every output off, and both record the evidence (R796, R801). -/
def State.violationBefore (host : Bool) (kind pc t : Nat) (s : State) : State :=
  let s1 := (s.violationRecord host kind pc t).onDog host Dog.clearKey
  if host then s1.abort 15 15 3 else s1

/-- A violation and its reset. -/
def State.violate (host : Bool) (kind pc t : Nat) (s : State) : State :=
  (s.violationBefore host kind pc t).violationReset (s.violationRung host t) (s.violationCause host t)

/-! ## HOST_KEEPALIVE (R601, R770 to R779, R797) -/

/-- A KEY that is neither key fails check 9 (R601). -/
def keepaliveGate (key : Nat) (_ : State) : Gate where
  params := [(0, key ≠ keyA && key ≠ keyB)]
  tier := 3
  owner := none
  state := none

/-- RESULT of HOST_KEEPALIVE (R778). -/
def keepaliveResult (code us : Nat) : List Byte := le 1 code ++ [0#8, 0#8, 0#8] ++ le 4 us

/-- µs from a tick to the window opening of the period running, or once open to its expiry (R778). -/
def Dog.usToEdge (d : Dog) (k t : Nat) : Nat :=
  (if t < d.start + d.openAfter k then d.start + d.openAfter k - t else d.start + d.t - t) / 100

/-- Keys while no period runs: a pair counts, no violation is recorded (R779). -/
def keepaliveIdle (h : Hdr) (key : Nat) (s : State) : State :=
  if key = keyA then (s.onDog true (Dog.takeA h.session h.tick)).answer h 0x0E stOk (keepaliveResult 0 0)
  else (s.onDog true Dog.clearKey).answer h 0x0E stOk (keepaliveResult (if s.wdg.host.paired h.session h.tick then 1 else 2) 0)

/-- A violation by a key: the reply goes first, then the reset (R797). -/
def keepaliveViolates (h : Hdr) (kind : Nat) (s : State) : State :=
  ((s.violationBefore true kind 0 h.tick).answer h 0x0E stOk (keepaliveResult 2 0)).violationReset (s.violationRung true h.tick)
    (s.violationCause true h.tick)

/-- Keys while the host watchdog runs (R773 to R776, R781). A KEY_B at or after the expiry is late: the violation of the expiry
stands, and none is added. -/
def keepaliveRuns (h : Hdr) (key : Nat) (s : State) : State :=
  let d := s.wdg.host
  let k := s.fuse.windowK
  if key = keyA then
    (s.onDog true (Dog.takeA h.session h.tick)).answer h 0x0E stOk (keepaliveResult 0 (d.usToEdge k h.tick))
  else if !d.paired h.session h.tick then keepaliveViolates h kindOrder s
  else if d.start + d.t ≤ h.tick then (s.onDog true Dog.clearKey).answer h 0x0E stOk (keepaliveResult 2 0)
  else if d.windowOpen k h.tick then
    (s.onDog true (Dog.counted h.tick)).answer h 0x0E stOk (keepaliveResult 1 ((d.counted h.tick).usToEdge k h.tick))
  else keepaliveViolates h kindEarly s

/-- The key is taken by the mailbox hardware. -/
def keepaliveBody (h : Hdr) (key : Nat) (s : State) : State :=
  if s.hostRuns then keepaliveRuns h key s else keepaliveIdle h key s

/-- HOST_KEEPALIVE (R597, R770, R771). -/
def execHostKeepalive (h : Hdr) (key : Nat) (s : State) : Out :=
  live s (serveNow h 0x0E (.hostKeepalive h key) (keepaliveGate key) (keepaliveBody h key))

/-! ## WDG_CONFIG and WDG.HOST_CTRL (R602, R787 to R789, R804) -/

/-- The change asks for what is in force (R789). -/
def State.wdgSame (s : State) (period enable : Nat) : Bool :=
  s.wdg.host.nextPeriod = period && bit s.wdg.host.enabled = enable

/-- A change of an enabled watchdog outside its window (R602, R787). -/
def State.wdgClosed (s : State) (period enable : Nat) : Bool :=
  s.wdg.host.enabled && !s.wdgSame period enable && !(s.hostRuns && s.wdg.host.windowOpen s.fuse.windowK s.tb.now)

/-- R597, R602. -/
def wdgGate (off : Nat) (period enable : Nat) (s : State) : Gate where
  params := [(off, period < 1000 || 8000000 < period), (off + 4, 1 < enable)]
  tier := 0
  owner := none
  state := if s.wdgClosed period enable then some stWindow else none

/-- The change: enabling starts an opening period, a new period applies from the next one, disabling acts at once (R602, R783,
R788, R789). -/
def Dog.configure (t period enable : Nat) (d : Dog) : Dog :=
  if enable = 1 then
    (if d.enabled then { d with nextPeriod := period }
     else { Dog.reset period with enabled := true, opening := true, start := t, t := usTicks period, keyA := d.keyA })
  else { d with enabled := false, keyA := if d.enabled then none else d.keyA, period := period, nextPeriod := period,
                t := usTicks period }

/-- The change of either command. -/
def State.wdgApply (period enable : Nat) (s : State) : State :=
  if s.wdgSame period enable then s else s.onDog true (Dog.configure s.tb.now period enable)

/-- WDG_CONFIG takes effect with its reply. -/
def wdgConfigBody (h : Hdr) (period enable : Nat) (s : State) : State :=
  (s.wdgApply period enable).answer h 0x0F stOk
    (le 4 s.wdg.host.nextPeriod ++ le 1 (bit s.wdg.host.enabled) ++ [0#8, 0#8, 0#8])

/-- WDG_CONFIG (R597, R602). -/
def execWdgConfig (h : Hdr) (period enable : Nat) (s : State) : Out :=
  live s (serve h 0x0F (.wdgConfig h period enable) (wdgGate 0 period enable) (wdgConfigBody h period enable))

/-! ## The firmware's side (R769, R772, R777, R786) -/

/-- A key written to WDG.FW_KEY at a tick, with the core's program counter. -/
def State.fwKey (key t pc : Nat) (s : State) : State :=
  let d := s.wdg.fw
  if key = keyA then s.onDog false (Dog.takeA 0 t)
  else if key ≠ keyB then s.violate false kindBadKey pc t
  else if !d.paired 0 t then s.violate false kindOrder pc t
  else if d.start + d.t ≤ t then s.onDog false Dog.clearKey
  else if d.windowOpen s.fuse.windowK t then s.onDog false (Dog.counted t)
  else s.violate false kindEarly pc t

/-- FW_KEY_WRITE (R772). -/
def execFwKeyWrite (key tick pc : Nat) (s : State) : Out :=
  live s (fun t0 =>
    let t := t0.atTick tick
    if t.fwRuns then t.fwKey key tick pc else t)

/-- WDG_FW_CTRL_WRITE: a new period applies from the next one; outside the window it is a violation (R786, R788). -/
def execWdgFwCtrlWrite (period tick pc : Nat) (s : State) : Out :=
  live s (fun t0 =>
    let t := t0.atTick tick
    if !t.fwRuns then t
    else if t.wdg.fw.windowOpen t.fuse.windowK tick then t.onDog false (fun d => { d with nextPeriod := period })
    else t.violate false kindBadKey pc tick)

/-! ## Events -/

/-- One of the watchdogs runs. -/
def State.dogRuns (host : Bool) (s : State) : Bool := if host then s.hostRuns else s.fwRuns

/-- WDG_KEY_A_LAPSE: 10,000 ticks have passed since the pending KEY_A (R774). -/
def execWdgKeyALapse (host : Bool) (s : State) : Out := live s (State.onDog host Dog.clearKey)

/-- WDG_WARN at S + T − floor(T / 8), once in a period (R785). -/
def execWdgWarn (host : Bool) (s : State) : Out :=
  live s (fun t0 =>
    let d := t0.wdg.dog host
    let t := t0.atTick (d.start + d.t - d.t / 8)
    if t0.dogRuns host && !d.warned then
      (t.onDog host (fun d => { d with warned := true })).raise 0x13
        ([BitVec.ofNat 8 (bit host), 0#8, 0#8, 0#8] ++ le 4 (roundDiv (d.t / 8) 100))
    else t0)

/-- WDG_EXPIRY at S + T: a violation of kind EXPIRED (R782). -/
def execWdgExpiry (host : Bool) (pc : Nat) (s : State) : Out :=
  live s (fun t =>
    let d := t.wdg.dog host
    if t.dogRuns host then (t.atTick (d.start + d.t)).violate host kindExpired pc (d.start + d.t) else t)

/-- WDG_COUNT_RESET_TIMER: 60 s after the BOOT_OK without a violation (R794). -/
def execWdgCountResetTimer (s : State) : Out :=
  live s (fun t => if t.rstc.bootOk && t.coreServes then (t.onWdg (fun w => { w with count := 0 })).storeRing0 else t)

end Sys2Proof.Machine
end

