-- ==== Sys2Proof/Machine/Sessions.lean ====
section
/-!
DEFINITION. Opcodes 0x00 to 0x0D but UNIT_RESET: sessions, claims, events, CANCEL, module state, time
(spec/11_command_packets_and_sessions.md R557 to R586, spec/12_command_catalogue.md R597 to R600).
-/

namespace Sys2Proof.Machine

open Sys2Proof

/-! ## PING, STATUS_GET, TIME_GET -/

/-- PING echoes its bytes (R597). -/
def execPing (h : Hdr) (bytes : List Byte) (s : State) : Out :=
  live s (serve h 0x00 (.ping h bytes) (fun _ => Gate.plain 3) (fun t => t.answer h 0x00 stOk bytes))

/-- RESULT of STATUS_GET for a session (R597). -/
def State.statusResult (s : State) (session : Nat) : List Byte :=
  le 1 (modeCode s.pwr.mode) ++ le 1 s.level ++ le 1 (rdCode s.rd.state)
    ++ le 1 (bit s.rd.calAdvised + bit s.pipe.changed * 2 + bit s.pipe.recalling * 4 + bit (s.psto.scan = 1) * 8
        + bit (0 < s.pwr.convStep) * 16 + bit s.pwr.cmeasValid * 32)
    ++ le 2 (maskOf (·.opened) s.sess.list) ++ le 1 s.sess.free ++ le 1 (s.sess.inflight session) ++ le 1 s.pipe.setNo
    ++ le 1 s.gang.state ++ le 2 (driftUncOf s.cal.drift) ++ le 2 (maskOf (·.running) s.streams)
    ++ le 2 (maskOf (·.opened) s.streams) ++ le 4 s.admitWord ++ le 4 (s.sess.get session).clientId

/-- STATUS_GET (R597). -/
def execStatusGet (h : Hdr) (s : State) : Out :=
  live s (serve h 0x06 (.statusGet h) (fun _ => Gate.plain 3)
    (fun t => t.answer h 0x06 stOk ((t.seen h 0x06).statusResult h.session)))

/-- The heartbeat pair of a link: host time and TB at its receipt, zero when not valid (R279, R597). -/
def heartbeatBytes (p : Option (Nat × Nat)) : List Byte :=
  match p with
  | some (host, tb) => le 8 host ++ le 8 tb
  | none => List.replicate 16 0#8

/-- RESULT of TIME_GET: the instant of receipt (R280, R597). -/
def State.timeResult (s : State) (tick : Nat) : List Byte :=
  le 8 tick ++ le 1 (s.tb.statusWord / 2 ^ 28 * 16 + maskOf (·.isSome) s.tb.heartbeats) ++ [0#8] ++ leInt 2 s.tb.corr
    ++ List.replicate 4 0#8 ++ (s.tb.heartbeats.map heartbeatBytes).flatten

/-- TIME_GET (R597). -/
def execTimeGet (h : Hdr) (s : State) : Out :=
  live s (serve h 0x0D (.timeGet h) (fun _ => Gate.plain 3) (fun t => t.answer h 0x0D stOk (t.timeResult h.tick)))

/-! ## SESSION_OPEN, SESSION_CLOSE, SESSION_POLICY (R557 to R564, R598) -/

/-- An open session is not opened again (R558). -/
def sessionOpenGate (h : Hdr) (s : State) : Gate where
  params := []
  tier := 3
  owner := none
  state := stateIf (s.sess.get h.session).opened

/-- A session as SESSION_OPEN leaves it. -/
def Session.openFor (clientId : Nat) (x : Session) : Session := { x with opened := true, clientId := clientId }

/-- A disabled session is refused; else the session is open (R558, R597). -/
def sessionOpenBody (h : Hdr) (clientId : Nat) (s : State) : State :=
  let x := s.sess.get h.session
  if x.enabled then
    (s.onSess (Sess.modify h.session (Session.openFor clientId))).answer h 0x01 stOk (le 1 x.tier ++ [8#8, 2#8, 0#8])
  else s.answer h 0x01 stPrivilege (le 1 3 ++ le 1 x.tier ++ [0#8, 0#8])

/-- SESSION_OPEN (R597). -/
def execSessionOpen (h : Hdr) (clientId : Nat) (s : State) : Out :=
  live s (serve h 0x01 (.sessionOpen h clientId) (sessionOpenGate h) (sessionOpenBody h clientId))

/-- Phases in which a calibration can be cancelled: until its update begins (R596). -/
def CalPhase.cancellable : CalPhase → Bool
  | .closing => true
  | .settle => true
  | .capture => true
  | .offsetUpdate => false
  | .opening => false
  | .gClosing => true
  | .gSettle => true
  | .gCapture => true
  | .gOpening => true
  | .gOpenSettle => true
  | .gOpenCapture => true
  | .gUpdate => false

/-- The calibration in flight is that of a command, and still open to CANCEL; the second closed capture of a GAIN_CAL follows its
update. -/
def Cal.cancellable (c : Cal) : Bool := c.phase.cancellable && !(c.gain && (c.phase = .closing || c.phase = .settle || c.phase = .capture))

/-- A stream whose FRAME_SNAP is that of a session and TAG. -/
def State.snapOf (s : State) (session tag : Nat) : Option Nat :=
  (List.range 16).find? (fun i => match (s.stream i).snap with
    | some (a, b, _, _, _) => a = session && b = tag
    | none => false)

/-- The long operation of a session and TAG can be cancelled now (R596). -/
def State.longCancellable (s : State) (session tag op : Nat) : Bool :=
  match op with
  | 0x17 => (s.snapOf session tag).isSome
  | 0x21 => (match s.cal.cal with | some c => c.cancellable | none => false)
  | 0x22 => (match s.cal.cal with | some c => c.cancellable | none => false)
  | 0x27 => s.cfl.save.isSome
  | 0x54 => s.gang.joiner.isSome
  | 0x72 => s.cfl.fwVerify.isSome
  | _ => false

/-- It is ended at the point the catalogue states (R584, R596). -/
def State.longCancel (session tag op : Nat) (s : State) : State :=
  match op with
  | 0x17 => (match s.snapOf session tag with | some i => s.haltAtEnd i false | none => s)
  | 0x21 => (s.calEnds stFailAborted false).reevaluate
  | 0x22 => (s.calEnds stFailAborted false).reevaluate
  | 0x27 => s.onCfl (fun c => { c with saveCancel := true })
  | 0x54 => (s.joinEnds stFailAborted 0).gangOut
  | 0x72 => s.fwVerifyEnds stFailAborted
  | _ => s

/-- The long operations of a session: TAG and opcode. -/
def Sess.longs (x : Sess) (session : Nat) : List (Nat × Nat) :=
  (x.flights.filter (fun f => f.st = .running && f.hdr.session = session)).map (fun f => (f.hdr.tag, f.opcode))

/-- Long operations are cancelled where the catalogue allows it, their entries already gone (R564). -/
def State.longsCancelled (session : Nat) (l : List (Nat × Nat)) (s : State) : State :=
  l.foldl (fun t p => if t.longCancellable session p.1 p.2 then t.longCancel session p.1 p.2 else t) s

/-- Streams that a session owns. -/
def State.streamsOf (s : State) (session : Nat) : List Nat :=
  (List.range 16).filter (fun i => (s.stream i).opened && (s.stream i).owner = session)

/-- A session as closing leaves it: its policy and its telemetry rate stay. -/
def Session.ended (x : Session) : Session :=
  { Session.closed x.tier x.enabled with telem := x.telem, last := x.last }

/-- A session closes (R564). -/
def State.closeSession (i : Nat) (s : State) : State :=
  let longs := s.sess.longs i
  let s1 := s.onSess (Sess.dropFlights (fun f => f.hdr.session = i))
  let s2 := s1.longsCancelled i longs
  let s3 := (s2.streamsOf i).foldl (fun t n => t.haltAtEnd n true) s2
  let s4 := s3.onSess (fun x => { x.modify i Session.ended with claims := x.claims.filter (fun c => c.2 ≠ i) })
  ((s4.onCal (fun c => { c with inhibit := if c.inhibit.map (·.1) = some i then none else c.inhibit })).settle).reevaluate

/-- Its own session at any tier, another from the Steward (R561). -/
def sessionCloseGate (h : Hdr) (target : Nat) (_ : State) : Gate where
  params := [(0, 15 < target)]
  tier := if target = h.session then 3 else 0
  owner := none
  state := none

/-- Closing the own session comes after its pushed reply (R598). -/
def sessionCloseBody (h : Hdr) (target : Nat) (s : State) : State :=
  if target = h.session then (s.answer { h with push := true } 0x02 stOk []).closeSession target
  else if (s.sess.get target).opened then (s.closeSession target).answer h 0x02 stOk []
  else s.answer h 0x02 stOk []

/-- SESSION_CLOSE (R597). -/
def execSessionClose (h : Hdr) (target : Nat) (s : State) : Out :=
  live s (serve h 0x02 (.sessionClose h target) (sessionCloseGate h target) (sessionCloseBody h target))

/-- Tier of a session in the layout of SESS.TIER (R589). -/
def tierIn (tiers n : Nat) : Nat := tiers / 4 ^ n % 4

/-- What a policy breaks, by the byte of the tier word (R559, R597). -/
def policyBad (off tiers : Nat) : List (Nat × Bool) :=
  (off, decide (tiers % 4 ≠ 0)) :: (List.range 15).map (fun k => (off + (k + 1) / 4, decide (tierIn tiers (k + 1) = 0)))

/-- R597. -/
def policyGate (tiers enable : Nat) (_ : State) : Gate where
  params := policyBad 0 tiers ++ [(4, decide (enable % 2 = 0))]
  tier := 0
  owner := none
  state := none

/-- Tier and enable of one session. -/
def Session.policy (tiers enable n : Nat) (x : Session) : Session :=
  if n = 0 then x else { x with tier := tierIn tiers n, enabled := enable.testBit n }

/-- The open streams of a session whose class changes take the new class (R563). -/
def State.reclass (old new : List Session) (s : State) : State :=
  s.onStreams (fun l => l.map (fun x =>
    let a := tierClass (old.getD x.owner (Session.closed 3 false)).tier
    let b := tierClass (new.getD x.owner (Session.closed 3 false)).tier
    if x.opened && a ≠ b then { x with cls := b } else x))

/-- A policy comes into force: classes, then admission, then the sessions it disables close (R562, R563). -/
def State.setPolicy (tiers enable : Nat) (s : State) : State :=
  let new := s.sess.list.mapIdx (Session.policy tiers enable)
  let s1 := (s.onSess (fun x => { x with list := new })).reclass s.sess.list new
  let s2 := (List.range 16).foldl (fun t i => if (t.sess.get i).opened && !(t.sess.get i).enabled then t.closeSession i else t) s1
  (s2.restoreDemand).reevaluate

/-- SESSION_POLICY acts after its reply (R562). -/
def execSessionPolicy (h : Hdr) (tiers enable : Nat) (s : State) : Out :=
  live s (serve h 0x03 (.sessionPolicy h tiers enable) (policyGate tiers enable)
    (fun t => (t.answer h 0x03 stOk []).setPolicy tiers enable))

/-! ## CLAIM, RELEASE (R565, R566) -/

/-- A claim code of R565. -/
def claimBad (code : Nat) : Bool := code < 0x10 || 0x18 < code

/-- R566. -/
def claimGate (h : Hdr) (code : Nat) (s : State) : Gate where
  params := [(0, claimBad code)]
  tier := 2
  owner := s.sess.claimedBy h.session [code]
  state := none

/-- A claim is held once. -/
def Sess.claim (session code : Nat) (x : Sess) : Sess :=
  if x.claims.contains (code, session) then x else { x with claims := x.claims ++ [(code, session)] }

/-- CLAIM (R597). -/
def execClaim (h : Hdr) (code : Nat) (s : State) : Out :=
  live s (serve h 0x04 (.claim h code) (claimGate h code)
    (fun t => (t.onSess (Sess.claim h.session code)).answer h 0x04 stOk []))

/-- Its own claims as an Operator, another's as the Steward (R561). -/
def releaseGate (h : Hdr) (code holder : Nat) (_ : State) : Gate where
  params := [(0, claimBad code), (1, 15 < holder)]
  tier := if holder = h.session then 2 else 0
  owner := none
  state := none

/-- RELEASE (R597). -/
def execRelease (h : Hdr) (code holder : Nat) (s : State) : Out :=
  live s (serve h 0x05 (.release h code holder) (releaseGate h code holder)
    (fun t => (t.onSess (fun x => { x with claims := x.claims.filter (· ≠ (code, holder)) })).answer h 0x05 stOk
      (le 1 (bit (!t.sess.claims.contains (code, holder))) ++ [0#8, 0#8, 0#8])))

/-! ## EVENT_SUBSCRIBE (R541, R157, R45, R46) -/

/-- Bit 0 and bits 23 to 31 are reserved (R541). -/
def subscribeGate (mask : Nat) (_ : State) : Gate where
  params := [(0, mask.testBit 0), (2, mask.testBit 23), (3, 2 ^ 24 ≤ mask)]
  tier := 3
  owner := none
  state := none

/-- Some open session receives an event. -/
def Sess.wants (x : Sess) (e : Event) : Bool := (x.list.mapIdx (fun i y => (y.sees i e).isSome)).any id

/-- The next event delivered carries the overflow mark of the AON queue (R46). -/
def State.markOverflow (e : Event) (s : State) : State :=
  if s.aon.overflow then
    { s with
      aon := { s.aon with overflow := false }
      sess := { s.sess with list := s.sess.list.mapIdx (fun i y => if (y.sees i e).isSome then { y with overflow := true } else y) } }
  else s

/-- The copies of a held event that can go out now: one event to all who subscribe, or an event of a start to each session that it is
still due to and that subscribes (R45, R157, R164). -/
def HeldEv.ready (x : Sess) (h : HeldEv) : List Event :=
  match h.due with
  | none => if x.wants h.ev then [h.ev] else []
  | some l => (l.map (fun i => { h.ev with only := some i })).filter x.wants

/-- What stays held of it. -/
def HeldEv.rest (x : Sess) (h : HeldEv) : Option HeldEv :=
  match h.due with
  | none => if x.wants h.ev then none else some h
  | some l =>
    let l' := l.filter (fun i => !x.wants { h.ev with only := some i })
    if l'.isEmpty then none else some { h with due := some l' }

/-- Held events go out in order, each once a session that receives it is open (R45, R157, R164). -/
def State.flushHeld (s : State) : State :=
  if s.cxp.up0 then
    ((s.aon.events.map (HeldEv.ready s.sess)).flatten).foldl (fun t e => (t.markOverflow e).raiseEv e)
      (s.onAon (fun a => { a with events := a.events.filterMap (HeldEv.rest s.sess) }))
  else s

/-- The mask is set; held events follow the reply. -/
def subscribeBody (h : Hdr) (mask : Nat) (s : State) : State :=
  ((s.onSess (Sess.modify h.session (fun y => { y with mask := mask }))).answer h 0x07 stOk
    (le 4 (s.sess.get h.session).mask)).flushHeld

/-- EVENT_SUBSCRIBE (R597). -/
def execEventSubscribe (h : Hdr) (mask : Nat) (s : State) : Out :=
  live s (serve h 0x07 (.eventSubscribe h mask) (subscribeGate mask) (subscribeBody h mask))

/-! ## REPLY_FETCH (R599) -/

/-- A reply of the command is held for poll: its final one, or an interim one that the host has not released yet (R512, R547). -/
def Flight.polled (f : Flight) : Bool :=
  f.st = .held || (f.st.isOpen && (match f.reply with
    | some r => !r.push
    | none => false))

/-- Replies of a session held for poll, oldest first. -/
def Sess.heldReplies (x : Sess) (i : Nat) : List Flight := x.flights.filter (fun f => f.polled && f.hdr.session = i)

/-- Releases one held reply: a final one frees its entry, an interim one leaves its command in flight (R546, R547). -/
def Sess.releaseHeld (f : Flight) (x : Sess) : Sess :=
  { x with flights := if f.st = .held then x.flights.erase f else x.flights.map (fun g => if g = f then { g with reply := none } else g) }

/-- The oldest held reply is pushed with CTRL bit 7 set and released, then the command's own reply. -/
def replyFetchBody (h : Hdr) (s : State) : State :=
  match s.sess.heldReplies h.session with
  | [] => s.answer h 0x08 stOk [0#8, 0#8, 0#8, 0#8]
  | f :: rest =>
    let pushed := (f.reply.map (fun r => TxItem.reply { r with push := true })).toList
    let released : State := { s with sess := s.sess.releaseHeld f, cxp := s.cxp.send pushed }
    released.answer h 0x08 stOk (le 1 rest.length ++ [0#8, 0#8, 0#8])

/-- REPLY_FETCH (R597). -/
def execReplyFetch (h : Hdr) (s : State) : Out :=
  live s (serve h 0x08 (.replyFetch h) (fun _ => Gate.plain 3) (replyFetchBody h))

/-! ## CANCEL (R584, R585) -/

/-- Its own commands at any tier, another session's as the Steward (R561). -/
def cancelGate (h : Hdr) (target : Nat) (_ : State) : Gate where
  params := [(0, 15 < target)]
  tier := if target = h.session then 3 else 0
  owner := none
  state := none

/-- The command that a CANCEL names: in flight and without its final reply. -/
def Sess.named (x : Sess) (session tag : Nat) : Option Flight :=
  x.find session tag (fun st => st.isOpen || st = .queued)

/-- What CANCEL finds, and what follows its own reply. -/
def cancelBody (h : Hdr) (target tag : Nat) (s : State) : State :=
  let reply := fun (k : Nat) => s.answer h 0x09 stOk (le 1 k ++ [0#8, 0#8, 0#8])
  match s.sess.named target tag with
  | none => reply 3
  | some f =>
    match f.st with
    | .queued => ((reply 0).onSess (Sess.dropFlights (fun g => g = f))).answer f.hdr f.opcode stFailAborted []
    | .deferred _ _ _ => (reply 0).answerOpen f stFailAborted []
    | .running =>
      if s.longCancellable target tag f.opcode then (reply 1).longCancel target tag f.opcode else reply 2
    | .waiting _ => reply 2
    | .answered => reply 3
    | .held => reply 3

/-- CANCEL (R597). -/
def execCancel (h : Hdr) (target tag : Nat) (s : State) : Out :=
  live s (serve h 0x09 (.cancel h target tag) (cancelGate h target) (cancelBody h target tag))

/-! ## MODE_SET, SYS_RESET (R37, R38, R181, R586, R600) -/

/-- A long operation is in flight, that of a command or the automatic shutter event (R38). -/
def State.longInFlight (s : State) : Bool :=
  s.sess.flights.any (fun f => f.st = .running) || s.cal.cal.isSome || s.cal.adcCal.isSome || s.cfl.recalling.isSome
    || s.cfl.save.isSome || s.act.moveHeld || s.psto.job.isSome || s.gang.joiner.isSome || s.cfl.fwWrite.isSome
    || s.cfl.fwVerify.isSome

/-- R37, R38; no order is in progress, since Bring-up and a wake lead to Idle first (R36). -/
def modeSetGate (mode : Nat) (s : State) : Gate where
  params := [(0, mode ≠ 3 && mode ≠ 4)]
  tier := 0
  owner := none
  state := stateIf (!s.runningStreams.isEmpty || s.longInFlight || s.rstc.order ≠ .none)

/-- Deferred requests end, the reply goes out, and the walk begins with every switch off (R586, R600, R180, R181). -/
def modeSetBody (h : Hdr) (mode : Nat) (s : State) : State :=
  let s0 := ((s.abortDeferred).answer h 0x0A stOk []).actCut stFailAborted s.tb.now
  let s1 := s0.onPwr (fun p => { p with standbyBy := some h })
  (s1.onRstc (fun r => { r with order := .none, inGap := false })).walkFrom (if mode = 3 then .keepWarm else .keep) (if mode = 3 then 3 else 2)

/-- MODE_SET (R597). -/
def execModeSet (h : Hdr) (mode : Nat) (s : State) : Out :=
  live s (serve h 0x0A (.modeSet h mode) (modeSetGate mode) (modeSetBody h mode))

/-- R597. -/
def sysResetGate (level : Nat) (_ : State) : Gate where
  params := [(0, level = 0 || 3 < level)]
  tier := 0
  owner := none
  state := none

/-- The reply goes out before the reset begins (R600). -/
def sysResetBody (h : Hdr) (level : Nat) (s : State) : State :=
  let s1 := s.answer h 0x0B stOk []
  match level with
  | 1 => s1.coreReset 0xA
  | 2 => s1.systemReset 0xB false
  | _ => s1.powerOnReset 0xC

/-- SYS_RESET (R597). -/
def execSysReset (h : Hdr) (level : Nat) (s : State) : Out :=
  live s (serve h 0x0B (.sysReset h level) (sysResetGate level) (sysResetBody h level))

end Sys2Proof.Machine
end

