-- ==== Sys2Proof/Machine/Haul.lean ====
section
/-!
DEFINITION. Training and loss of the Haul link (spec/07_haul_link.md R359 to R381) and UNIT_RESET
(spec/03_reset_and_bring_up.md R166 to R175).
-/

namespace Sys2Proof.Machine

open Sys2Proof

/-! ## Training (R359 to R364, R370 to R375) -/

/-- Smallest row time with a number of lanes in service (R373). -/
def minRowTime (lanes : Nat) : Nat :=
  match lanes with
  | 0 => 710
  | 1 => 710
  | 2 => 370
  | 3 => 250
  | _ => 200

/-- Lanes in a mask. -/
def laneCount (mask : Nat) : Nat := ((List.range 4).filter (fun n => mask.testBit n)).length

/-- A training begins: step 14 (1), a unit reset (2), an automatic retrain (3). A failed lane is trained again by a unit reset alone
(R364, R370, R372). -/
def Haul.train (kind : Nat) (h : Haul) : Haul :=
  { h with
    state := 1
    training := kind
    attempt := 0
    lanesUp := 0
    lanesFailed := if kind = 2 then 0 else h.lanesFailed
    barred := if kind = 2 then 0 else h.lanesFailed
    fpaRead := false
    almWait := false
    released := true
    down := [.training 0] }

/-- Lanes trained so far, with those of the attempt that ends; one out of service stays so (R361, R372). -/
def Haul.trained (lanes : Nat) (h : Haul) : Nat := h.lanesUp ||| (lanes &&& (15 - (h.barred &&& 15)))

/-- The training ends with lanes in service; with none, HAUL_RST is held low (R362, R363, R373, R384, R387). -/
def Haul.settled (up latency : Nat) (h : Haul) : Haul :=
  { h with
    state := if up = 15 then 2 else if up = 0 then 4 else 3
    training := 0
    attempt := 0
    lanesUp := up
    lanesFailed := 15 - up
    barred := 15 - up
    released := up ≠ 0
    noLane := up = 0
    minRt := if up = 0 then h.minRt else minRowTime (laneCount up)
    dsLat := if up = 0 then h.dsLat else min latency 0xFFFF
    pendingRegs := h.pendingRegs.map (fun r : RegAccess => { r with late := false })
    down := .training 3 :: h.pendingRegs.map RegAccess.frame }.freshLanes

/-- An attempt of step 14 ends with a lane still to train: the next one trains only the lanes that failed this one (R361, R384). -/
def Haul.tryAgain (up : Nat) (h : Haul) : Haul := { h with lanesUp := up, lanesFailed := 15 - up, attempt := h.attempt + 1 }

/-- A gang member whose row time has fallen below the smallest one leaves (R375). -/
def State.gangRowTime (s : State) : State := if s.gang.state ≠ 0 && s.rd.rt < s.haul.minRt then s.gangLeaves 0x02 else s

/-- EV_UNIT_RESET (R169, R371, R539): unit, mode, lanes in service for HAUL. -/
def State.unitEvent (unit mode : Nat) (s : State) : State :=
  s.raise 0x14 [BitVec.ofNat 8 unit, BitVec.ofNat 8 mode, BitVec.ofNat 8 (if unit = 1 then s.haul.lanesUp else 0), 0#8]

/-- The reply OK to a unit reset that has waited; in a core outage the restarted core posts it (R169, R175). -/
def State.unitReply (unit : Nat) (s : State) : State :=
  if s.coreServes then
    (s.sess.flights.filter (fun f => f.st = .waiting (.unit unit))).foldl (fun t f => t.answerOpen f stOk []) s
  else s

/-- A unit reset that took time is complete (R169). -/
def State.unitDone (s : State) : State :=
  match s.rstc.unitBusy with
  | none => s
  | some (unit, mode) => ((s.onRstc (fun r => { r with unitBusy := none })).unitReply unit).unitEvent unit mode

/-- One training attempt ends (R360 to R363, R371, R375). -/
def State.trainingEnds (lanes latency : Nat) (s : State) : State :=
  let h := s.haul
  let up := h.trained lanes
  match h.training with
  | 1 =>
    if s.stepRuns && s.rstc.step = 14 then
      (if (up ||| h.barred) &&& 15 = 15 || 2 ≤ h.attempt then ((s.onHaul (Haul.settled up latency)).gangRowTime).stepDone 14
       else s.onHaul (Haul.tryAgain up))
    else s
  | 2 => ((s.onHaul (Haul.settled up latency)).gangRowTime).unitDone
  | 3 => (((s.onHaul (Haul.settled up latency)).onHaul (fun x => { x with retrains := satAdd 0xFF x.retrains 1 })).unitEvent 1 2).gangRowTime
  | _ => s

/-- HAUL_TRAINING_END (R359, R360). -/
def execHaulTrainingEnd (lanes : List LaneReport) (latencyNs : Nat) (s : State) : Out :=
  live s (State.trainingEnds (trainedMask lanes) latencyNs)

/-! ## Loss (R367, R369, R370) -/

/-- The link carries traffic. -/
def Haul.running (h : Haul) : Bool := h.carries

/-- The readout stops and the frame in transfer is truncated (R369); nothing of it is processed further (R376). -/
def State.haulLost (s : State) : State := (s.stopReadout stFailAborted).convFrameEnd

/-- A lane has lost block lock: the readout stops and one attempt begins on the lanes in service (R369, R370). -/
def State.laneLost (s : State) : State := (s.haulLost).onHaul (Haul.train 3)

/-- The invalid headers that cost a lane its block lock are counted: as many as its last 64 blocks lack to 16 (R367, R385). -/
def Haul.lockLost (lane : Nat) (h : Haul) : Haul :=
  { h with hdrErr := h.hdrErr.modify lane (fun k => satAdd 0xFF k (16 - (h.laneRx lane).invalids)) }

/-- LANE_BLOCK_LOCK_LOSS: a loss between rows (R367, R369, R370). -/
def execLaneBlockLockLoss (lane : Nat) (s : State) : Out :=
  live s (fun t => if t.haul.running && t.haul.lanesUp.testBit lane then (t.onHaul (Haul.lockLost lane)).laneLost else t)

/-- HAUL_ALM_RISE: the readout stops; the retrain waits for the alarm to fall (R369, R370). -/
def execHaulAlmRise (s : State) : Out :=
  live s (fun t0 =>
    let t := t0.onHaul (fun h => { h with alarm := true })
    if t.haul.running then (t.haulLost).onHaul (fun h => { h with state := 1, lanesUp := 0, training := 3, almWait := true }) else t)

/-- HAUL_ALM_FALL: the attempt starts (R370). -/
def execHaulAlmFall (s : State) : Out :=
  live s (fun t0 =>
    let t := t0.onHaul (fun h => { h with alarm := false })
    if t.haul.almWait then t.onHaul (Haul.train 3) else t)

/-- The S die is power-cycled: its settings and factors come back from the C die copy (R166, R327, R340, R478). -/
def State.sensorCycled (s : State) : State :=
  ((s.onRd (fun r => { r.disarm with state := .disarmed })).sensorPowered).factorsRestored

/-- HAUL_ALM_TIMEOUT: after 1.0 ms a SENSOR unit reset is performed, so its attempt takes in every lane again (R370, R372); ALARM stays
until the pin falls (R384). -/
def execHaulAlmTimeout (s : State) : Out :=
  live s (fun t =>
    if t.haul.almWait then
      ((t.adcCalEnds stFailAborted 0).sensorCycled).onHaul (fun h => { h.train 3 with lanesFailed := 0, barred := 0 })
    else t)

/-! ## UNIT_RESET (R166 to R175, R531) -/

/-- Unit codes (R540). -/
def unitKnown (u : Nat) : Bool := u < 6 || (0x10 ≤ u && u < 0x24) || (0x30 ≤ u && u < 0x33)

/-- A readout, or a calibration of the ADCs, runs. -/
def State.readoutBusy (s : State) : Bool := s.rd.isArmed || s.rd.state = .adcCal || s.rd.state = .seeding

/-- A profile or program of a bank runs, or a fire is scheduled on it (R166). -/
def State.bankBusy (s : State) (bank : Nat) : Bool :=
  (bankChans bank).any (fun i => (s.chan i).phase ≠ .off || (s.chan i).waiting.isSome) || (s.act.chisel bank).run
    || s.act.schedules.any (fun x => bankOf x.ch = bank)

/-- An angle trigger is armed: the trigger source or a scheduled fire refers to the angle table (R166). -/
def State.angleArmed (s : State) : Bool := s.act.schedules.any (fun x => x.ref = 3) || (s.trig.cfg.source = 6 && s.rd.isArmed)

/-- A program or erase of the parameter store is in progress. -/
def State.pstoBusy (s : State) : Bool := s.psto.busy || s.psto.erasing ≠ 0xFF || s.psto.job.isSome || !s.psto.queued.isEmpty

/-- The unit is idle (R166). -/
def State.unitIdle (s : State) (u : Nat) : Bool :=
  match u with
  | 0 => s.runningStreams.isEmpty
  | 1 => !s.readoutBusy
  | 2 => !s.readoutBusy
  | 3 => !s.bankBusy 0
  | 4 => !s.bankBusy 1
  | 5 => !(s.act.move.isSome)
  | 0x20 => false
  | 0x21 => !s.streams.any (fun x => x.opened && x.route.testBit 1)
  | 0x22 => !s.streams.any (fun x => x.opened && x.route.testBit 2)
  | 0x23 => !s.streams.any (fun x => x.opened && x.route.testBit 3)
  | 0x30 => !s.angleArmed
  | 0x31 => s.gang.state ≤ 1 && s.gang.joiner.isNone
  | 0x32 => !s.pstoBusy
  | k => !(s.stream (k - 0x10)).running

/-- The unit's power domain is off (R168, R32, R34). -/
def State.unitOff (s : State) (u : Nat) : Bool :=
  match u with
  | 1 => s.rd.state = .off
  | 2 => s.rd.state = .off
  | 3 => !s.act.bankOn 0
  | 4 => !s.act.bankOn 1
  | _ => 0x20 ≤ u && u < 0x24 && !(s.cxp.links.getD (u - 0x20) Link.off).powered

/-- R167, R168, and a unit whose reset runs already. -/
def unitGate (unit mode : Nat) (s : State) : Gate where
  params := [(0, !unitKnown unit), (1, 1 < mode)]
  tier := 1
  owner := none
  state := stateIf ((s.pwr.mode = .ledge && unit ≠ 0x32) || s.unitOff unit || s.rstc.unitBusy.isSome || (mode = 0 && !s.unitIdle unit))

/-- Fence of a bank: switches off at once, fires end with FAIL_FENCED (R171, R749). -/
def State.bankFenced (bank : Nat) (s : State) : State :=
  let s1 := (bankChans bank).foldl (fun x i => x.dropWaiting i stFailFenced []) s
  s1.endSchedules (fun x => bankOf x.ch = bank) stFailFenced

/-- Fence of the shutter: the calibration and the command that moves it end with FAIL_FENCED (R171, R173). -/
def State.shutFenced (s : State) : State :=
  let s1 := s.calEnds stFailFenced false
  match s1.act.move with
  | some { asker := .command session tag, .. } => s1.complete0 session tag 0x36 stFailFenced [0#8]
  | _ => s1

/-- Fence of one stream: its frame in transfer is truncated, what waits for its end is fenced, the stream stays open (R171). DESIGN CHOICE
(log entry 155): R171 halts the stream with a frame in transfer; a stream that runs with none in transfer goes on running. -/
def State.streamFenced (i : Nat) (s : State) : State :=
  let s1 := (s.sess.flights.filter (fun f => f.st = .waiting (.frameEnd i))).foldl (fun t f => t.answerOpen f stFailFenced []) s
  if (s.stream i).inFrame || (s.stream i).snap.isSome then
    (((s1.onStream i (fun x => { x with closeDue := false })).truncate stFailFenced i).settle).convFrameEnd
  else s1

/-- What the isolation wrapper completes (R171 to R173, R380). -/
def State.fence (u : Nat) (s : State) : State :=
  match u with
  | 0 => (((((s.calEnds stFailFenced false).truncateAll stFailFenced (fun x => x.inFrame)).settle).convFrameEnd).recallCut
      stFailFenced).saveEnds stFailFenced
  | 1 => (((s.stopReadout stFailFenced).convFrameEnd).adcCalEnds stFailFenced 0).regsEnd stFailFenced
  | 2 => (((s.stopReadout stFailFenced).convFrameEnd).adcCalEnds stFailFenced 0).regsEnd stFailFenced
  | 3 => s.bankFenced 0
  | 4 => s.bankFenced 1
  | 5 => s.shutFenced
  | 0x30 => s.endSchedules (fun x => x.ref = 3) stFailFenced
  | 0x31 => s.joinEnds stFailFenced 0
  | 0x32 => s.queuedEnd stFailFenced
  | 0x20 => s
  | 0x21 => s
  | 0x22 => s
  | 0x23 => s
  | k => s.streamFenced (k - 0x10)

/-- Pipeline stages, lag-filter state and the Sieve's position are cleared; coefficients stay (R166). -/
def Pipe.cleared (p : Pipe) : Pipe :=
  { p with
    position := 0
    lastRef := none
    prevRow := []
    csto := p.csto.map recHold }

/-- Bank switches, Chisel registers and fault latches are cleared; configuration and program stay (R166, R731). -/
def Act.bankCleared (bank t : Nat) (a : Act) : Act :=
  { a with
    chans := a.chans.mapIdx (fun i c => if bankOf i = bank then { c.finish t with disabled := false, waiting := none } else c)
    bankDisabled := a.bankDisabled.modify bank (fun _ => false)
    slots := a.slots.modify bank (fun _ => none)
    chisels := a.chisels.modify bank (fun c => { Chisel.reset with words := c.words, loaded := c.loaded }) }

/-- The bridge is off and the move forgotten; a position that was being left is unknown (R166, R731, R766). -/
def Act.shutCleared (t : Nat) (a : Act) : Act :=
  { a with
    chans := a.chans.modify 8 (fun c => { c.finish t with disabled := false, waiting := none })
    chisels := a.chisels.modify 2 (fun c => { c with run := false, wait := .none, drove := [], dipArm := none })
    position := if a.moving then 0 else a.position
    move := none
    vshrWait := false }

/-- Position, error count and LOST are cleared; table and configuration stay (R166). -/
def Enc.cleared (e : Enc) : Enc :=
  { e with
    position := 0
    errCount := 0
    errStamps := []
    lostDue := false
    state := if e.state = 1 then 0 else e.state }

/-- Controller state and queue of the parameter store: a suspended erase runs on to its end, stores that wait are forgotten (R166, R171). -/
def Psto.cleared (p : Psto) : Psto := { p with suspended := false, bg := [] }

/-- What the reset of a unit clears at once (R166). -/
def State.unitClear (u : Nat) (s : State) : State :=
  match u with
  | 0 => s.onPipe Pipe.cleared
  | 0x32 => s.onPsto Psto.cleared
  | 1 => s.onHaul (Haul.train 2)
  | 2 => s.sensorCycled.onHaul (Haul.train 2)
  | 3 => s.onAct (Act.bankCleared 0 s.tb.now)
  | 4 => s.onAct (Act.bankCleared 1 s.tb.now)
  | 5 => s.onAct (Act.shutCleared s.tb.now)
  | 0x30 => s.onEnc Enc.cleared
  | 0x31 => s.gangOut
  | _ => s

/-- Rate at which a link answers discovery: CXP_START, CXP-1 in Ledge (R493). -/
def State.discoveryRate (s : State) : Nat := if s.pwr.mode = .ledge then 1 else s.psto.opt.cxpStart

/-- A link in discovery; only PHY 0 is powered in Ledge and in Ride-through (R199, R493). -/
def State.linkInDiscovery (s : State) (i : Nat) (l : Link) : Link :=
  { l with
    up := false
    configured := false
    rate := s.discoveryRate
    powered := if i = 0 then l.powered else s.pwr.mode ≠ .ledge && s.pwr.mode ≠ .ride }

/-- Link 0 is lost: every stream is halted as its frame in transfer is truncated, replies of the last millisecond are marked for
replay, and every link is in discovery (R513, R528); what is raised meanwhile finds link 0 down. `st` ends a FRAME_SNAP. -/
def State.link0Lost (st : Nat) (s : State) : State :=
  let s0 := s.onCxp (fun c => { c with links := c.links.modify 0 (fun l => { l with up := false }) })
  let s1 := ((s0.truncateAll st (fun _ => true)).settle).convFrameEnd
  (s1.onSess (Sess.markReplay s.tb.now)).onCxp (fun c => { c with links := c.links.mapIdx s.linkInDiscovery, cfgRate := s.discoveryRate })

/-- Link 1 to 3 is lost: the streams routed on it are halted (R527). -/
def State.linkLost (st n : Nat) (s : State) : State :=
  let s1 := s.onCxp (fun c => { c with links := c.links.modify n (fun l => { l with up := false }) })
  ((s1.truncateAll st (fun x => x.route.testBit n)).settle).convFrameEnd

/-- The loss of a link, whatever its cause. -/
def State.linkDown (st n : Nat) (s : State) : State := if n = 0 then s.link0Lost st else s.linkLost st n

/-- A link's PHY is reset after the reply; a FENCE ends what it had accepted with FAIL_FENCED (R170, R171, R531). -/
def State.linkReset (h : Hdr) (unit mode : Nat) (s : State) : State :=
  (((s.answer h 0x0C stOk []).linkDown (if mode = 1 then stFailFenced else stFailAborted) (unit - 0x20)).unitEvent unit mode).reevaluate

/-- The reset of a unit that takes a training attempt, or the end of the erase in progress (R166, R171, R364). -/
def State.unitWaits (u : Nat) (s : State) : Bool := u = 1 || u = 2 || (u = 0x32 && s.pstoBusy)

/-- Register accesses in flight complete before a QUIET reset of HAUL or SENSOR begins (R378). -/
def State.regsFirst (s : State) (u : Nat) : Bool := (u = 1 || u = 2) && s.haul.running && !s.haul.pendingRegs.isEmpty

/-- UNIT_RESET's own effect; the resources that the unit held are free (R169, R171). -/
def unitBody (h : Hdr) (unit mode : Nat) (s : State) : State :=
  if 0x20 ≤ unit && unit < 0x24 then s.linkReset h unit mode
  else
    let s0 := if mode = 1 then s.fence unit else s
    let s1 := if s0.regsFirst unit then s0 else s0.unitClear unit
    if s1.unitWaits unit then (s1.onRstc (fun r => { r with unitBusy := some (unit, mode) })).park h 0x0C (.unit unit) |>.reevaluate
    else ((s1.answer h 0x0C stOk []).unitEvent unit mode).reevaluate

/-- UNIT_RESET (R597). -/
def execUnitReset (h : Hdr) (unit mode : Nat) (s : State) : Out :=
  live s (serve h 0x0C (.unitReset h unit mode) (unitGate unit mode) (unitBody h unit mode))

end Sys2Proof.Machine
end

