-- ==== Sys2Proof/Machine/Packets.lean ====
section
/-!
DEFINITION. Packets of NCP (spec/11_command_packets_and_sessions.md R533 to R537): layouts of commands, replies and events, and
the command that a packet spells under the parameter layouts of spec/12_command_catalogue.md.
-/

namespace Sys2Proof.Machine

open Sys2Proof

/-- `n` bytes at an offset as a number (R8). -/
def at_ (bs : List Byte) (k n : Nat) : Nat := ofLe ((bs.drop k).take n)

/-- Bytes with their CRC appended (R537). -/
def withCrc (bs : List Byte) : List Byte := bs ++ le 4 (crc32 bs).toNat

/-- CTRL of a command (R533). -/
def hdrCtrl (h : Hdr) : Nat := bit h.push * 128 + bit h.urgent * 64 + h.cls * 16 + h.session

/-- A command packet (R533). -/
def commandPacket (h : Hdr) (op : Nat) (params : List Byte) : List Byte :=
  withCrc ([0xC5#8, 0x02#8] ++ le 1 (hdrCtrl h) ++ le 1 h.tag ++ le 1 op ++ [0#8] ++ le 2 params.length ++ params)

/-- A reply packet (R534). -/
def Reply.packet (r : Reply) : List Byte :=
  withCrc ([0xC6#8, 0x02#8] ++ le 1 (bit r.push * 128 + bit r.urgent * 64 + r.cls * 16 + r.session) ++ le 1 r.tag
    ++ le 1 r.opcode ++ le 1 r.status ++ le 2 r.result.length ++ r.result)

/-- An event packet as a session receives it (R536). -/
def Event.packet (e : Event) (session seq : Nat) (overflow : Bool) : List Byte :=
  withCrc ([0xC7#8, 0x02#8] ++ le 1 (bit overflow * 32 + bit e.target.isSome * 16 + session) ++ le 1 seq ++ le 1 e.code
    ++ le 1 e.status ++ le 2 (8 + e.data.length) ++ le 8 e.time ++ e.data)

/-- What the bytes of a packet spell under checks 7 and 8 (R543). -/
inductive Pkt where
  | badOpcode
  | badLength
  | cmd (i : Instr)

/-- First non-zero byte among reserved offsets (R13). -/
def reservedAt (bs : List Byte) (l : List Nat) : Option Nat := l.find? (fun k => at_ bs k 1 ≠ 0)

/-- A command of fixed length with reserved offsets. -/
def fixedPkt (bs : List Byte) (len : Nat) (res : List Nat) (h : Hdr) (f : Hdr → Instr) : Pkt :=
  if bs.length = len then .cmd (f { h with res := reservedAt bs res }) else .badLength

/-- A header of `hd` bytes with `n` entries of `e` bytes (R593). -/
def countedPkt (bs : List Byte) (hd e n : Nat) (res : List Nat) (h : Hdr) (f : Hdr → Instr) : Pkt :=
  if hd ≤ bs.length && bs.length = hd + e * n then .cmd (f { h with res := reservedAt bs res }) else .badLength

/-- Offsets of an entry run. -/
def runAt (hd e n : Nat) : List Nat := (List.range n).map (fun k => hd + e * k)

/-- One entry of DEFECT_EDIT (R611). -/
def defectEntryOf (v : Nat) : DefectEntry :=
  { index := v % 2 ^ 21, zero := v / 2 ^ 21 % 8, set := v / 2 ^ 24 % 16, clear := v / 2 ^ 28 % 16 }

/-- Opcodes 0x00 to 0x0F (R597). -/
def decodeSystem (h : Hdr) (op : Nat) (bs : List Byte) : Pkt :=
  match op with
  | 0x00 => if bs.length ≤ 244 then .cmd (.ping { h with res := none } bs) else .badLength
  | 0x01 => fixedPkt bs 4 [] h (fun h => .sessionOpen h (at_ bs 0 4))
  | 0x02 => fixedPkt bs 4 [1, 2, 3] h (fun h => .sessionClose h (at_ bs 0 1))
  | 0x03 => fixedPkt bs 8 [6, 7] h (fun h => .sessionPolicy h (at_ bs 0 4) (at_ bs 4 2))
  | 0x04 => fixedPkt bs 4 [1, 2, 3] h (fun h => .claim h (at_ bs 0 1))
  | 0x05 => fixedPkt bs 4 [2, 3] h (fun h => .release h (at_ bs 0 1) (at_ bs 1 1))
  | 0x06 => fixedPkt bs 0 [] h (fun h => .statusGet h)
  | 0x07 => fixedPkt bs 4 [] h (fun h => .eventSubscribe h (at_ bs 0 4))
  | 0x08 => fixedPkt bs 0 [] h (fun h => .replyFetch h)
  | 0x09 => fixedPkt bs 4 [2, 3] h (fun h => .cancel h (at_ bs 0 1) (at_ bs 1 1))
  | 0x0A => fixedPkt bs 4 [1, 2, 3] h (fun h => .modeSet h (at_ bs 0 1))
  | 0x0B => fixedPkt bs 4 [1, 2, 3] h (fun h => .sysReset h (at_ bs 0 1))
  | 0x0C => fixedPkt bs 4 [2, 3] h (fun h => .unitReset h (at_ bs 0 1) (at_ bs 1 1))
  | 0x0D => fixedPkt bs 0 [] h (fun h => .timeGet h)
  | 0x0E => fixedPkt bs 4 [2, 3] h (fun h => .hostKeepalive h (at_ bs 0 2))
  | 0x0F => fixedPkt bs 8 [5, 6, 7] h (fun h => .wdgConfig h (at_ bs 0 4) (at_ bs 4 1))
  | _ => .badOpcode

/-- Opcodes 0x10 to 0x1A (R603). -/
def decodeStreams (h : Hdr) (op : Nat) (bs : List Byte) : Pkt :=
  match op with
  | 0x10 => fixedPkt bs 12 [5, 10, 11] h (fun h => .streamOpen h
      { wait := at_ bs 0 2, stream := at_ bs 2 1, pixfmt := at_ bs 3 1, route := at_ bs 4 1, colStart := at_ bs 6 2,
        colCount := at_ bs 8 2 })
  | 0x11 => fixedPkt bs 4 [1, 2, 3] h (fun h => .streamClose h (at_ bs 0 1))
  | 0x12 => fixedPkt bs 4 [3] h (fun h => .streamStart h (at_ bs 0 2) (at_ bs 2 1))
  | 0x13 => fixedPkt bs 4 [1, 2, 3] h (fun h => .streamHalt h (at_ bs 0 1))
  | 0x14 => fixedPkt bs 10 [] h (fun h => .streamModify h
      { wait := at_ bs 0 2, stream := at_ bs 2 1, present := at_ bs 3 1, pixfmt := at_ bs 4 1, route := at_ bs 5 1,
        colStart := at_ bs 6 2, colCount := at_ bs 8 2 })
  | 0x15 => fixedPkt bs 16 [] h (fun h => .readoutConfig h
      { wait := at_ bs 0 2, present := at_ bs 2 1, gain := at_ bs 3 1, rt := at_ bs 4 2, int := at_ bs 6 2,
        start := at_ bs 8 2, count := at_ bs 10 2, period := at_ bs 12 4 })
  | 0x16 => fixedPkt bs 4 [3] h (fun h => .readoutArm h (at_ bs 0 2) (at_ bs 2 1))
  | 0x17 => fixedPkt bs 4 [1] h (fun h => .frameSnap h (at_ bs 0 1) (at_ bs 2 2))
  | 0x18 => fixedPkt bs 8 [5, 6, 7] h (fun h => .pipeConfig h (at_ bs 0 2) (at_ bs 2 2) (at_ bs 4 1))
  | 0x19 => fixedPkt bs 8 [4, 5, 6, 7] h (fun h => .radiometrySet h (at_ bs 0 2) (at_ bs 2 2))
  | 0x1A => fixedPkt bs 4 [1, 2, 3] h (fun h => .qualityConfig h (at_ bs 0 1))
  | _ => .badOpcode

/-- Opcodes 0x20 to 0x29 (R611). -/
def decodeCal (h : Hdr) (op : Nat) (bs : List Byte) : Pkt :=
  match op with
  | 0x20 => fixedPkt bs 0 [] h (fun h => .adcCal h)
  | 0x21 => fixedPkt bs 8 [] h (fun h => .shutterCal h (at_ bs 0 2) (at_ bs 2 2) (at_ bs 4 2) (at_ bs 6 2))
  | 0x22 => fixedPkt bs 8 [] h (fun h => .gainCal h (at_ bs 0 2) (at_ bs 2 2) (at_ bs 4 2) (at_ bs 6 2))
  | 0x23 => fixedPkt bs 4 [3] h (fun h => .driftConfig h (at_ bs 0 2) (at_ bs 2 1))
  | 0x24 => fixedPkt bs 4 [] h (fun h => .shutterInhibit h (at_ bs 0 4))
  | 0x25 => countedPkt bs 4 4 (at_ bs 2 2) [] h (fun h => .defectEdit h (at_ bs 0 2)
      ((runAt 4 4 (at_ bs 2 2)).map (fun k => defectEntryOf (at_ bs k 4))))
  | 0x26 => fixedPkt bs 4 [3] h (fun h => .calsetSelect h (at_ bs 0 2) (at_ bs 2 1))
  | 0x27 => fixedPkt bs 4 [2, 3] h (fun h => .calsetSave h (at_ bs 0 2))
  | 0x28 => fixedPkt bs 8 [5, 6, 7] h (fun h => .coeffRead h (at_ bs 0 4) (at_ bs 4 1))
  | 0x29 => countedPkt bs 8 10 (at_ bs 6 2) [] h (fun h => .coeffWrite h (at_ bs 0 2) (at_ bs 2 4)
      ((runAt 8 10 (at_ bs 6 2)).map (fun k => BitVec.ofNat 80 (at_ bs k 10))))
  | _ => .badOpcode

/-- Opcodes 0x30 to 0x36 (R615). -/
def decodeAct (h : Hdr) (op : Nat) (bs : List Byte) : Pkt :=
  match op with
  | 0x30 => fixedPkt bs 28 [3] h (fun h => .actConfig h (at_ bs 0 1)
      { mode := at_ bs 1 1, retrigger := at_ bs 2 1, iPeak := at_ bs 4 2, iHold := at_ bs 6 2, band := at_ bs 8 2,
        minPeak := at_ bs 10 2, maxPeak := at_ bs 12 2, dipStart := at_ bs 14 2, dipEnd := at_ bs 16 2,
        peakDelay := at_ bs 18 2, dutyLimit := at_ bs 20 2, dutyWindow := at_ bs 22 2, defHold := at_ bs 24 4 })
  | 0x31 => countedPkt bs 8 4 (at_ bs 4 2) [1, 6, 7] h (fun h => .actProgramLoad h (at_ bs 0 1) (at_ bs 2 2)
      ((runAt 8 4 (at_ bs 4 2)).map (fun k => at_ bs k 4)))
  | 0x32 => fixedPkt bs 8 [] h (fun h => .actFire h (at_ bs 0 2) (at_ bs 2 1) (at_ bs 3 1) (at_ bs 4 4))
  | 0x33 => fixedPkt bs 24 [5, 6, 7] h (fun h => .actSchedule h
      { wait := at_ bs 0 2, ch := at_ bs 2 1, kind := at_ bs 3 1, ref := at_ bs 4 1, value := at_ bs 8 8,
        offset := at_ bs 16 4, hold := at_ bs 20 4 })
  | 0x34 => fixedPkt bs 4 [3] h (fun h => .actAbort h (at_ bs 0 1) (at_ bs 1 1) (at_ bs 2 1))
  | 0x35 => fixedPkt bs 4 [1, 2, 3] h (fun h => .actDiagGet h (at_ bs 0 1))
  | 0x36 => fixedPkt bs 4 [3] h (fun h => .shutterMove h (at_ bs 0 2) (at_ bs 2 1))
  | _ => .badOpcode

/-- Opcodes 0x40 to 0x46 (R621). -/
def decodeStorage (h : Hdr) (op : Nat) (bs : List Byte) : Pkt :=
  match op with
  | 0x40 => fixedPkt bs 8 [5, 6, 7] h (fun h => .pstoRead h (at_ bs 0 4) (at_ bs 4 1))
  | 0x41 => countedPkt bs 8 1 (at_ bs 4 2) [6, 7] h (fun h => .pstoWrite h (at_ bs 0 4) (bs.drop 8))
  | 0x42 => fixedPkt bs 4 [2, 3] h (fun h => .pstoErase h (at_ bs 0 1) (at_ bs 1 1))
  | 0x43 => fixedPkt bs 4 [1, 2, 3] h (fun h => .pstoProtect h (at_ bs 0 1))
  | 0x44 => fixedPkt bs 0 [] h (fun h => .counterGet h)
  | 0x45 => fixedPkt bs 4 [3] h (fun h => .logRead h (at_ bs 0 2) (at_ bs 2 1))
  | 0x46 => fixedPkt bs 0 [] h (fun h => .logClear h)
  | _ => .badOpcode

/-- Opcodes 0x50 to 0x56 (R625). -/
def decodeTrig (h : Hdr) (op : Nat) (bs : List Byte) : Pkt :=
  match op with
  | 0x50 => fixedPkt bs 16 [6, 7, 15] h (fun h => .trigConfig h
      { pads := at_ bs 0 1, dirs := at_ bs 1 1, source := at_ bs 2 1, mode := at_ bs 3 1, edge := at_ bs 4 1,
        filter := at_ bs 5 1, func0 := at_ bs 8 1, func1 := at_ bs 9 1, func2 := at_ bs 10 1, func3 := at_ bs 11 1,
        gpio := at_ bs 12 1, gpioDir := at_ bs 13 1, gpioOut := at_ bs 14 1 })
  | 0x51 => fixedPkt bs 12 [3] h (fun h => .encConfig h
      { mode := at_ bs 0 1, invert := at_ bs 1 1, clearZ := at_ bs 2 1, cpr := at_ bs 4 4, preset := at_ bs 8 4 })
  | 0x52 => countedPkt bs 4 8 (at_ bs 1 1)
      ([2, 3] ++ ((runAt 4 8 (at_ bs 1 1)).map (fun k => [k + 6, k + 7])).flatten) h (fun h => .angleTableLoad h (at_ bs 0 1)
      ((runAt 4 8 (at_ bs 1 1)).map (fun k => { position := at_ bs k 4, action := at_ bs (k + 4) 1, handle := at_ bs (k + 5) 1 })))
  | 0x53 => fixedPkt bs 4 [2, 3] h (fun h => .gangConfig h (at_ bs 0 1) (at_ bs 1 1))
  | 0x54 => fixedPkt bs 4 [0, 1, 2, 3] h (fun h => .gangJoin h)
  | 0x55 => fixedPkt bs 0 [] h (fun h => .gangLeave h)
  | 0x56 => fixedPkt bs 0 [] h (fun h => .gangStatus h)
  | _ => .badOpcode

/-- Opcodes 0x60 to 0x77 (R629, R630). -/
def decodeMaintenance (h : Hdr) (op : Nat) (bs : List Byte) : Pkt :=
  match op with
  | 0x60 => fixedPkt bs 0 [] h (fun h => .thermalGet h)
  | 0x61 => fixedPkt bs 4 [2, 3] h (fun h => .thermalConfig h (at_ bs 0 2))
  | 0x62 => fixedPkt bs 0 [] h (fun h => .powerGet h)
  | 0x63 => fixedPkt bs 4 [2, 3] h (fun h => .rideConfig h (at_ bs 0 2))
  | 0x70 => fixedPkt bs 0 [] h (fun h => .fwInfo h)
  | 0x71 => countedPkt bs 8 1 (at_ bs 6 2) [1] h (fun h => .fwWrite h (at_ bs 0 1) (at_ bs 2 4) (bs.drop 8))
  | 0x72 => fixedPkt bs 4 [1, 2, 3] h (fun h => .fwVerify h (at_ bs 0 1))
  | 0x73 => fixedPkt bs 4 [2, 3] h (fun h => .fwActivate h (at_ bs 0 1) (at_ bs 1 1))
  | 0x74 => fixedPkt bs 8 [5, 6, 7] h (fun h => .regRead h (at_ bs 0 4) (at_ bs 4 1))
  | 0x75 => fixedPkt bs 8 [] h (fun h => .regWrite h (at_ bs 0 4) (at_ bs 4 4))
  | 0x76 => fixedPkt bs 0 [] h (fun h => .ledgeExit h)
  | 0x77 => fixedPkt bs 4 [2, 3] h (fun h => .fuseRead h (at_ bs 0 1) (at_ bs 1 1))
  | _ => .badOpcode

/-- The command an opcode and its parameter bytes spell (R592, R593). -/
def decodeParams (h : Hdr) (op : Nat) (bs : List Byte) : Pkt :=
  if op < 0x10 then decodeSystem h op bs
  else if op < 0x20 then decodeStreams h op bs
  else if op < 0x30 then decodeCal h op bs
  else if op < 0x40 then decodeAct h op bs
  else if op < 0x50 then decodeStorage h op bs
  else if op < 0x60 then decodeTrig h op bs
  else decodeMaintenance h op bs

/-- The header that a packet's first bytes spell (R533). -/
def hdrOf (bs : List Byte) (tick : Nat) : Hdr :=
  { session := at_ bs 2 1 % 16, tag := at_ bs 3 1, cls := at_ bs 2 1 / 16 % 4, urgent := at_ bs 2 1 / 64 % 2 = 1,
    push := at_ bs 2 1 / 128 = 1, tick := tick, res := none }

/-- Check 5 on the bytes: MAGIC, VERSION, reserved byte (R543). -/
def frameOk (bs : List Byte) : Bool := at_ bs 0 1 = 0xC5 && at_ bs 1 1 = 0x02 && at_ bs 5 1 = 0

/-- Check 1: the length against PLEN, which is at most 1,024 (R505, R533). -/
def lengthOk (bs : List Byte) (n : Nat) : Bool := 12 ≤ n && n ≤ 1036 && bs.length = n && n = 12 + at_ bs 6 2

/-- Check 2: the CRC over all but the last four bytes (R534, R537). -/
def crcOk (bs : List Byte) : Bool := at_ bs (bs.length - 4) 4 = (crc32 (bs.take (bs.length - 4))).toNat

/-- A packet submitted by DOORBELL passes checks 1 to 4 at the mailbox; a packet that no opcode row can take is answered with its
first failing check, every other one joins the queue (R504 to R506, R543, R545, R548). -/
def submit (mbox n : Nat) (bs : List Byte) (t : Nat) (s : State) : State :=
  let h := hdrOf bs t
  let op := at_ bs 4 1
  if !lengthOk bs n then s.mailboxAnswer mbox h.tag op h.cls h.urgent 1 stErrLength []
  else if !crcOk bs then s.mailboxAnswer mbox h.tag op h.cls h.urgent 2 stErrCrc []
  else if h.session ≠ mbox then s.mailboxAnswer mbox h.tag op h.cls h.urgent 4 stErrParam []
  else if (if slotted h op then s.sess.slotBusy mbox else 8 ≤ s.sess.inflight mbox || s.sess.free = 0) then s.refuseBusy h op
  else
    let reject := fun st => ((s.packetIn).onSess (Sess.setLast mbox 0)).answer h op st []
    if !frameOk bs || h.cls = 3 || s.sess.tagBusy mbox h.tag || (h.urgent && !urgentPath op) then reject stErrParam
    else match decodeParams h op ((bs.drop 8).take (n - 12)) with
      | .cmd i => s.enqueue (hdrOf bs t) op i
      | .badOpcode => reject (if (s.sess.get mbox).opened then stErrOpcode else stState)
      | .badLength => reject (if !(s.sess.get mbox).opened && op ≠ 0x00 && op ≠ 0x01 then stState else stErrLength)

end Sys2Proof.Machine
end

