-- ==== Sys2Proof/Machine/Thermal.lean ====
section
/-!
DEFINITION. Temperature sampling, the warning and the thermal level (spec/16_thermal_management.md R810 to R832), and opcodes 0x60
to 0x63 (spec/12_command_catalogue.md R629).
-/

namespace Sys2Proof.Machine

open Sys2Proof

/-! ## Sensors (R811 to R816), readings in 1/64 °C -/

/-- A conversion within −60 °C to +170 °C (R813). -/
def sampleGood (r : Option Int) : Bool :=
  match r with
  | some v => -3840 ≤ v && v ≤ 10880
  | none => false

/-- Counts of consecutive bad and good samples after one more: three bad ones make a sensor invalid, three good ones valid again
(R813). -/
def sensorCount (ok : Bool) (bad good : Nat) : Nat × Nat :=
  if ok then (if bad < 3 then (0, 0) else if 2 ≤ good then (0, 0) else (bad, good + 1))
  else (min 3 (bad + 1), 0)

/-- One sensor after a sample: its reading, the two counts and whether it is invalid; an unpowered one is invalid without the count
(R813, R814). -/
def sensorStep (powered : Bool) (r : Option Int) (old : Option Int) (bad good : Nat) : Option Int × Nat × Nat × Bool :=
  if powered then
    let c := sensorCount (sampleGood r) bad good
    (if sampleGood r then r else old, c.1, c.2, c.1 = 3)
  else (none, 0, 0, true)

/-- Sensor 0 in 1/64 °C from a focal-plane code (R811). -/
def fpaReading (code : Int) : Int := roundDivI (code - 25600) 4

/-- A sample in 1/64 °C: sensor 0 converts to a focal-plane code, the others are reported after their TSENS_TRIM (R122, R811). -/
def State.tempReadings (raw : List (Option Int)) (s : State) : List (Option Int) :=
  raw.mapIdx (fun n r => r.map (fun v => if n = 0 then fpaReading v else saturate 16 (v + s.psto.opt.tsensTrim.getD n 0)))

/-- The focal-plane temperature that a sample has shown (R331, R810). -/
def Rd.fpaSampled (raw : List (Option Int)) (r : Rd) : Rd :=
  match raw.head? with
  | some (some v) => { r with fpaNow := v.toNat % 0x10000 }
  | _ => r

/-- The sensors after a sample. -/
def Thm.sampled (powered : Nat → Bool) (temps : List (Option Int)) (t : Thm) : Thm :=
  let l := (List.range 9).map (fun n =>
    sensorStep (powered n) (temps.getD n none) (t.readings.getD n none) (t.bad.getD n 0) (t.good.getD n 0))
  { t with
    readings := l.map (·.1)
    bad := l.map (·.2.1)
    good := l.map (·.2.2.1)
    invalid := maskOf (·.2.2.2) l }

/-- The highest valid reading and its sensor, the lowest number among equals (R812). -/
def Thm.highest (t : Thm) : Option (Nat × Int) :=
  (List.range 9).foldl (fun best n =>
    if t.invalid.testBit n then best
    else match t.readings.getD n none, best with
      | some v, some (m, w) => if w < v then some (n, v) else some (m, w)
      | some v, none => some (n, v)
      | none, b => b) none

/-- MAX is formed at every sample; 137.0 °C begins fast sampling (R812, R816). -/
def Thm.formMax (t : Thm) : Thm :=
  match t.highest with
  | some (n, v) => { t with maxSensor := n, max := v, fast := t.fast || 8768 ≤ v }
  | none => t

/-- Sensor and reading as events carry them (R539). -/
def Thm.maxBytes (t : Thm) : List Byte := le 1 t.maxSensor ++ leInt 2 t.max

/-- The warning is set at WARN_LEVEL and cleared 5.0 °C below it, each with its event (R819, R821, R822). -/
def State.warnStep (s : State) : State :=
  if !s.thm.warn && s.thm.warnLevel ≤ s.thm.max then
    (s.onThm (fun t => { t with warn := true })).raise 0x07 (le 1 s.thm.maxSensor ++ [0#8] ++ leInt 2 s.thm.max)
  else if s.thm.warn && s.thm.max < s.thm.warnLevel - 320 then
    (s.onThm (fun t => { t with warn := false })).raise 0x09 (le 1 s.thm.level ++ s.thm.maxBytes)
  else s

/-! ## The thermal level (R823 to R832) -/

/-- The healthy phases, by the charge each carried over the last 60 s, which the spec leaves open (log entry 2). -/
def State.phaseCharge (s : State) (i : Nat) : Nat := (Config.freeValue (s.freeCtr + i)).toNat

/-- Healthy phases that carried less charge than one, equal charges in order of their number. -/
def State.phasesBelow (s : State) (i : Nat) : Nat :=
  ((List.range 4).filter (fun j => s.pwr.healthy.testBit j
    && (s.phaseCharge j < s.phaseCharge i || (s.phaseCharge j = s.phaseCharge i && j < i)))).length

/-- At level 3 all healthy phases but the two of least charge are idled (R830). -/
def State.phasesIdled (s : State) : State :=
  { s with
    freeCtr := s.freeCtr + 4
    pwr := { s.pwr with
      phIdled := ((List.range 4).filter (fun i => s.pwr.healthy.testBit i && 2 ≤ s.phasesBelow i)).foldl (fun m i => m + 2 ^ i) 0 } }

/-- The level rises by one, with its event and its effects (R823, R826, R827). -/
def State.thermalRaised (s : State) : State :=
  let s1 := (s.onThm (fun t => { t with level := t.level + 1, lastRaise := s.tb.now })).raise 0x08
    (le 1 (s.thm.level + 1) ++ s.thm.maxBytes)
  let s2 := if s.thm.level = 2 then s1.phasesIdled else s1
  s2.levelRaised s.level

/-- Ride-through has been entered in the present AON tick: it outranks a throttle step of the same instant (R27). -/
def State.rideOutranks (s : State) : Bool := s.pwr.mode = .ride && s.pwr.rideStart / 100 = s.tb.now / 100

/-- The level rises at 143.0 °C, and again once 500 ms have passed since the last raise (R823, R825); a step of the instant at which
Ride-through is entered is abandoned (R27). -/
def State.raiseDue (s : State) : State :=
  if s.rideOutranks then s
  else if s.thm.level < 3 && 9152 ≤ s.thm.max && (s.thm.level = 0 || s.thm.lastRaise + msTicks 500 ≤ s.tb.now) then s.thermalRaised else s

/-- The level falls by one: idled phases return, EV_THERMAL_CLEAR, and below level 2 the configured periods come back with the
admission that this asks for (R824, R827, R830, R832, R577). -/
def State.thermalLowered (s : State) : State :=
  let s1 := (s.onThm (fun t => { t with level := t.level - 1 })).raise 0x09 (le 1 (s.thm.level - 1) ++ s.thm.maxBytes)
  let s2 := s1.onPwr (fun p => { p with phIdled := 0 })
  let s3 := s2.rateStep
  (if s.thm.level = 2 then s3.restoreDemand else s3).reevaluate

/-- A sample of the nine sensors: their readings, MAX, and the focal-plane temperature it shows (R811 to R816). -/
def State.thermalSampled (raw : List (Option Int)) (s : State) : State :=
  (s.onThm (fun x => (x.sampled s.rstc.sensorPowered (s.tempReadings raw)).formMax)).onRd
    (fun r => if s.rstc.sensorPowered 0 then r.fpaSampled raw else r)

/-- THERMAL_SAMPLE: while the core runs (R815 to R817). -/
def execThermalSample (temps : List (Option Int)) (tick : Nat) (s : State) : Out :=
  live s (onCore (fun t0 =>
    let t := ((t0.atTick tick).driftSample).thermalSampled temps
    if t.thm.highest.isNone then t else t.warnStep.raiseDue))

/-- THERMAL_RAISE_TIMER: 500 ms after a raise with MAX still at 143.0 °C (R823). -/
def execThermalRaiseTimer (tick : Nat) (s : State) : Out :=
  live s (onCore (fun t => if 0 < t.thm.level then (t.atTick tick).raiseDue else t))

/-- THERMAL_LOWER_TIMER: 2 s below 137.0 °C (R824). -/
def execThermalLowerTimer (tick : Nat) (s : State) : Out :=
  live s (onCore (fun t => if 0 < t.thm.level && t.thm.max < 8768 then (t.atTick tick).thermalLowered else t))

/-- FAST_SAMPLING_END: 1 s below 137.0 °C (R816). -/
def execFastSamplingEnd (s : State) : Out :=
  live s (onCore (fun t => if t.thm.max < 8768 then t.onThm (fun x => { x with fast := false }) else t))

/-! ## THERMAL_GET, THERMAL_CONFIG (R629, R811, R813, R820) -/

/-- A sensor as THERMAL_GET reports it. -/
def Thm.reported (t : Thm) (n : Nat) : List Byte :=
  if t.invalid.testBit n then le 2 0x8000
  else match t.readings.getD n none with
    | some v => leInt 2 v
    | none => le 2 0x8000

/-- A valid sensor outside −55 °C to +125 °C. -/
def Thm.outside (t : Thm) (n : Nat) : Bool :=
  !t.invalid.testBit n && (match t.readings.getD n none with
    | some v => v < -3520 || 8000 < v
    | none => false)

/-- RESULT of THERMAL_GET. -/
def State.thermalResult (s : State) : List Byte :=
  ((List.range 9).map s.thmNow.reported).flatten ++ le 1 s.thm.maxSensor ++ le 1 s.thm.level
    ++ le 1 (bit (s.thmNow.outside 6 || s.thmNow.outside 8) + 2 * bit s.thm.fast) ++ [0#8] ++ leInt 2 s.thm.warnLevel ++ le 2 s.rd.fpaCode

/-- THERMAL_GET (R629). -/
def execThermalGet (h : Hdr) (s : State) : Out :=
  live s (serve h 0x60 (.thermalGet h) (fun _ => Gate.plain 3) (fun t => t.answer h 0x60 stOk t.thermalResult))

/-- A warning level outside +60 °C to +135 °C (R820). -/
def warnBad (level : Nat) : Bool := level < 0x0F00 || 0x21C0 < level

/-- R820. -/
def thermalConfigGate (level : Nat) (_ : State) : Gate where
  params := [(0, warnBad level)]
  tier := 1
  owner := none
  state := none

/-- WARN_LEVEL replaced; the warning follows at the next sample (R821). -/
def State.setWarn (level : Nat) (s : State) : State := s.onThm (fun t => { t with warnLevel := level })

/-- THERMAL_CONFIG (R629). -/
def execThermalConfig (h : Hdr) (level : Nat) (s : State) : Out :=
  live s (serve h 0x61 (.thermalConfig h level) (thermalConfigGate level)
    (fun t => (t.setWarn level).answer h 0x61 stOk (leInt 2 t.thm.warnLevel ++ [0#8, 0#8])))

/-! ## POWER_GET, RIDE_CONFIG (R629, R197, R205) -/

/-- Bound of the draw from VHOLD in the present state, in µJ per ms (R197). -/
def Pwr.rideDraw (p : Pwr) : Nat :=
  match (if p.mode = .ride then p.rideFrom else p.mode) with
  | .ledge => 1900
  | .keepWarm => 300
  | .keep => 70
  | .bringUp => 600
  | .run => 600
  | .idle => 600
  | .ride => 600
  | .powerDown => 600
  | .off => 600

/-- Ride-through time available in ms. -/
def Pwr.rideTime (p : Pwr) : Nat := min 0xFFFF (roundDiv (p.energyFine - 120000 * 2000000) (p.rideDraw * 2000000))

/-- Share of VLINK0 in %: all or nothing on one supply, else a free value within 40 % to 60 % (R67). -/
def State.shareOf0 (s : State) : Nat :=
  if s.pwr.share then 40 + (Config.freeValue s.freeCtr).toNat % 21 else if s.pwr.vlink1 ≤ s.pwr.vlink0 then 100 else 0

/-- The most VCORE_C current that the converter draws at the level in force, in mA (R235). -/
def State.demandBound (s : State) : Nat :=
  match s.level with
  | 0 => 8400
  | 1 => 7300
  | 2 => 4600
  | _ => 2600

/-- RESULT of POWER_GET; the live VCORE_C demand and input power are free values within the bounds of R235 and of R65 and R67 (log
entry 2). -/
def State.powerResult (s : State) : List Byte :=
  le 1 (s.pwr.statusWord / 16) ++ le 1 s.pwr.healthy ++ le 1 s.pwr.convStep ++ [0#8] ++ le 2 s.pwr.vlink0 ++ le 2 s.pwr.vlink1
    ++ le 2 s.pwr.vhold ++ le 2 s.pwr.vshr ++ le 2 s.pwr.cmeas ++ le 1 s.pwr.esr ++ le 1 s.shareOf0 ++ le 4 s.pwr.energy
    ++ le 2 s.pwr.rideTime ++ le 2 ((Config.freeValue (s.freeCtr + 1)).toNat % (s.demandBound + 1))
    ++ le 2 ((Config.freeValue (s.freeCtr + 2)).toNat % 11201) ++ [0#8, 0#8]

/-- Free values used by a report. -/
def State.spend (n : Nat) (s : State) : State := { s with freeCtr := s.freeCtr + n }

/-- POWER_GET (R629). -/
def execPowerGet (h : Hdr) (s : State) : Out :=
  live s (serve h 0x62 (.powerGet h) (fun _ => Gate.plain 3) (fun t => (t.spend 3).answer h 0x62 stOk t.powerResult))

/-- A retry timer outside 50 ms to 1,000 ms (R205). -/
def rideBad (ms : Nat) : Bool := ms < 50 || 1000 < ms

/-- R205. -/
def rideConfigGate (ms : Nat) (_ : State) : Gate where
  params := [(0, rideBad ms)]
  tier := 1
  owner := none
  state := none

/-- The timer of the next Ride-through. -/
def State.setRide (ms : Nat) (s : State) : State := s.onPwr (fun p => { p with rideTimer := ms })

/-- RIDE_CONFIG (R629). -/
def execRideConfig (h : Hdr) (ms : Nat) (s : State) : Out :=
  live s (serve h 0x63 (.rideConfig h ms) (rideConfigGate ms)
    (fun t => (t.setRide ms).answer h 0x63 stOk (le 2 t.pwr.rideTimer ++ [0#8, 0#8])))

end Sys2Proof.Machine
end

