-- ==== Sys2Proof/Machine/Links.lean ====
section
/-!
DEFINITION. The CoaXPress attachment: mailboxes, ConnectionConfig, discovery, heartbeats, link loss, held and replayed replies,
telemetry, and the end of an in-flight entry (spec/10_coaxpress_attachment.md R491 to R532, spec/04_power_down_and_ride_through.md
R217 to R220, spec/05_clocks_and_timebase.md R277 to R279, spec/11_command_packets_and_sessions.md R546, spec/18 R962).
-/

namespace Sys2Proof.Machine

open Sys2Proof

/-! ## Control writes (R495 to R499, R502 to R512) -/

/-- A control acknowledgement (R507, R508): 0 done, 1 wait then done, 2 error, 3 address error. -/
def State.acknowledge (code : Nat) (s : State) : State := s.onCxp (Cxp.send [.ack code])

/-- DOORBELL (R504): the first `len` bytes of COMMAND are a packet; only link 0 brings it; there are 16 mailboxes (R502, R507). -/
def execDoorbell (mbox len : Nat) (command : List Byte) (tick : Nat) (s : State) : Out :=
  live s (fun t =>
    if !t.cxp.up0 then t
    else if 16 ≤ mbox then t.acknowledge 3
    else submit mbox len (command.take len) tick ((t.atTick tick).acknowledge 0))

/-- REPLY_POP (R512): the oldest reply held for poll is released; there are 16 mailboxes (R502, R507). -/
def execReplyPop (mbox : Nat) (s : State) : Out :=
  live s (fun t =>
    if !t.cxp.up0 then t
    else if 16 ≤ mbox then t.acknowledge 3
    else (match t.sess.heldReplies mbox with
       | f :: _ => t.onSess (Sess.releaseHeld f)
       | [] => t).acknowledge 0)

/-- Rates that a ConnectionConfig may name (R523). -/
def rateSupported (rate : Nat) : Bool := [1, 2, 3, 5, 6, 0xA, 0xC].contains rate

/-- A ConnectionConfig that is answered with the error acknowledgement (R495, R496). -/
def State.linksRefused (rate links : Nat) (s : State) : Bool :=
  s.streams.any (·.running) || !rateSupported rate || links = 0 || 4 < links
    || (s.pwr.mode = .ledge && (1 < links || rate ≠ 1)) || (s.pwr.mode = .ride && 1 < links)

/-- The named links run at the rate; the PHYs of the others are off (R32, R495). -/
def Cxp.configure (rate links : Nat) (c : Cxp) : Cxp :=
  { c with
    cfgRate := rate
    links := c.links.mapIdx (fun i _ => if i < links then { powered := true, up := true, rate := rate, configured := true } else Link.off) }

/-- CONNECTION_CONFIG (R495, R496). -/
def execConnectionConfig (rate links : Nat) (s : State) : Out :=
  live s (fun t =>
    if !t.cxp.up0 then t
    else if t.linksRefused rate links then t.acknowledge 2
    else (t.acknowledge 1).onCxp (Cxp.configure rate links))

/-- CONNECTION_RESET (R497): acknowledged, then as a loss of link 0. -/
def execConnectionReset (s : State) : Out :=
  live s (fun t => if t.cxp.up0 then (t.acknowledge 1).link0Lost stFailAborted else t)

/-- ACQUISITION_MIRROR_WRITE (R499, R502, R507): acknowledged and ignored; an address outside the mirrors is none. -/
def execAcquisitionMirrorWrite (addr _value : Nat) (s : State) : Out :=
  live s (fun t =>
    if !t.cxp.up0 then t else t.acknowledge (if 0x30000 ≤ addr && addr < 0x30020 then 0 else 3))

/-! ## Discovery, discards, heartbeats (R491, R493, R514, R517, R277, R279) -/

/-- A powered link answers and is up. -/
def State.discovered (n : Nat) (s : State) : State :=
  ((s.onCxp (fun c => { c with links := c.links.modify n (fun l => { l with up := true, rate := s.discoveryRate }) })).onCxp
    (Cxp.emit [.discovery n s.discoveryRate]))

/-- DISCOVERY (R493): events that were held go out as link 0 comes up (R45, R513). -/
def execDiscovery (link : Nat) (s : State) : Out :=
  live s (fun t =>
    let l := t.cxp.links.getD link Link.off
    if l.powered && !l.up then (if link = 0 then (t.discovered 0).flushHeld else t.discovered link)
    else if l.powered && !l.configured then t.onCxp (Cxp.emit [.discovery link l.rate])
    else t)

/-- UNSUPPORTED_PACKET (R491, R514): discarded and counted. -/
def execUnsupportedPacket (link _kind : Nat) (s : State) : Out :=
  live s (fun t => if (t.cxp.links.getD link Link.off).up then t.onCxp (fun c => { c with discards := satAdd 0xFF c.discards 1 }) else t)

/-- HOST_HEARTBEAT (R279): the latest pair of each link. -/
def execHostHeartbeat (link host tick : Nat) (s : State) : Out :=
  live s (fun t =>
    if (t.cxp.links.getD link Link.off).up then
      (t.atTick tick).onTb (fun b => { b with heartbeats := b.heartbeats.modify link (fun _ => some (host, tick)) })
    else t)

/-- Links that are up. -/
def Cxp.upLinks (c : Cxp) : List Nat := (List.range 4).filter (fun n => (c.links.getD n Link.off).up)

/-- HEARTBEAT_SEND (R277, R517). -/
def execHeartbeatSend (tick : Nat) (s : State) : Out :=
  live s (fun t => (t.atTick tick).onCxp (Cxp.emit (t.cxp.upLinks.map (fun n => TxItem.heartbeat n tick))))

/-! ## Link loss (R526 to R530) -/

/-- CXP_LINK_LOST (R526 to R528, R532). -/
def execCxpLinkLost (link : Nat) (s : State) : Out :=
  live s (fun t =>
    if (t.cxp.links.getD link Link.off).up then
      (t.linkDown stFailAborted link).onCxp (fun c => { c with losses := satAdd 0xFF c.losses 1 })
    else t)

/-- CXP_LINK_RELOCK (R529). -/
def execCxpLinkRelock (link : Nat) (s : State) : Out :=
  live s (fun t =>
    let l := t.cxp.links.getD link Link.off
    if 1 ≤ link && link < 4 && l.configured && !l.up then
      (t.onCxp (fun c => { c with links := c.links.modify link (fun x => { x with up := true, rate := c.cfgRate }) })).unitEvent
        (0x20 + link) 2
    else t)

/-! ## Replay (R217 to R220, R513) -/

/-- The marked replies, in the order in which they completed. -/
def Sess.replayed (x : Sess) : List TxItem :=
  (x.owed ++ (x.flights.filter (·.replay)).filterMap (·.reply)).map TxItem.reply

/-- Each marked reply is sent again, once. -/
def State.replay (s : State) : State :=
  { s with
    cxp := s.cxp.send s.sess.replayed
    sess := { s.sess with owed := [], flights := s.sess.flights.map (fun f => { f with replay := false }) } }

/-- REPLY_REPLAY (R219, R513): once link 0 is up again, after Ride-through. -/
def execReplyReplay (s : State) : Out :=
  live s (fun t => if t.cxp.up0 && t.pwr.mode ≠ .ride then t.replay.flushHeld else t)

/-! ## Telemetry (R962, R965, R966) -/

/-- DATA of a telemetry event. -/
def State.telemetryData (session : Nat) (s : State) : List Byte :=
  [0x06#8] ++ s.statusResult session ++ s.thermalResult ++ s.powerResult

/-- TELEMETRY_PERIOD (R962): to its session whatever the mask; skipped while link 0 is down or 8 events are undelivered. -/
def execTelemetryPeriod (session : Nat) (s : State) : Out :=
  live s (onCore (fun t =>
    let x := t.sess.get session
    if session < 16 && x.opened && x.telem ≠ 0 && x.undelivered.length < 8 && t.cxp.up0 then
      (t.spend 3).raiseEv { code := 0, status := 0, target := none, only := some session, forced := some session,
                            data := t.telemetryData session, time := t.tb.now }
    else t))

/-! ## In-flight entries (R546) -/

/-- The final reply or completion of an entry has been transmitted. -/
def Flight.sent (session tag : Nat) (f : Flight) : Bool :=
  !f.slot && f.hdr.session = session && f.hdr.tag = tag && f.st = .answered && !f.replay

/-- INFLIGHT_END (R546): 1 ms after its transmission the entry is free. -/
def execInFlightEnd (session tag : Nat) (s : State) : Out :=
  live s (fun t => if t.cxp.up0 then t.onSess (Sess.dropFlights (Flight.sent session tag)) else t)

end Sys2Proof.Machine
end

