-- ==== Sys2Proof/Machine/Readout.lean ====
section
/-!
DEFINITION. The frame-start slot, S_0 of a frame and the rows of the Haul link through the pipeline into the streams
(spec/06_sensor_die_readout.md R296 to R333, spec/07_haul_link.md R351 to R368, spec/08_correction_pipeline.md R396 to R430,
spec/09_shutter_calibration_and_drift.md R446 to R451 and R480).
-/

namespace Sys2Proof.Machine

open Sys2Proof

/-! ## The frame-start slot (R304, R307, R328 to R330, R396, R408, R480) -/

/-- A calibration whose captures have begun and whose last update is still due holds stage 5 (R447). -/
def State.calHolds (s : State) : Bool :=
  match s.cal.cal with
  | some c => !c.firstCapture && c.phase ≠ .opening
  | none => false

/-- The drift values of R480: those of the last frame in a core outage, every frame then marked (R938); free values before the
estimator's first sample. -/
def State.slotDrift (s : State) : Int × Int × Nat × Bool :=
  let d := s.cal.drift
  if !s.coreServes then (s.pipe.dtEff, s.pipe.biasQ, s.pipe.driftUnc, true)
  else if d.started then (dtEffOf s.pipe.params d, biasOf s.pipe.params d, driftUncOf d, d.exceeded)
  else (signed 24 (Config.freeValue s.freeCtr).toNat, 0, (Config.freeValue (s.freeCtr + 1)).toNat % 0x10000, true)

/-- What the slot fixes. -/
def State.slotVals (s : State) : SlotVals :=
  let r := s.rd
  let d := s.slotDrift
  { int := r.cfgInt
    period := if 2 ≤ s.level then doubledPeriod r.cfgPeriod else r.cfgPeriod
    throttled := 2 ≤ s.level
    kint := min 0xFFFF (roundDiv (4096 * r.cfgInt) s.pipe.params.intCal)
    kinv := min 0xFFFF (roundDiv (4096 * s.pipe.params.intCal) r.cfgInt)
    dtEff := d.1
    bias := d.2.1
    unc := d.2.2.1
    mark := d.2.2.2
    sharp := if 0 < s.level then 0 else s.pipe.sharp
    bypass := s.pipe.bypass
    eps := s.pipe.eps
    tRefl := s.pipe.tRefl }

/-- The slot begins: pending changes and the throttle step apply, the values of the next frame are fixed, and the trims move once the
last rows of the frame have come (R304, R307, R328, R396). -/
def State.slotBegins (s : State) : State :=
  { s with
    freeCtr := s.freeCtr + 2
    rd := { (if s.rd.frameOpen then s.rd else s.rd.track) with
      slot := some s.slotVals
      period := s.rd.cfgPeriod
      pendInt := none
      pendPeriod := none
      throttled := if s.rd.frameOpen then s.rd.throttled else 2 ≤ s.level } }

/-- FRAME_START_SLOT (R396). -/
def execFrameStartSlot (s : State) : Out := live s (fun t => if t.rd.isArmed && t.rd.slot.isNone then t.slotBegins else t)

/-! ## A frame begins (R296, R300, R331, R332, R417, R581) -/

/-- The pipeline of a frame: the values of its slot; stage 5 is held from the first frame of a calibration's first capture on, and
passes the first frame of a readout or after a calibration unchanged (R396, R406, R447, R450). -/
def Pipe.beginFrame (v : SlotVals) (held first : Bool) (p : Pipe) : Pipe :=
  { p with
    kint := v.kint
    kinv := v.kinv
    dtEff := v.dtEff
    biasQ := v.bias
    driftUnc := v.unc
    driftMark := v.mark
    sharpApplied := if held then 0 else v.sharp
    calHeld := held
    bypassApplied := v.bypass
    epsApplied := v.eps
    tReflApplied := v.tRefl
    lagFirst := p.lagReload
    lagReload := false
    lastRef := if first then none else p.lastRef
    prevRow := [] }

/-- The readout as a frame comes into transfer. -/
def Rd.beginFrame (v : SlotVals) (f : FrameInfo) (low : Bool) (r : Rd) : Rd :=
  { r with
    slot := none
    next := none
    int := v.int
    throttled := v.throttled
    frame := f.number
    stamp := f.s0
    interval := f.interval
    firstFrame := f.first
    trigTb := f.t
    encPos := f.encPos
    frameOpen := true
    rowsDone := 0
    linkErr := false
    refsubRows := 0
    refsubFirst := 0
    refDefault := false
    blindNorth := (0, 0)
    blindSouth := (0, 0)
    lagLow := low
    lagChanged := false
    prevOvr := []
    testSums := noSums }

/-- A stream takes the frame when it runs and its decimation keeps it (R581, R607, R609). -/
def Stream.beginFrame (f : FrameInfo) (i : Nat) (x : Stream) : Stream :=
  if x.running && f.streams.contains i then
    { x with
      qApplied := x.qmask
      inFrame := f.number % x.decim = 0
      ovr := 0
      replaced := 0
      unresolved := 0 }
  else x

/-- The image of every stream that takes the frame begins (R519). -/
def State.imagesBegin (s : State) : State := s.carriers.foldl (fun t i => t.imageHeader i) s

/-- A frame comes into transfer with the values of its slot. -/
def State.openFrame (v : SlotVals) (f : FrameInfo) (s : State) : State :=
  let s1 := if f.capture then s.onCalRun (Cal.captureFrame f.number v.dtEff) else s
  let held := s1.calHolds
  State.imagesBegin { s1 with
    pipe := s1.pipe.beginFrame v held f.first
    rd := s1.rd.beginFrame v f (held || v.sharp = 0)
    streams := s1.streams.mapIdx (fun i x => x.beginFrame f i) }

/-- Starts come from the readout's own free-run (R300, R446, R641); a source of gang outside a gang counts as free-run (R680). -/
def State.freeRun (s : State) : Bool :=
  s.rd.forCal || (s.gang.state < 2 && (s.trig.cfg.source = 0 || s.trig.cfg.source = 7))

/-- S_0, t and number of the frame that begins: the accepted start, else in free-run P after the previous frame. -/
def State.dueFrame (s : State) (tick : Nat) : Option (Nat × Nat × Nat) :=
  match s.rd.nextS0 with
  | some x => some x
  | none =>
    if s.freeRun then
      some (if s.rd.anyFrame then s.rd.sPrev + (s.rd.slot.map (·.period)).getD s.rd.period else tick, 0, s.rd.frameNumber)
    else none

/-- The S die latches its focal-plane result, the C die asks for it, and CAL_ADVISED is set 15.0 K away from the last calibration
(R327, R331, R332). -/
def State.fpaLatch (code : Nat) (valid : Bool) (s : State) : State :=
  { s with
    haul := { s.haul.downSend .fpaRead with fpaRead := true }
    rd := { s.rd with
      fpaNow := code
      fpaCode := code
      fpaValid := valid
      fpaFresh := false
      calAdvised := s.rd.calAdvised || (valid && 3840 ≤ ((code : Int) - (s.rd.calFpa : Int)).natAbs) } }

/-- The strobe counts down WAITF (R744). -/
def Chisel.strobe (c : Chisel) : Chisel :=
  match c.wait with
  | .strobes (n + 1) => { c with wait := .strobes n }
  | _ => c

/-- The frame whose S_0 is now. -/
def State.frameInfo (s0 t number : Nat) (s : State) : FrameInfo where
  s0 := s0
  t := t
  number := number
  encPos := s.enc.position
  interval := if s.rd.anyFrame then s0 - s.rd.sPrev else 0
  first := !s.rd.anyFrame
  capture := (s.cal.cal.map Cal.inCapture).getD false
  streams := s.runningStreams

/-- The frame comes into transfer at once, or after the last rows of the one before. -/
def State.frameEnters (f : FrameInfo) (s : State) : State :=
  if s.rd.frameOpen then s.onRd (fun r => { r with next := some f })
  else match s.rd.slot with
    | some v => s.openFrame v f
    | none => s

/-- S_0 of a frame: ROW_GO has placed it, the readout runs, the strobe reaches the actuators (R36, R296, R297, R354, R736). -/
def State.frameBegins (s0 t number : Nat) (s : State) : State :=
  let f := s.frameInfo s0 t number
  let s1 := s.onRd (fun r => { r with
    state := .running
    sPrev := s0
    anyFrame := true
    nextS0 := none
    frameNumber := (number + 1) % 2 ^ 32 }) |>.onHaul (Haul.rowGo s0)
  let s2 := (s1.onAct (fun a => { a with chisels := a.chisels.map Chisel.strobe })).releaseSchedules
    (fun x => x.ref = 2 && x.value = number) s0
  s2.frameEnters f

/-- FRAME_S0 (R300): nothing while the readout is disarmed, the link does not run, no start is due, or two frames are in transfer. -/
def execFrameS0 (tick fpaCode : Nat) (fpaValid : Bool) (s : State) : Out :=
  live s (fun t0 =>
    if t0.rd.isArmed && t0.haul.running && t0.rd.next.isNone then
      let t := if t0.rd.slot.isNone then t0.slotBegins else t0
      match t.dueFrame tick with
      | some (s0, x, n) => (((t.atTick s0).fpaLatch fpaCode fpaValid).driftSample).frameBegins s0 x n
      | none => t0
    else t0)

/-! ## A row (R296, R315 to R319, R351, R352, R365, R366, R397 to R415, R424 to R426, R449, R451) -/

/-- The physical row that comes as number k of a frame (R286, R296). -/
def Rd.rowAt (r : Rd) (k : Nat) : Nat :=
  if k < r.count then 16 + r.start + k
  else if k < r.count + 8 then 8 + (k - r.count)
  else if k < r.count + 16 then 1040 + (k - r.count - 8)
  else k - r.count - 16

/-- What one lane has received of a row is taken up: its ends, and the count of its invalid headers (R347, R365, R368). -/
def Haul.laneTaken (h : Haul) (x : Nat × LaneRow × LaneTx) : Haul :=
  { h with
    tx := h.tx.modify x.1 (fun _ => x.2.2)
    rx := h.rx.modify x.1 (fun _ => x.2.1.rx)
    hdrErr := h.hdrErr.modify x.1 (fun k => satAdd 0xFF k x.2.1.invalids) }

/-- A row has crossed the lanes, whether or not it is complete. -/
def State.lanesTaken (l : List (Nat × LaneRow × LaneTx)) (s : State) : State := s.onHaul (fun h => l.foldl Haul.laneTaken h)

/-- The lanes whose ROW_END does not match (R366). -/
def State.endErrors (l : List (Nat × LaneRow × LaneTx)) (s : State) : List Nat :=
  (l.filter (fun x => !x.2.1.endMatches (idleBlocks l.length s.rd.rt) l.length)).map (·.1)

/-- Mismatches of a row are counted per lane and mark the frame (R366, R368). -/
def State.rowErrors (ended : List Nat) (s : State) : State :=
  { s with
    haul := { s.haul with crcErr := s.haul.crcErr.mapIdx (fun n k => if ended.contains n then satAdd 0xFF k 1 else k) }
    rd := { s.rd with linkErr := s.rd.linkErr || !ended.isEmpty } }

/-- The row reference that stage 1 uses, and the marks of a substituted one (R397, R398, R417). -/
def State.rowRef (a : Array Sample) (row : Nat) (s : State) : Int × State :=
  match rowReference a with
  | some v => (v, s.onPipe (fun p => { p with lastRef := some v }))
  | none =>
    (s.pipe.lastRef.getD s.pipe.params.refCal,
      if s.pipe.byp 0 then s
      else s.onRd (fun r => { r with
        refsubRows := r.refsubRows + 1
        refsubFirst := if r.refsubRows = 0 then row else r.refsubFirst
        refDefault := r.refDefault || s.pipe.lastRef.isNone }))

/-- A record waits for reload, or stays queued as failed (R425, R428). -/
def Pipe.awaits (p : Pipe) (n : Nat) : Bool := p.queue.any (fun x => x.1 = n) || p.failedRecs.contains n

/-- A record with a double-bit error joins the reload queue, unless it stands there or 64 do (R425, R429). -/
def Pipe.enqueue (byPipe : Bool) (p : Pipe) (n : Nat) : Pipe :=
  if p.awaits n || 64 ≤ p.queue.length + p.failedRecs.length then p else { p with queue := p.queue ++ [(n, byPipe)] }

/-- PIPE.UE_LAST names a record: who found it, and whether its reload failed (R428, R436). -/
def Pipe.ueNames (byPipe : Bool) (n : Nat) (p : Pipe) : Pipe :=
  { p with
    ueIndex := n
    ueByPipe := byPipe
    ueReloadFailed := p.failedRecs.contains n
    ueDue := true }

/-- Errors that record reads met, of the pipeline or of the Sieve (R424, R425, R428, R429, R436). -/
def Pipe.readErrors (byPipe : Bool) (first : Nat) (corrected doubles : List Nat) (p : Pipe) : Pipe :=
  let q := (doubles.map (· + first)).foldl (Pipe.enqueue byPipe) p
  let r := { q with
    ce := satAdd 0xFFFF p.ce corrected.length
    ue := satAdd 0xFF p.ue doubles.length
    ueSince := p.ueSince + doubles.length }
  match doubles.getLast? with
  | some c => r.ueNames byPipe (first + c)
  | none => r

/-- The values of stages 1 to 5 for the row in transfer. -/
def State.rowCtx (s : State) (ref : Int) : RowCtx where
  pipe := s.pipe
  ref := ref
  first := s.rd.firstFrame || s.pipe.lagFirst
  interval := s.rd.interval
  capture := (s.cal.cal.bind (fun c => c.captureCtx s.rd.frame))
  frozen := s.calHolds

/-- Stages 1 to 5 over the active columns of an active row. -/
def State.rowPixels (s : State) (ref : Int) (row : Nat) (doubles : List Nat) (a : Array Sample) : Array Pix :=
  let first := 1280 * row
  let x := s.rowCtx ref
  let recs := (s.pipe.csto.run first 1280).toArray
  (Array.range 1280).map (fun c =>
    pixel x (sampleAt a (c + 8)) (recs.getD c s.pipe.csto.base)
      (doubles.contains c || s.pipe.awaits (first + c)))

/-- A row of a stream leaves, and its pixels are counted (R414, R417). -/
def State.streamRow (row : Nat) (a : Array Pix) (b : Array Rep) (s : State) (i : Nat) : State :=
  let x := s.stream i
  if x.inFrame then
    (s.sendStream i (.line s.rd.present row (lineBytes x s.pipe s.uncertain a b))).onStream i (fun y => y.countRow a b)
  else s

/-- The first active row of a frame fixes the focal-plane code, the one of its S_0, else the last valid one, marked stale (R24,
R333), and the sharpness its trailer names (R417). DESIGN CHOICE (log entry 55): before any valid code has come since the reset the code
used and carried is 0, marked stale. -/
def Rd.firstRow (sharp : Nat) (r : Rd) : Rd :=
  if r.rowsDone = 0 then { r with fpaUsed := r.fpaLast, fpaStale := !r.fpaFresh, sharpFirst := sharp } else r

/-- An active row passes the pipeline. -/
def State.activeRow (row : Nat) (corrected doubles : List Nat) (a : Array Sample) (s0 : State) : State :=
  let sr := s0.onRd (Rd.firstRow s0.pipe.sharpApplied)
  let q := sr.rowRef a row
  let s := if sr.rd.rowsDone = 0 && (q.2.rowCtx q.1).capture.isSome then q.2.onCalRun (Cal.captureCode sr.rd.fpaUsed) else q.2
  let px : Array Pix := s.rowPixels q.1 row doubles a
  let rep : Array Rep := stageReplace (s.pipe.byp 4) s.pipe.prevRow.toArray px
  let s1 := (List.range 16).foldl (State.streamRow row px rep) s
  let s2 := if (s.rowCtx q.1).capture.isSome then
      s1.onCalRun (fun c => { c with tiles := c.tiles.modify (c.frames - 1) (tilesRow row px) })
    else s1
  s2.onPipe (fun p => ({ p with
    csto := p.csto.setRun (1280 * row) (px.map Pix.newRec).toList
    prevRow := (List.range 1280).map (fun c => ((rep[c]?.map Rep.value).getD 0, (px[c]?.map Pix.usable).getD false)) }).readErrors
      true (1280 * row) corrected doubles)

/-- Sum and count of a row's usable codes (R417). -/
def usableSum (a : Array Sample) (p : Nat × Nat) : Nat × Nat :=
  let l := (List.range 1296).filter (fun c => !((sampleAt a c).ovr || (sampleAt a c).settle))
  (p.1 + (l.map (fun c => (sampleAt a c).code)).sum, p.2 + l.length)

/-- A blind or test row keeps its reference for later rows (R398). -/
def Pipe.keepRef (a : Array Sample) (p : Pipe) : Pipe :=
  match rowReference a with
  | some v => { p with lastRef := some v }
  | none => p

/-- A test row joins the sums of its level: rows 0 to 3 low, 4 to 7 high (R288, R328). -/
def testRow (high : Bool) (a : Array Sample) (l : List (Nat × Nat × Nat × Nat)) : List (Nat × Nat × Nat × Nat) :=
  l.mapIdx (fun j m =>
    let cs := ((List.range 36).map (· + 36 * j)).filter (fun c => !((sampleAt a c).ovr || (sampleAt a c).settle))
    let v := (cs.map (fun c => (sampleAt a c).code)).sum
    if high then (m.1, m.2.1, m.2.2.1 + cs.length, m.2.2.2 + v) else (m.1 + cs.length, m.2.1 + v, m.2.2))

/-- A blind or test row (R287, R288, R328, R417). -/
def State.edgeRow (phys : Nat) (a : Array Sample) (s : State) : State :=
  (s.onPipe (Pipe.keepRef a)).onRd (fun r =>
    if phys < 8 then { r with testSums := testRow (4 ≤ phys) a r.testSums }
    else if phys < 16 then { r with blindNorth := usableSum a r.blindNorth }
    else { r with blindSouth := usableSum a r.blindSouth })

/-! ## The end of a frame (R22, R417 to R422, R603, R608) -/

/-- The item ends a frame of a stream. -/
def TxItem.endsFrame (i : Nat) : TxItem → Bool
  | .image n _ (.trailer _) => n = i
  | .image n _ (.endMarker _) => n = i
  | _ => false

/-- The item is a part of a stream's image. -/
def TxItem.ofStream (i : Nat) : TxItem → Bool
  | .image n _ _ => n = i
  | _ => false

/-- A stream's image since its last frame ended, latest item first, is taken out. -/
def dropLines (i : Nat) : List TxItem → List TxItem
  | [] => []
  | x :: xs => if x.endsFrame i then x :: xs else if x.ofStream i then dropLines i xs else x :: dropLines i xs

/-- A frame that finds no buffer space is dropped for its stream: nothing of it leaves (R22). -/
def State.dropFrame (i : Nat) (s : State) : State :=
  let s1 := s.onCxp (fun c => { c with tx := (dropLines i c.tx.reverse).reverse })
  (s1.raiseDrop i 0 s.rd.present).onStream i (fun y => { y with dropped := satAdd 0xFFFFFFFF y.dropped 1, inFrame := false })

/-- FRAME_SNAP counts the frame sent; the last one ends it and halts the stream (R608). -/
def State.snapSent (i : Nat) (s : State) : State :=
  match (s.stream i).snap with
  | none => s
  | some (session, tag, n, first, sent) =>
    let s1 := s.onStream i (fun y => { y with snap := some (session, tag, n, if sent = 0 then s.rd.present else first, sent + 1) })
    if sent + 1 < n then s1
    else if s.coreServes then ((s1.endSnap i stOk).onStream i (fun y => { y with snap := none, haltDue := true }))
    else s1.onStream i (fun y => { y with haltDue := true })

/-- The trailer ends the frame of a stream (R417, R422). -/
def State.endFrame (i : Nat) (s : State) : State :=
  ((s.sendStream i (.trailer (s.trailer i))).onStream i (fun y => { y with dropped := 0, inFrame := false })).snapSent i

/-- One stream at the end of the frame in transfer. -/
def State.closeStream (noSpace : List Nat) (s : State) (i : Nat) : State :=
  if (s.stream i).inFrame then (if noSpace.contains i then s.dropFrame i else s.endFrame i) else s

/-- Some stream's trailer of the frame in transfer is assembled. -/
def State.assembles (noSpace : List Nat) (s : State) : Bool :=
  (List.range 16).any (fun i => (s.stream i).inFrame && !noSpace.contains i)

/-- Trailers are assembled from one set of values, then the actuator events they listed are used up; where none is assembled, its
events come late in the next (R420 to R422). -/
def State.trailersOut (noSpace : List Nat) (s : State) : State :=
  ((List.range 16).foldl (State.closeStream noSpace) s).onAct (fun a =>
    { a with events := if s.assembles noSpace then a.events.filter (fun e => !s.rd.owns e) else a.events.map s.rd.tooLate })

/-- The frame that waits comes into transfer, unless the readout has stopped meanwhile. -/
def State.nextEnters (s : State) : State :=
  match s.rd.next, s.rd.slot with
  | some f, some v => s.openFrame v f
  | _, _ => s

/-- The trims move with the last row of a frame whose frame-start slot has begun before it (R328, R329). -/
def Rd.trackLate (r : Rd) : Rd := if r.slot.isSome then r.track else r

/-- The last row of the frame in transfer has passed. -/
def State.closeFrame (noSpace : List Nat) (s : State) : State :=
  (((s.trailersOut noSpace).onRd Rd.trackLate).frameEnds).nextEnters

/-- One row that every lane has completed: its samples, its errors, the pipeline, and the frame's end with test row 7. -/
def State.rowComplete (r : RowIn) (l : List (Nat × LaneRow × LaneTx)) (s0 : State) : State :=
  let s := s0.rowErrors (s0.endErrors l)
  let a := receivedSamples s.rd.rt l
  let s1 := if 16 ≤ r.row && r.row < 1040 then s.activeRow (r.row - 16) r.corrected r.doubles a else s.edgeRow r.row a
  let s2 := s1.onRd (fun d => { d with rowsDone := d.rowsDone + 1, prevOvr := ovrColumns (rowCodes r s.rd.trims) })
  if s.rd.rowsDone + 1 = s.rd.count + 24 then s2.closeFrame r.noSpace else s2

/-- One row as it arrives; a lane that loses block lock in it cuts the frame before it (R367, R369, R376). -/
def State.rowIn (r : RowIn) (s : State) : State :=
  let l := s.haul.rowLanes r s.rd
  let t := s.lanesTaken l
  if l.any (fun x => x.2.1.lost) then t.laneLost else t.rowComplete r l

/-- HAUL_ROW_RECEIVED (R352): rows come in the order of R296. -/
def execHaulRowReceived (r : RowIn) (s : State) : Out :=
  live s (fun t0 =>
    let t := t0.atTick r.tick
    if t.rd.isArmed && t.rd.frameOpen && t.haul.running && r.row = t.rd.rowAt t.rd.rowsDone then t.rowIn r else t)

/-! ## Sieve and errors (R423 to R430) -/

/-- One pass of the Sieve over all records, with the records in which its reads met a single-bit and a double-bit error. -/
def Pipe.sieve (corrected doubles : List Nat) (p : Pipe) : Pipe :=
  { p.readErrors false 0 corrected doubles with
    passes := (p.passes + 1) % 256
    position := 0 }

/-- The coefficient store holds coefficients outside Keep-warm (R423). -/
def State.holdsCoefficients (s : State) : Bool :=
  2 ≤ s.cfl.result && s.pwr.mode ≠ .keepWarm && s.pwr.mode ≠ .keep && s.pwr.mode ≠ .ledge && s.pwr.mode ≠ .off

/-- SIEVE_PASS_START (R423 to R425, R429, R435): the pass is one step. -/
def execSievePassStart (corrected doubles : List Nat) (s : State) : Out :=
  live s (fun t => if t.holdsCoefficients then t.onPipe (Pipe.sieve corrected doubles) else t)

/-- One of the 64 KiB blocks that hold record n of a set fails its CRC (R427, R898). -/
def CalSet.blockLost (x : CalSet) (n : Nat) : Bool :=
  x.badBlocks.contains (10 * n / 65536) || x.badBlocks.contains ((10 * n + 9) / 65536)

/-- The set in force as the calibration flash holds it (R388, R427). -/
def State.flashSet (s : State) : CalSet := s.cfl.sets.getD s.pipe.setNo (CalSet.shipped 0 3000)

/-- A block that holds record n of the set in force fails its CRC: it is not good, or it failed in the recall (R428, R901, R905). -/
def State.reloadFails (s : State) (n : Nat) : Bool :=
  s.flashSet.blockLost n || s.cfl.recallLost.contains (10 * n / 65536) || s.cfl.recallLost.contains ((10 * n + 9) / 65536)

/-- Record n, the first queued one, is reloaded, or it stays queued as failed (R427, R428). -/
def State.reload (n : Nat) (byPipe : Bool) (s : State) : State :=
  if s.reloadFails n then
    (s.onPipe (fun p => Pipe.ueNames byPipe n { p with queue := p.queue.tail, failedRecs := p.failedRecs ++ [n] })).logEntry 0x0010 (le 4 n)
  else s.onPipe (fun p => { p with queue := p.queue.tail, csto := p.csto.set n (recLost (s.flashSet.store.get n)) })

/-- RECORD_RELOAD (R427, R428). -/
def execRecordReload (s : State) : Out :=
  live s (fun t => match t.pipe.queue with
    | x :: _ => if t.holdsCoefficients then t.reload x.1 x.2 else t
    | [] => t)

/-- Data of EV_SCRUB_UE (R539). -/
def Pipe.ueData (p : Pipe) : List Byte :=
  le 4 p.ueIndex ++ le 1 (bit p.ueByPipe + 2 * bit p.ueReloadFailed) ++ le 1 0 ++ le 2 (min p.ueSince 0xFFFF)

/-- An EV_SCRUB_UE is due, and none has been raised within 10 ms (R430). -/
def State.ueEventDue (s : State) : Bool :=
  s.pipe.ueDue && (match s.pipe.ueLast with
    | some t => s.tb.now < t || t + msTicks 10 ≤ s.tb.now
    | none => true)

/-- SCRUB_UE_EVENT_TIMER (R430). -/
def execScrubUeEventTimer (s : State) : Out :=
  live s (fun t => if t.ueEventDue then
      (t.raise 0x15 t.pipe.ueData).onPipe (fun p => { p with ueSince := 0, ueDue := false, ueLast := some t.tb.now })
    else t)

end Sys2Proof.Machine
end

