-- ==== Sys2Proof/Machine/Registers.lean ====
section
/-!
DEFINITION. Reads and writes of registers: REG_READ, REG_WRITE and the rows of single registers (spec/00_scope.md R9 to R14,
spec/12_command_catalogue.md R630, R634 and the rules of each block), the Bench port and the test access port
(spec/18_firmware_security_background.md R939 to R953), and the register path of the Haul link (spec/07_haul_link.md R357, R358,
R378 to R380).
-/

namespace Sys2Proof.Machine

open Sys2Proof

/-! ## Addresses -/

/-- The SENS and ADC blocks, reached over the Haul link. -/
def isSens (a : Nat) : Bool := 0x50000000 ≤ a && a < 0x50002000

/-- The ADC block, whose registers the spec does not list. -/
def isAdcBlock (a : Nat) : Bool := 0x50001000 ≤ a && a < 0x50002000

/-- The link is there for register accesses, at once or after a training (R379, R381). -/
def State.pathOpen (s : State) : Bool := s.rd.state ≠ .off && (s.haul.training ≠ 0 || s.haul.state = 2 || s.haul.state = 3)

/-- A block decodes the address (R634). -/
def State.decodes (s : State) (a : Nat) : Bool := (s.reg a).isSome || (isAdcBlock a && s.pathOpen)

/-- The CSTO window. -/
def isCsto (a : Nat) : Bool := 0x60000000 ≤ a && a < 0x60000000 + 13107200

/-- The five SENS registers that a write changes (R334). -/
def isSensSetting (a : Nat) : Bool :=
  a = 0x50000000 || a = 0x50000004 || a = 0x50000008 || a = 0x5000000C || a = 0x50000010

/-! ## SENS settings (R334 to R339) -/

/-- The READOUT_CONFIG that makes the same change. -/
def sensParams (a v : Nat) : ReadoutP :=
  let none : ReadoutP := { wait := 0, present := 0, gain := 0, rt := 0, int := 0, start := 0, count := 0, period := 0 }
  match a with
  | 0x50000000 => { none with present := 1, rt := v % 8192 }
  | 0x50000004 => { none with present := 2, int := v % 8192 }
  | 0x50000008 => { none with present := 4, start := v % 1024, count := v / 0x10000 % 2048 }
  | 0x5000000C => { none with present := 8, period := v }
  | 0x50000010 => { none with present := 16, gain := v % 4 }
  | _ => none

/-- The change is outside what READOUT_CONFIG accepts. -/
def State.sensBad (s : State) (a v : Nat) : Bool := (configBad (sensParams a v) (configTarget (sensParams a v) s.rd.cfg)).any (·.2)

/-- The change as READOUT_CONFIG makes it, or the refusal, by the settings in force when the access is carried out. -/
def State.sensWrite (a v : Nat) (s : State) : Except (Nat × List Byte) State :=
  let c := configTarget (sensParams a v) s.rd.cfg
  if s.sensBad a v then .error (stErrParam, le 2 4 ++ [0#8, 0#8])
  else if s.configRefused c then .error (stState, [])
  else match s.admitConfig c with
    | .error q => .error (stCapacity, capacityResult q 2)
    | .ok l => .ok (s.configure c l)

/-! ## Effects of single registers -/

/-- RSTC.CAUSE_STICKY: writing 1 clears a bit (R177). -/
def State.clearCauses (v : Nat) (s : State) : State := s.onRstc (fun r => { r with sticky := r.sticky - (r.sticky &&& v) })

/-- HAUL.HDR_ERR (R368, R385). -/
def State.clearHdrErr (s : State) : State := s.onHaul (fun h => { h with hdrErr := [0, 0, 0, 0] })

/-- HAUL.CRC_ERR (R368, R386). -/
def State.clearCrcErr (s : State) : State := s.onHaul (fun h => { h with crcErr := [0, 0, 0, 0] })

/-- PIPE.ECC: CE and UE (R434). -/
def State.clearPipeEcc (s : State) : State := s.onPipe (fun p => { p with ce := 0, ue := 0 })

/-- PSTO.ECC: CE and UE (R915). -/
def State.clearPstoEcc (s : State) : State := s.onPsto (fun p => { p with ce := 0, ue := 0 })

/-- CXP.STATUS.DISCARDS (R532). -/
def State.clearDiscards (s : State) : State := s.onCxp (fun c => { c with discards := 0 })

/-- TRIG.STATUS.EARLY (R695). -/
def State.clearEarly (s : State) : State := s.onTrig (fun t => { t with early := 0 })

/-- ENC.ERR_COUNT (R698). -/
def State.clearEncErr (s : State) : State := s.onEnc (fun e => { e with errCount := 0 })

/-- Telemetry rates of eight sessions (R965). -/
def State.setTelem (first v : Nat) (s : State) : State :=
  s.onSess (fun x => { x with list := x.list.mapIdx (fun i y =>
    if first ≤ i && i < first + 8 then { y with telem := v / 16 ^ (i - first) % 16 } else y) })

/-- A telemetry code above 0x7 (R966). -/
def telemBad (v : Nat) : Bool := (List.range 8).any (fun i => 7 < v / 16 ^ i % 16)

/-- FUSE.BLOW_SEL arms with the key, and disarms with any other (R950, R963). -/
def State.fuseSel (v : Nat) (s : State) : State :=
  s.onFuse (fun f => { f with armed := if v / 0x10000 = 0xF05E then some (v % 64, s.tb.now) else none })

/-- The word armed within the last 100 ms (R950). -/
def State.fuseArmed (s : State) : Option Nat :=
  match s.fuse.armed with
  | some (w, t) => if s.tb.now ≤ t + msTicks 100 then some w else none
  | none => none

/-- A mask that names a reserved bit or a word from 2 to 11 (R949, R951, R93). -/
def fuseProtected (w mask : Nat) : Bool :=
  if w = 0 then 2 ^ 28 ≤ mask else if w = 1 then 2 ^ 13 ≤ mask else w < 12 || mask ≠ 0

/-- Why FUSE.BLOW is refused (R951). -/
def State.blowRefused (mask : Nat) (s : State) : Option Nat :=
  if !(s.pwr.mode = .ledge || (s.pwr.mode = .idle && !s.streams.any (·.opened))) then some stState
  else match s.fuseArmed with
    | none => some stState
    | some w => if fuseProtected w mask then some stProtect else if s.pwr.covers needFlash then none else some stEnergy

/-- JTAG_OFF puts the port into Test-Logic-Reset, where IDCODE is selected, at once (R948). -/
def State.tapLocked (s : State) : State := if s.fuse.jtagOff then s.onJtag (fun j => { j with ir := 1 }) else s

/-- The named bits of the armed word read 1 from now on; the blow disarms and is logged (R949, R952, R954). -/
def State.blow (mask : Nat) (s : State) : State :=
  match s.fuseArmed with
  | none => s
  | some w =>
    ((s.onFuse (fun f => { f with words := f.words.modify w (fun x => x ||| BitVec.ofNat 32 mask), armed := none })).tapLocked).logEntry
      0x000C (le 1 w ++ le 4 mask)

/-! ## A write of any register (R14, R392, R634, R857) -/

/-- What check 9 finds in a write, at PARAMS offsets of REG_WRITE; the read-only fields TIER0 and ENABLE0 are not looked at (R9, R589,
R590). -/
def regWriteBad (a v : Nat) (s : State) : List (Nat × Bool) :=
  [(0, a % 4 ≠ 0 || !s.decodes a || isCsto a || a = 0x40005000 || a = 0x40005008),
   (4, match a with
       | 0x40002010 => rideBad (v % 1024)
       | 0x4000300C => warnBad (v % 65536)
       | 0x40004000 => v % 2 ^ 23 < 1000 || 8000000 < v % 2 ^ 23
       | 0x40010004 => (policyBad 0 (v - v % 4)).any (·.2)
       | 0x40010010 => telemBad v
       | 0x40010014 => telemBad v
       | 0x40050000 => 0x100 < v / 0x10000 % 512
       | _ => isSensSetting a && s.sensBad a v)]

/-- The claim in the way of a write that follows READOUT_CONFIG's rules (R334, R565). -/
def State.regClaim (s : State) (session a : Nat) : Option (Nat × Nat) :=
  if isSensSetting a then s.sess.claimedBy session [0x14] else none

/-- What the module state refuses, for a SENS setting as of READOUT_CONFIG (R334, R602, R804, R951). -/
def regWriteState (a v : Nat) (s : State) : Option Nat :=
  match a with
  | 0x40004000 => if s.wdgClosed (v % 2 ^ 23) (v / 2 ^ 31) then some stWindow else none
  | 0x4000F104 => s.blowRefused v
  | _ =>
    if isSensSetting a then orStatus (stateGate 0x15 s) (stateIf (s.configRefused (configTarget (sensParams a v) s.rd.cfg)))
    else none

/-- The gate of a write. -/
def regWriteGate (h : Hdr) (a v : Nat) (s : State) : Gate where
  params := regWriteBad a v s
  tier := 0
  owner := s.regClaim h.session a
  state := regWriteState a v s

/-- PIPE.CONFIG (R432), under the rule of R243. -/
def State.pipeWrite (v : Nat) (s : State) : Except (Nat × List Byte) State :=
  let sharp := v / 0x10000 % 512
  match (if 0 < sharp then s.convShort 0 else none) with
  | some q => .error (stCapacity, capacityResult q 2)
  | none => .ok (s.onPipe (fun p => { p with sharp := sharp, bypass := v % 32 }))

/-- The change that a write makes; a read-only register keeps its value (R9). -/
def State.regWrite (a v : Nat) (s : State) : Except (Nat × List Byte) State :=
  match a with
  | 0x40000004 => .ok (s.clearCauses v)
  | 0x40002010 => .ok (s.setRide (v % 1024))
  | 0x4000300C => .ok (s.onThm (fun t => { t with warnLevel := signed 16 v }))
  | 0x40004000 => .ok (s.wdgApply (v % 2 ^ 23) (v / 2 ^ 31))
  | 0x40005004 => .ok s.clearPstoEcc
  | 0x4000F100 => .ok (s.fuseSel v)
  | 0x4000F104 => .ok (s.blow v)
  | 0x40010004 => .ok (s.setPolicy v s.sess.enableWord)
  | 0x40010008 => .ok (s.setPolicy s.sess.tierWord v)
  | 0x40010010 => .ok (s.setTelem 0 v)
  | 0x40010014 => .ok (s.setTelem 8 v)
  | 0x40012000 => .ok s.clearDiscards
  | 0x40020000 => .ok s.clearEarly
  | 0x40021004 => .ok s.clearEncErr
  | 0x40040004 => .ok s.clearHdrErr
  | 0x40040008 => .ok s.clearCrcErr
  | 0x40050000 => s.pipeWrite v
  | 0x40050008 => .ok s.clearPipeEcc
  | _ => if isSensSetting a then s.sensWrite a v else .ok s

/-! ## Accesses over the Haul link (R357, R378 to R380) -/

/-- The smallest transaction tag that no access has. -/
def Haul.freeTag (h : Haul) : Nat := ((List.range 64).find? (fun n => !h.pendingRegs.any (fun r => r.tag = n))).getD 64

/-- A reset of HAUL or SENSOR is in progress, or waits for accesses in flight (R378, R379). -/
def State.haulResetting (s : State) : Bool :=
  match s.rstc.unitBusy with
  | some (u, _) => u = 1 || u = 2
  | none => false

/-- An access joins those over the link. -/
def State.regIssue (h : Option Hdr) (a left : Nat) (w : Option Nat) (s : State) : State :=
  let r : RegAccess :=
    { tag := s.haul.freeTag, hdr := h, first := a, addr := a, left := left, got := [], write := w, late := s.haulResetting }
  s.onHaul (fun x => { x.downSend r.frame with pendingRegs := x.pendingRegs ++ [r] })

/-- A word of a list as 4 bytes each. -/
def wordBytes (l : List Nat) : List Byte := (l.map (le 4)).flatten

/-- The answer of an access that is done: its command's reply, or the Bench port's (R630, R940). -/
def State.regDone (r : RegAccess) (got : List Nat) (s : State) : State :=
  match r.hdr with
  | some _ => s.regEnds stOk (if r.write.isSome then [] else le 4 r.first ++ wordBytes got) r
  | none => (s.onHaul (fun h => { h with pendingRegs := h.pendingRegs.filter (· ≠ r) })).onCxp
      (Cxp.emit [.bench 0 0 (if r.write.isSome then none else some (got.getD 0 0))])

/-- An address that the S die does not decode. -/
def State.regMissing (r : RegAccess) (s : State) : State :=
  match r.hdr with
  | some _ => s.regEnds stErrParam (le 2 0 ++ [0#8, 0#8]) r
  | none => (s.onHaul (fun h => { h with pendingRegs := h.pendingRegs.filter (· ≠ r) })).onCxp (Cxp.emit [.bench 1 0 none])

/-- One transaction of an access is answered: the next word, the end of a read, or a write carried out. -/
def State.regAnswered (r : RegAccess) (data : Nat) (s : State) : State :=
  match r.write with
  | some v =>
    (match s.regWrite r.addr v with
     | .ok t => t.regDone r []
     | .error e => s.regEnds e.1 e.2 r)
  | none =>
    let got := r.got ++ [(s.reg r.addr).getD data]
    if r.left ≤ 1 then s.regDone r got
    else s.onHaul (fun h => { h.downSend (.regRead r.tag (r.addr + 4)) with pendingRegs := h.pendingRegs.map (fun x =>
      if x = r then { r with addr := r.addr + 4, left := r.left - 1, got := got } else x) })

/-- A QUIET reset of HAUL or SENSOR begins when the last access in flight has completed (R378). -/
def State.regsSettled (s : State) : State :=
  match s.rstc.unitBusy with
  | some (u, _) => if (u = 1 || u = 2) && s.haul.running && s.haul.pendingRegs.all (·.late) then s.unitClear u else s
  | none => s

/-- The priority read of SENS.FPA_TEMP has come: the C die has the code latched at the latest S_0, unless VALID is 0 (R331 to R333). -/
def State.fpaArrived (s : State) : State :=
  { s with
    haul := { s.haul with fpaRead := false }
    rd := if s.haul.fpaRead && s.rd.fpaValid then { s.rd with fpaLast := s.rd.fpaCode, fpaFresh := true } else s.rd }

/-- The REG_RESP block crosses the lowest lane in service (R350, R358). -/
def State.respArrives (tag status data : Nat) (s : State) : State :=
  s.onHaul (fun h => h.carry (h.lanes.headD 0) (regRespBlock tag status data))

/-- HAUL_REG_RESP (R358): tags below 0x80 name ordinary accesses, of which four are outstanding, the others the priority read. -/
def execHaulRegResp (tag status data : Nat) (s : State) : Out :=
  live s (fun u =>
    let t := u.respArrives tag status data
    if !u.haul.running then u
    else if 0x80 ≤ tag then t.fpaArrived
    else match (t.haul.pendingRegs.take 4).find? (fun r => r.tag = tag && !r.late) with
      | none => t
      | some r => ((if status = 0 then t.regAnswered r data else t.regMissing r)).regsSettled)

/-! ## REG_READ, REG_WRITE, FUSE_READ (R630, R634, R635) -/

/-- Addresses of a run of words. -/
def wordRun (a n : Nat) : List Nat := (List.range n).map (fun k => a + 4 * k)

/-- Alignment and decoding, then the count. -/
def regReadGate (a n : Nat) (s : State) : Gate where
  params := [(0, a % 4 ≠ 0 || (0 < n && n ≤ 60 && (wordRun a n).any (fun x => !s.decodes x))), (4, n = 0 || 60 < n)]
  tier := 0
  owner := none
  state := none

/-- A read of TBASE.NOW_LO latches TBASE.NOW_HI (R275). -/
def State.latchNow (l : List Nat) (s : State) : State :=
  if l.contains 0x40001800 then s.onTb (fun b => { b with nowHi := b.now / 2 ^ 32 }) else s

/-- The words as they stand, or an access over the Haul link. -/
def regReadBody (h : Hdr) (a n : Nat) (s : State) : State :=
  if isSens a && s.pathOpen then (s.regIssue (some h) a n none).park h 0x74 .reg
  else
    let s1 := s.latchNow (wordRun a n)
    s1.answer h 0x74 stOk (le 4 a ++ wordBytes ((wordRun a n).map (fun x => ((s1.seen h 0x74).reg x).getD 0)))

/-- REG_READ (R630). -/
def execRegRead (h : Hdr) (addr count : Nat) (s : State) : Out :=
  live s (serve h 0x74 (.regRead h addr count) (regReadGate addr count) (regReadBody h addr count))

/-- TBASE_NOW_LO_READ: a REG_READ of that one word (R275). -/
def execTbaseNowLoRead (h : Hdr) (s : State) : Out :=
  live s (serve h 0x74 (.tbaseNowLoRead h) (regReadGate 0x40001800 1) (regReadBody h 0x40001800 1))

/-- A write takes effect with its reply; a policy acts after it (R562), a SENS setting over the Haul link. -/
def regWriteBody (h : Hdr) (a v : Nat) (s : State) : State :=
  if isSensSetting a && s.pathOpen then (s.regIssue (some h) a 0 (some v)).park h 0x75 .reg
  else if a = 0x40010004 then (s.answer h 0x75 stOk []).setPolicy v s.sess.enableWord
  else if a = 0x40010008 then (s.answer h 0x75 stOk []).setPolicy s.sess.tierWord v
  else match s.regWrite a v with
    | .ok t => t.answer h 0x75 stOk []
    | .error e => s.answer h 0x75 e.1 e.2

/-- A REG_WRITE as any row of a register write serves it. -/
def regWriteServe (h : Hdr) (a v : Nat) (cmd : Instr) (s : State) : State :=
  serve h 0x75 cmd (regWriteGate h a v) (regWriteBody h a v) s

/-- REG_WRITE (R14, R630). -/
def execRegWrite (h : Hdr) (addr value : Nat) (s : State) : Out := live s (regWriteServe h addr value (.regWrite h addr value))

/-- R630, R635. -/
def fuseReadGate (first count : Nat) (_ : State) : Gate where
  params := [(0, 63 < first), (1, count = 0 || 60 < count || 64 < first + count)]
  tier := 0
  owner := none
  state := none

/-- The fuse words (R949). -/
def fuseReadBody (h : Hdr) (first count : Nat) (s : State) : State :=
  s.answer h 0x77 stOk (le 1 first ++ [0#8, 0#8, 0#8]
    ++ wordBytes ((List.range count).map (fun k => (s.fuse.words.getD (first + k) 0).toNat)))

/-- FUSE_READ (R630). -/
def execFuseRead (h : Hdr) (first count : Nat) (s : State) : Out :=
  live s (serve h 0x77 (.fuseRead h first count) (fuseReadGate first count) (fuseReadBody h first count))

/-! ## Rows of single registers -/

/-- SENS_REGISTER_WRITE (R334): one of the five settings; any other address is an ordinary REG_WRITE. -/
def execSensRegisterWrite (h : Hdr) (addr value : Nat) (s : State) : Out :=
  live s (regWriteServe h addr value (.sensRegisterWrite h addr value))

/-- SESS_TIER_WRITE (R587): SESS.TIER or SESS.ENABLE. -/
def execSessTierWrite (h : Hdr) (addr value : Nat) (s : State) : Out :=
  live s (regWriteServe h addr value (.sessTierWrite h addr value))

/-- WDG_HOST_CTRL_WRITE (R804). -/
def execWdgHostCtrlWrite (h : Hdr) (value : Nat) (s : State) : Out :=
  live s (regWriteServe h 0x40004000 value (.wdgHostCtrlWrite h value))

/-- THM_CONFIG_WRITE (R843). -/
def execThmConfigWrite (h : Hdr) (value : Nat) (s : State) : Out :=
  live s (regWriteServe h 0x4000300C value (.thmConfigWrite h value))

/-- PWR_RIDE_TIMER_WRITE (R248). -/
def execPwrRideTimerWrite (h : Hdr) (value : Nat) (s : State) : Out :=
  live s (regWriteServe h 0x40002010 value (.pwrRideTimerWrite h value))

/-- SESS_TELEM_WRITE (R966). -/
def execSessTelemWrite (h : Hdr) (addr value : Nat) (s : State) : Out :=
  live s (regWriteServe h addr value (.sessTelemWrite h addr value))

/-- FUSE_BLOW_SEL_WRITE (R950). -/
def execFuseBlowSelWrite (h : Hdr) (value : Nat) (s : State) : Out :=
  live s (regWriteServe h 0x4000F100 value (.fuseBlowSelWrite h value))

/-- FUSE_BLOW_WRITE (R950 to R952). -/
def execFuseBlowWrite (h : Hdr) (value : Nat) (s : State) : Out :=
  live s (regWriteServe h 0x4000F104 value (.fuseBlowWrite h value))

/-- CAUSE_STICKY_CLEAR (R177). -/
def execCauseStickyClear (h : Hdr) (value : Nat) (s : State) : Out :=
  live s (regWriteServe h 0x40000004 value (.causeStickyClear h value))

/-- HAUL_HDR_ERR_CLEAR (R385). -/
def execHaulHdrErrClear (h : Hdr) (value : Nat) (s : State) : Out :=
  live s (regWriteServe h 0x40040004 value (.haulHdrErrClear h value))

/-- HAUL_CRC_ERR_CLEAR (R386). -/
def execHaulCrcErrClear (h : Hdr) (value : Nat) (s : State) : Out :=
  live s (regWriteServe h 0x40040008 value (.haulCrcErrClear h value))

/-- PIPE_ECC_CLEAR (R434). -/
def execPipeEccClear (h : Hdr) (value : Nat) (s : State) : Out :=
  live s (regWriteServe h 0x40050008 value (.pipeEccClear h value))

/-- PSTO_ECC_CLEAR (R915). -/
def execPstoEccClear (h : Hdr) (value : Nat) (s : State) : Out :=
  live s (regWriteServe h 0x40005004 value (.pstoEccClear h value))

/-- CXP_DISCARDS_CLEAR (R532). -/
def execCxpDiscardsClear (h : Hdr) (value : Nat) (s : State) : Out :=
  live s (regWriteServe h 0x40012000 value (.cxpDiscardsClear h value))

/-- TRIG_EARLY_CLEAR (R695). -/
def execTrigEarlyClear (h : Hdr) (value : Nat) (s : State) : Out :=
  live s (regWriteServe h 0x40020000 value (.trigEarlyClear h value))

/-- ENC_ERR_COUNT_CLEAR (R698). -/
def execEncErrCountClear (h : Hdr) (value : Nat) (s : State) : Out :=
  live s (regWriteServe h 0x40021004 value (.encErrCountClear h value))

/-! ## The Bench port (R939 to R942, R947) -/

/-- The port accepts transactions: DBG_LOCK unblown, step 9 complete (R939). -/
def State.benchOpen (s : State) : Bool := !s.fuse.dbgLock && 9 ≤ s.rstc.rails

/-- The port answers: status, then the refusal byte or the data (R940). -/
def State.benchAnswer (status refusal : Nat) (data : Option Nat) (s : State) : State :=
  s.onCxp (Cxp.emit [.bench status refusal data])

/-- A read has the effect and the refusals of a Steward's REG_READ (R941). -/
def State.benchRead (a : Nat) (s : State) : State :=
  if a % 4 ≠ 0 then s.benchAnswer 2 stErrParam none
  else if !s.decodes a then s.benchAnswer 1 0 none
  else match stateGate 0x74 s with
    | some st => s.benchAnswer 2 st none
    | none =>
      if isSens a && s.pathOpen then s.regIssue none a 1 none
      else
        let s1 := s.latchNow [a]
        s1.benchAnswer 0 0 (some ((s1.reg a).getD 0))

/-- BENCH_READ (R941). -/
def execBenchRead (addr : Nat) (s : State) : Out := live s (fun t => if t.benchOpen then t.benchRead addr else t)

/-- A write has the effect and the refusals of a Steward's REG_WRITE (R941). -/
def State.benchWrite (a v : Nat) (s : State) : State :=
  if a % 4 ≠ 0 then s.benchAnswer 2 stErrParam none
  else if !s.decodes a then s.benchAnswer 1 0 none
  else if (regWriteBad a v s).any (·.2) then s.benchAnswer 2 stErrParam none
  else match orStatus (stateGate 0x75 s) (regWriteState a v s) with
    | some st => s.benchAnswer 2 st none
    | none =>
      if isSensSetting a && s.pathOpen then s.regIssue none a 0 (some v)
      else match s.regWrite a v with
        | .ok t => t.benchAnswer 0 0 none
        | .error e => s.benchAnswer 2 e.1 none

/-- BENCH_WRITE (R941). -/
def execBenchWrite (addr value : Nat) (s : State) : Out := live s (fun t => if t.benchOpen then t.benchWrite addr value else t)

/-! ## The test access port (R943 to R948) -/

/-- IDCODE: the silicon step in [31:28], 0x1296 in [27:12]; the rest the spec leaves open (R944, log entry 168). -/
def idcodeWord : BitVec 32 := Config.siliconStep ++ 0x1296#16 ++ Config.idcodeLow

/-- An instruction reaches the port with the data register that it selects; JTAG_TRSTN and JTAG_OFF hold the port in Test-Logic-Reset
(R89, R948). -/
def State.tap (ir : Nat) (dr : BitVec 32) (s : State) : State :=
  if s.tapOpen then s.onJtag (fun j => { j with ir := ir, dr := dr }) else s

/-- EXTEST, HIGHZ and CLAMP put the module outside its ratings (R946). -/
def State.tapOut (ir : Nat) (s : State) : State :=
  if s.tapOpen then s.onJtag (fun j => { j with ir := ir, tainted := true }) else s

/-- JTAG_BYPASS (R943). -/
def execJtagBypass (s : State) : Out := .next (s.tap 31 0)

/-- JTAG_IDCODE (R943, R944). -/
def execJtagIdcode (s : State) : Out := .next (s.tap 1 idcodeWord)

/-- JTAG_SAMPLE_PRELOAD: PRELOAD fills the boundary register (R943, R945); a sample of the pads is a free value (log entry 2). -/
def execJtagSamplePreload (preload : Bool) (value : Nat) (s : State) : Out :=
  .next (if !s.tapOpen then s else
    (s.spend 1).onJtag (fun j => { j with ir := 2, boundary := if preload then value else (Config.freeValue s.freeCtr).toNat }))

/-- JTAG_EXTEST (R943, R946). -/
def execJtagExtest (s : State) : Out := .next (s.tapOut 0)

/-- JTAG_HIGHZ (R943, R946). -/
def execJtagHighz (s : State) : Out := .next (s.tapOut 3)

/-- JTAG_CLAMP (R943, R946). -/
def execJtagClamp (s : State) : Out := .next (s.tapOut 4)

end Sys2Proof.Machine
end

