-- ==== Sys2Proof/Machine/Store.lean ====
section
/-!
DEFINITION. The parameter store, the counters, the log and the CRC walk: opcodes 0x40 to 0x46 and the background work on storage
(spec/12_command_catalogue.md R621 to R624, spec/17_parameter_and_calibration_storage.md R848 to R893 and R912 to R913,
spec/18_firmware_security_background.md R954 to R960).
-/

namespace Sys2Proof.Machine

open Sys2Proof

/-- The user area ends here (R855). -/
def userEnd : Nat := 0x1A000

/-- A read, or a program to another sector, suspends an erase in progress (R852). -/
def Psto.suspend (p : Psto) : Psto := { p with suspended := p.suspended || p.erasing ≠ 0xFF }

/-- The store is closed by a unit reset in progress (R171). -/
def State.pstoFenced (s : State) : Bool := s.rstc.unitBusy.map (·.1) = some 0x32

/-! ## PSTO_READ (R621, R852, R858, R859, R876, R878) -/

/-- R621. -/
def pstoReadGate (offset count : Nat) (s : State) : Gate where
  params := [(0, userEnd ≤ offset), (4, count = 0 || 240 < count || userEnd < offset + count)]
  tier := 3
  owner := none
  state := stateIf s.pstoFenced

/-- RESULT of PSTO_READ. -/
def Psto.readResult (p : Psto) (offset count : Nat) : List Byte :=
  le 4 offset ++ (List.range count).map (fun k => p.readByte (offset + k))

/-- PSTO_READ (R621). -/
def execPstoRead (h : Hdr) (offset count : Nat) (s : State) : Out :=
  live s (serve h 0x40 (.pstoRead h offset count) (pstoReadGate offset count)
    (fun t => (t.onPsto (fun p => (p.countErrors offset count).suspend)).answer h 0x40 stOk (t.psto.readResult offset count)))

/-! ## PSTO_WRITE (R621 to R623, R852, R853, R868, R878, R879, R884) -/

/-- Groups that a write names. -/
def groupsOf (offset length : Nat) : List Nat := (List.range (length / 8)).map (· + offset / 8)

/-- A target group is not erased: programmed, in a void range, or in the sector being erased (R622, R878). -/
def Psto.taken (p : Psto) (g : Nat) : Bool := p.groups.contains g || p.inVoid (8 * g) || p.erasing = sectorOf (8 * g)

/-- What stands in the way of a write, in this order: protection, the contents, the void ranges held, energy. -/
def State.writeState (s : State) (offset length : Nat) : Option Nat :=
  if protectFrom s.psto.protect < offset + length then some stProtect
  else if s.pstoFenced || 64 ≤ s.psto.voids.length || (groupsOf offset length).any s.psto.taken then some stState
  else if s.pwr.covers (s.psto.needOf needRecord) then none else some stEnergy

/-- R621 to R623, R879. -/
def pstoWriteGate (h : Hdr) (offset : Nat) (bytes : List Byte) (s : State) : Gate where
  params := [(0, offset % 8 ≠ 0 || userEnd ≤ offset),
    (4, bytes.length % 8 ≠ 0 || bytes.length < 8 || 256 < bytes.length || (offset < userEnd && userEnd < offset + bytes.length))]
  tier := 2
  owner := s.sess.claimedBy h.session [0x18]
  state := s.writeState offset bytes.length

/-- PSTO_WRITE (R868). -/
def execPstoWrite (h : Hdr) (offset : Nat) (bytes : List Byte) (s : State) : Out :=
  live s (serve h 0x41 (.pstoWrite h offset bytes) (pstoWriteGate h offset bytes)
    (fun t => (t.onPsto (fun p => (p.write offset bytes).suspend)).answer h 0x41 stOk []))

/-! ## PSTO_ERASE (R621, R623, R624, R868, R869, R884) -/

/-- The energy check before a sector (R202, R228, R624). -/
def State.eraseCovered (s : State) : Bool := s.pwr.covers (s.psto.needOf needErase) && s.pwr.mode ≠ .ride

/-- A sector lies in the protected part (R882). -/
def Psto.guards (p : Psto) (sector : Nat) : Bool := protectFrom p.protect < userOffset sector + 2048

/-- A sector's erase begins: ERASE_START (R868). -/
def Psto.eraseBegin (k : Nat) (p : Psto) : Psto :=
  { p.store (.eraseStart k 0) with
    erasing := k
    busy := true
    suspended := false }

/-- The erase in progress goes on to its next sector or ends, and the one waiting longest begins (R624, R884); one that Ride-through cuts ends
with FAIL_ABORTED (R30, R202). -/
def State.eraseNext : Nat → State → State
  | 0, s => s
  | n + 1, s =>
    match s.psto.job with
    | none =>
      (match s.psto.queued with
       | [] => s
       | j :: rest => (s.onPsto (fun p => { p with job := some j, queued := rest })).eraseNext n)
    | some j =>
      if j.left = 0 then (s.eraseEnds stOk).eraseNext n
      else if s.psto.guards j.sector then (s.eraseEnds stProtect).eraseNext n
      else if s.eraseCovered then s.onPsto (Psto.eraseBegin j.sector)
      else (s.eraseEnds (if s.pwr.mode = .ride then stFailAborted else stEnergy)).eraseNext n

/-- The same for every erase that waits. -/
def State.eraseGo (s : State) : State := s.eraseNext (2 * s.psto.queued.length + 3)

/-- An erase waits for the one in progress (R851). -/
def State.eraseWaits (s : State) : Bool := s.psto.job.isSome || s.psto.erasing ≠ 0xFF

/-- R621, R623, R624; a queued erase is tested when its turn comes (R884). -/
def pstoEraseGate (h : Hdr) (first count : Nat) (s : State) : Gate where
  params := [(0, first < 12 || 63 < first), (1, count = 0 || 52 < count || (first ≤ 63 && 64 < first + count))]
  tier := 2
  owner := s.sess.claimedBy h.session [0x18]
  state :=
    if s.pstoFenced then some stState
    else if s.eraseWaits then none
    else if s.psto.guards (first + count - 1) then some stProtect
    else if s.eraseCovered then none else some stEnergy

/-- The job that a PSTO_ERASE is. -/
def eraseJob (h : Hdr) (first count : Nat) : EraseJob :=
  { session := h.session, tag := h.tag, sector := first, left := count, done := 0 }

/-- PSTO_ERASE starts, or waits for the one in progress. -/
def pstoEraseBody (h : Hdr) (first count : Nat) (s : State) : State :=
  let s1 := s.accept h 0x42
  if s.eraseWaits then s1.onPsto (fun p => { p with queued := p.queued ++ [eraseJob h first count] })
  else (s1.onPsto (fun p => { p with job := some (eraseJob h first count) })).eraseGo

/-- PSTO_ERASE (R624). -/
def execPstoErase (h : Hdr) (first count : Nat) (s : State) : Out :=
  live s (serve h 0x42 (.pstoErase h first count) (pstoEraseGate h first count) (pstoEraseBody h first count))

/-- The sector in progress is erased, and ERASE_DONE is programmed (R868, R869, R877). -/
def Psto.eraseFinish (p : Psto) : Psto :=
  { (p.eraseUser p.erasing).append (.eraseDone p.erasing 0) with
    erasing := 0xFF
    busy := false
    job := p.job.map (fun j => { j with sector := j.sector + 1, left := j.left - 1, done := j.done + 1 }) }

/-- What follows: a fence that waited for this ends the command and is done (R171); otherwise the next sector. -/
def State.sectorErased (s : State) : State :=
  let s1 := s.onPsto Psto.eraseFinish
  if s.pstoFenced then
    (s1.eraseEnds (if s1.psto.job.map (·.left) = some 0 then stOk else stFailFenced)).unitDone
  else s1.eraseGo

/-- PSTO_SECTOR_ERASE_DONE (R869): nothing while no erase runs or the erase is suspended. -/
def execPstoSectorEraseDone (s : State) : Out :=
  live s (onCore (fun t => if t.psto.erasing = 0xFF || t.psto.suspended then t else t.sectorErased))

/-- PSTO_ERASE_RESUME (R852). -/
def execPstoEraseResume (s : State) : Out := live s (State.onPsto (fun p => { p with suspended := false }))

/-! ## PSTO_PROTECT (R621, R868, R883) -/

/-- R621, R229. -/
def pstoProtectGate (h : Hdr) (code : Nat) (s : State) : Gate where
  params := [(0, 3 < code)]
  tier := 1
  owner := s.sess.claimedBy h.session [0x18]
  state := if s.pstoFenced then some stState else if s.pwr.covers (s.psto.needOf needRecord) then none else some stEnergy

/-- One PROTECT entry; the code is in force from the reply on (R868, R883). -/
def Psto.protectBy (code : Nat) (p : Psto) : Psto := { p.store (.protect code 0) with protect := code }

/-- PSTO_PROTECT (R882). -/
def execPstoProtect (h : Hdr) (code : Nat) (s : State) : Out :=
  live s (serve h 0x43 (.pstoProtect h code) (pstoProtectGate h code)
    (fun t => (t.onPsto (fun p => (p.protectBy code).suspend)).answer h 0x43 stOk (le 1 t.psto.protect ++ [0#8, 0#8, 0#8])))

/-! ## COUNTER_GET, LOG_READ, LOG_CLEAR (R621, R955 to R958, R191) -/

/-- COUNTER_GET (R621). -/
def execCounterGet (h : Hdr) (s : State) : Out :=
  live s (serve h 0x44 (.counterGet h) (fun _ => Gate.plain 3)
    (fun t => t.answer h 0x44 stOk ((t.counters.map (le 4)).flatten)))

/-- R621. -/
def logReadGate (count : Nat) (_ : State) : Gate where
  params := [(2, count = 0 || 7 < count)]
  tier := 3
  owner := none
  state := none

/-- RESULT of LOG_READ (R621, R957, R958). -/
def Cfl.logResult (c : Cfl) (first count : Nat) : List Byte :=
  le 2 c.visible.length ++ le 2 first ++ (((c.visible.drop first).take count).map LogEntry.bytes).flatten

/-- LOG_READ (R957). -/
def execLogRead (h : Hdr) (first count : Nat) (s : State) : Out :=
  live s (serve h 0x45 (.logRead h first count) (logReadGate count) (fun t => t.answer h 0x45 stOk (t.cfl.logResult first count)))

/-- R621, R228, R229. -/
def logClearGate (s : State) : Gate where
  params := []
  tier := 1
  owner := none
  state := if s.pwr.covers (s.bgNeed .log) then none else some stEnergy

/-- CLEAR_SEQ moves to the next SEQ, a Log cleared entry follows, and PWR.DOWN_FAULT is cleared (R191, R957). -/
def State.logCleared (s : State) : State :=
  let s1 := s.onCfl Cfl.writeLog
  let s2 := (s1.onCfl (fun c => { c with clearSeq := c.logSeq })).logEntry 0x000E (le 4 s1.cfl.clearSeq)
  ((s2.onCfl Cfl.writeLog).storeRing3).onPwr (fun p => { p with downFault := Pwr.reset.downFault })

/-- LOG_CLEAR (R957). -/
def execLogClear (h : Hdr) (s : State) : Out :=
  live s (serve h 0x46 (.logClear h) logClearGate (fun t => (t.logCleared).answer h 0x46 stOk []))

/-! ## The start-up scan (R871 to R877, R881) -/

/-- PSTO_STARTUP_SCAN (R871): where both journal headers are lost, the erase of the sectors is a store like any other (R228, R873). -/
def execPstoStartupScan (s : State) : Out :=
  live s (onCore (fun t => if t.psto.scan = 1 then (if t.psto.active.isNone then t.background .rebuild else t.scanEnds) else t))

/-- PENDING_ERASE_RESOLVE (R875): a background store. -/
def execPendingEraseResolve (marginOk : Bool) (s : State) : Out :=
  live s (onCore (fun t => if t.psto.resolving then t.background (.resolve marginOk) else t))

/-! ## Background work (R230, R866, R890, R893, R955) -/

/-- JOURNAL_COMPACTION (R866): due while fewer than 8 slots are free. -/
def execJournalCompaction (s : State) : Out :=
  live s (onCore (fun t => if t.psto.scan = 2 && t.psto.nearlyFull then t.background .compaction else t))

/-- A save that waits for energy goes on when its check passes (R445). -/
def State.saveWake (s : State) : State :=
  match s.cfl.save with
  | none => s
  | some j =>
    if j.waiting && s.pwr.covers needFlash then
      (if j.block = 200 then s.saveFinish
       else s.onCfl (fun c => { (if j.block = 0 then c.saveVoid else c) with save := some { j with waiting := false } }))
    else s

/-- BACKGROUND_STORE_RETRY (R230). -/
def execBackgroundStoreRetry (vhold : Nat) (s : State) : Out :=
  live s (onCore (fun t => ((t.onPwr (fun p => { p with vhold := vhold })).bgRetry).saveWake))

/-- The ring's other sector holds programmed groups and waits to be erased (R890). -/
def Psto.ringDue (p : Psto) (ring : Nat) : Bool :=
  (p.inForce ring).isSome && (List.range 16).any (fun i => !p.slotErased ring (i + 16 * (1 - p.ringHalf ring)))

/-- RING_SECTOR_ERASE (R890). -/
def execRingSectorErase (ring : Nat) (s : State) : Out :=
  live s (onCore (fun t => if t.psto.ringDue ring then t.background (.ringErase ring) else t))

/-- COUNTER_RING_WRITE (R893): an hour of powered time has passed. -/
def execCounterRingWrite (s : State) : Out := live s (onCore (fun t => (t.count 8).background .counters))

/-- LOG_WRITE (R955). -/
def execLogWrite (s : State) : Out := live s (onCore (fun t => if t.cfl.logBuf.isEmpty then t else t.background .log))

/-! ## The CRC walk (R912, R913, R918, R960) -/

/-- First flash block of a set's records and the block of its header (R897). -/
def setBlock (i : Nat) : Nat := 128 + 200 * i
def headerBlock (i : Nat) : Nat := 0x3A2 + i

/-- Flash blocks already marked not good. -/
def Cfl.knownBad (c : Cfl) : List Nat :=
  (c.images.mapIdx (fun i x => x.badBlocks.map (· + 64 * i))).flatten ++ (c.sets.mapIdx (fun i x => x.badBlocks.map (· + setBlock i))).flatten

/-- The blocks the walk reads, in address order: both images, the four sets, their headers (R912). -/
def walkBlocks : List Nat := List.range 928 ++ (List.range 4).map headerBlock

/-- Blocks that the walk finds not good. -/
def Cfl.walkBad (c : Cfl) (bad : List Nat) : List Nat := walkBlocks.filter (fun b => bad.contains b || c.knownBad.contains b)

/-- A set as later recalls find it: decayed blocks are not good, a decayed header has no correct PARAM_CRC (R901). -/
def CalSet.decayed (bad : List Nat) (i : Nat) (x : CalSet) : CalSet :=
  { x with
    badBlocks := (List.range 200).filter (fun b => x.badBlocks.contains b || bad.contains (setBlock i + b))
    paramCrcOk := x.paramCrcOk && !bad.contains (headerBlock i) }

/-- An image as later verifications find it. -/
def Image.decayed (bad : List Nat) (i : Nat) (x : Image) : Image :=
  { x with badBlocks := (List.range 64).filter (fun b => x.badBlocks.contains b || bad.contains (64 * i + b)) }

/-- CFL.WALK after a completed walk (R918). -/
def Cfl.walked (found : List Nat) (c : Cfl) : Cfl :=
  { c with
    walkFails := satAdd 0xFF c.walkFails found.length
    walkPasses := (c.walkPasses + 1) % 256
    walkLast := found.getLast?.getD c.walkLast
    sets := c.sets.mapIdx (fun i x => x.decayed found i)
    images := c.images.mapIdx (fun i x => x.decayed found i) }

/-- CRC_WALK (R912, R913): `bad` names the flash blocks that fail their check. -/
def execCrcWalk (bad : List Nat) (s : State) : Out :=
  live s (onCore (fun t =>
    (t.cfl.walkBad bad).foldl (fun u b => u.logEntry 0x000A (le 2 b)) (t.onCfl (Cfl.walked (t.cfl.walkBad bad)))))

/-- CRC_WALK_ABANDON (R960): counted in FAILS. -/
def execCrcWalkAbandon (s : State) : Out :=
  live s (onCore (State.onCfl (fun c => { c with walkFails := satAdd 0xFF c.walkFails 1 })))

end Sys2Proof.Machine
end

