-- ==== Sys2Proof/Machine/Triggers.lean ====
section
/-!
DEFINITION. TRIG_CONFIG, ENC_CONFIG and ANGLE_TABLE_LOAD, trigger edges and packets, and the encoder
(spec/13_triggers_encoder_gang.md R636 to R668, spec/12_command_catalogue.md R625 and R626, spec/02 R96, spec/10 R514 to R516).
-/

namespace Sys2Proof.Machine

open Sys2Proof

/-! ## TRIG_CONFIG (R96, R625, R626, R636, R637, R24) -/

/-- The readout source names a TRIG pad that the same command makes an output (R637). -/
def selfDriven (p : TrigP) : Bool :=
  1 ≤ p.source && p.source ≤ 4 && p.pads.testBit (p.source - 1) && p.dirs.testBit (p.source - 1)

/-- Source, mode or edge would change while the readout is armed, or mode or edge while the gang is ARMED or RUNNING (R24, R626,
R691). -/
def State.trigLocked (p : TrigP) (s : State) : Bool :=
  let timing := p.mode ≠ s.trig.cfg.mode || p.edge ≠ s.trig.cfg.edge
  (s.rd.isArmed && (timing || p.source ≠ s.trig.cfg.source)) || (2 ≤ s.gang.state && timing)

/-- The gate of TRIG_CONFIG. -/
def trigGate (h : Hdr) (p : TrigP) (s : State) : Gate where
  params :=
    [ (0, 15 < p.pads), (1, 15 < p.dirs), (2, 7 < p.source || selfDriven p), (3, 1 < p.mode), (4, 1 < p.edge), (5, 32 < p.filter)
    , (8, 4 < p.func0), (9, 4 < p.func1), (10, 4 < p.func2), (11, 4 < p.func3) ]
  tier := 2
  owner := s.sess.claimedBy h.session [0x15]
  state := stateIf (s.trigLocked p)

/-- Bits of a mask take new values where a second mask names them. -/
def maskMerge (named new old : Nat) : Nat := (new &&& named) ||| (old - (old &&& named))

/-- Only the pads that the command names change; source, mode, edge and filter are replaced (R96, R636). -/
def trigMerge (p old : TrigP) : TrigP :=
  { p with
    pads := old.pads ||| p.pads
    dirs := maskMerge p.pads p.dirs old.dirs
    func0 := if p.pads.testBit 0 then p.func0 else old.func0
    func1 := if p.pads.testBit 1 then p.func1 else old.func1
    func2 := if p.pads.testBit 2 then p.func2 else old.func2
    func3 := if p.pads.testBit 3 then p.func3 else old.func3
    gpio := old.gpio ||| p.gpio
    gpioDir := maskMerge p.gpio p.gpioDir old.gpioDir
    gpioOut := maskMerge p.gpio p.gpioOut old.gpioOut }

/-- TRIG_CONFIG (R625, R636). -/
def execTrigConfig (h : Hdr) (p : TrigP) (s : State) : Out :=
  live s (serve h 0x50 (.trigConfig h p) (trigGate h p)
    (fun t => (t.onTrig (fun x => { x with cfg := trigMerge p x.cfg })).answer h 0x50 stOk []))

/-! ## Trigger edges and packets (R638, R641 to R643, R514 to R516) -/

/-- The pad is an output. -/
def Trig.isOutput (x : Trig) (pad : Nat) : Bool := x.cfg.pads.testBit pad && x.cfg.dirs.testBit pad

/-- The edge is the one that TRIG_CONFIG selects. -/
def Trig.selected (x : Trig) (rising : Bool) : Bool := if x.cfg.edge = 0 then rising else !rising

/-- TRIG_EDGE (R96, R638, R641, R642): a filtered edge at a pad; only a configured input takes it. -/
def execTrigEdge (pad : Nat) (rising : Bool) (tick : Nat) (s : State) : Out :=
  live s (fun t0 =>
    if 3 < pad || t0.trig.isOutput pad then t0
    else
      let t := (t0.atTick tick).onTrig (fun x => { x with levels := maskMerge (2 ^ pad) (bit rising * 2 ^ pad) x.levels })
      if t.trig.isInput pad && t.trig.selected rising then t.startRequest (pad + 1) tick else t)

/-- TRIGGER_PACKET (R514 to R516, R642): on link 0, acknowledged; a rising edge requests a start. -/
def execTriggerPacket (rising : Bool) (tick : Nat) (s : State) : Out :=
  live s (fun t0 =>
    if t0.cxp.up0 then
      let t := (t0.atTick tick).onCxp (Cxp.send [.triggerAck])
      if rising then t.startRequest 5 tick else t
    else t0)

/-! ## ENC_CONFIG and ANGLE_TABLE_LOAD (R625, R626, R662, R668) -/

/-- The readout is armed with the angle-table source. -/
def State.angleSource (s : State) : Bool := s.rd.isArmed && s.trig.cfg.source = 6

/-- The gate of ENC_CONFIG; a preset that the counts per revolution do not reach is refused (R655). -/
def encGate (h : Hdr) (p : EncP) (s : State) : Gate where
  params := [(0, 2 < p.mode), (1, 1 < p.invert), (2, 1 < p.clearZ), (8, p.cpr ≠ 0 && p.cpr ≤ p.preset)]
  tier := 2
  owner := s.sess.claimedBy h.session [0x16]
  state := stateIf s.angleSource

/-- The encoder takes its configuration: position preset, LOST and Z_REF cleared, errors still counted (R662). -/
def Enc.configured (p : EncP) (e : Enc) : Enc :=
  { e with
    cfg := p
    position := p.preset
    zref := none
    lostDue := false
    state := if p.mode = 0 then 2 else 0 }

/-- ENC_CONFIG (R662). -/
def execEncConfig (h : Hdr) (p : EncP) (s : State) : Out :=
  live s (serve h 0x51 (.encConfig h p) (encGate h p) (fun t => (t.onEnc (Enc.configured p)).answer h 0x51 stOk []))

/-- Offsets of the entries with what is wrong at each (R668). -/
def angleBad (cpr : Nat) (l : List AngleEntry) : List (Nat × Bool) :=
  (l.mapIdx (fun i e => [(4 + 8 * i, decide (cpr ≠ 0) && decide (cpr ≤ e.position)), (8 + 8 * i, decide (1 < e.action))])).flatten

/-- The gate of ANGLE_TABLE_LOAD. -/
def angleGate (h : Hdr) (first : Nat) (l : List AngleEntry) (s : State) : Gate where
  params := (0, decide (63 < first)) :: (1, l.isEmpty || decide (64 < l.length) || decide (64 < first + l.length))
    :: angleBad s.enc.cfg.cpr l
  tier := 2
  owner := s.sess.claimedBy h.session [0x16]
  state := stateIf s.angleSource

/-- Entries from `first` on are replaced (R663). -/
def Enc.load (first : Nat) (l : List AngleEntry) (e : Enc) : Enc :=
  { e with table := e.table.take first ++ l ++ e.table.drop (first + l.length) }

/-- ANGLE_TABLE_LOAD (R625). -/
def execAngleTableLoad (h : Hdr) (first : Nat) (entries : List AngleEntry) (s : State) : Out :=
  live s (serve h 0x52 (.angleTableLoad h first entries) (angleGate h first entries)
    (fun t => (t.onEnc (Enc.load first entries)).answer h 0x52 stOk []))

/-! ## Transitions (R653 to R658, R664 to R667) -/

/-- Whether a change of line A, else B, follows the order (0,0), (1,0), (1,1), (0,1), (0,0). -/
def inOrder (a b lineA : Bool) : Bool := if lineA then a = b else a ≠ b

/-- The position one count further (R655). -/
def countUp (cpr p : Nat) : Nat := if cpr = 0 then (p + 1) % 2 ^ 32 else (p + 1) % cpr

/-- The position one count back. -/
def countDown (cpr p : Nat) : Nat := if cpr = 0 then (p + 2 ^ 32 - 1) % 2 ^ 32 else (p + cpr - 1) % cpr

/-- The transition counts forward. -/
def Enc.forward (e : Enc) (lineA : Bool) : Bool := inOrder e.a e.b lineA ≠ decide (e.cfg.invert = 1)

/-- A line changes and the position follows; an encoder that is off counts nothing. -/
def Enc.legal (lineA : Bool) (e : Enc) : Enc :=
  { e with
    a := if lineA then !e.a else e.a
    b := if lineA then e.b else !e.b
    position :=
      if e.cfg.mode = 0 then e.position
      else if e.forward lineA then countUp e.cfg.cpr e.position else countDown e.cfg.cpr e.position }

/-- An entry fires with its stamp (R666, R667). -/
def State.fireEntry (t : Nat) (s : State) (p : Nat × AngleEntry) : State :=
  if p.2.action = 0 then s.startRequest 6 t
  else s.releaseSchedules (fun x => x.ref = 3 && x.value = p.1 && x.handle = p.2.handle) t

/-- Entries that a forward transition to this position fires, in entry order; none while LOST (R658, R664, R665). -/
def Enc.firing (e : Enc) : List (Nat × AngleEntry) :=
  if e.state = 0 then (e.table.mapIdx (fun i x => (i, x))).filter (fun p => p.2.position = e.position) else []

/-- A legal transition and what it fires. -/
def State.encStep (lineA : Bool) (t : Nat) (s : State) : State :=
  let s1 := s.onEnc (Enc.legal lineA)
  if s.enc.cfg.mode ≠ 0 && s.enc.forward lineA then s1.enc.firing.foldl (State.fireEntry t) s1 else s1

/-- ENC_LEGAL_TRANSITION (R653). -/
def execEncLegalTransition (lineA : Bool) (tick : Nat) (s : State) : Out :=
  live s (fun t => (t.atTick tick).encStep lineA tick)

/-- The three latest stamps lie within 100,000 ticks (R657). -/
def lostWindow (l : List Nat) : Bool :=
  match l with
  | [a, _, c] => c - a ≤ 100000
  | _ => false

/-- Both lines change: the position stays, the error is counted (R654). -/
def Enc.illegal (t : Nat) (e : Enc) : Enc :=
  if e.cfg.mode = 0 then { e with a := !e.a, b := !e.b }
  else
    let l := (if e.errStamps.length < 3 then e.errStamps else e.errStamps.tail) ++ [t]
    { e with
      a := !e.a
      b := !e.b
      errCount := satAdd 0xFFFFFFFF e.errCount 1
      errStamps := l
      lostDue := e.lostDue || (e.state = 0 && lostWindow l) }

/-- ENC_ILLEGAL_TRANSITION (R654). -/
def execEncIllegalTransition (tick : Nat) (s : State) : Out := live s (fun t => (t.atTick tick).onEnc (Enc.illegal tick))

/-- ENC_LOST (R657): declared after the third illegal transition. -/
def execEncLost (s : State) : Out :=
  live s (fun t =>
    if t.enc.lostDue && t.enc.state = 0 then
      (t.onEnc (fun e => { e with state := 1, lostDue := false })).raise 0x12 (le 4 t.enc.errCount ++ le 4 t.enc.position)
    else t)

/-! ## The index (R659 to R661) -/

/-- The position nearest to a whole number of revolutions from a reference. -/
def nearest (cpr : Nat) (z p : Int) : Int := if cpr = 0 then z else z + cpr * roundDivI (p - z) cpr

/-- The position that an index while LOST restores, before it is taken modulo CPR. -/
def Enc.restored (e : Enc) : Int :=
  if e.cfg.clearZ = 1 then nearest e.cfg.cpr 0 e.position
  else match e.zref with
    | some z => nearest e.cfg.cpr z e.position
    | none => e.position

/-- Modulo the counts per revolution. -/
def wrapped (cpr : Nat) (p : Int) : Nat := if cpr = 0 then (p % (2 ^ 32 : Int)).toNat else (p % (cpr : Int)).toNat

/-- The position after an index. -/
def Enc.indexed (e : Enc) : Nat :=
  if e.cfg.clearZ = 1 then 0 else if e.state = 1 then wrapped e.cfg.cpr e.restored else e.position

/-- An index: Z_REF is recorded when there is none, LOST ends with its correction (R660, R661, R699). -/
def Enc.index (e : Enc) : Enc :=
  if e.cfg.mode = 0 then e
  else
    { e with
      position := e.indexed
      zref := some (e.zref.getD e.indexed)
      correction := if e.state = 1 then clamp (-32768) 32767 (e.restored - e.position) else e.correction
      state := if e.state = 1 then 0 else e.state }

/-- ENC_INDEX (R660, R661). -/
def execEncIndex (tick : Nat) (s : State) : Out := live s (fun t => (t.atTick tick).onEnc Enc.index)

end Sys2Proof.Machine
end

