-- ==== Sys2Proof/Machine/Dispatch.lean ====
section
/-!
DEFINITION. One arm per command: a direct call of its meaning.
-/

namespace Sys2Proof.Machine

open Sys2Proof

/-- The effect of a command on everything but the queue of waiting commands. -/
def exec (i : Instr) (s : State) : Host.Outcome State Fault Refusal :=
  match i with
  | .ping h bytes => Sys2Proof.Machine.execPing h bytes s
  | .sessionOpen h clientId => Sys2Proof.Machine.execSessionOpen h clientId s
  | .sessionClose h target => Sys2Proof.Machine.execSessionClose h target s
  | .sessionPolicy h tiers enable => Sys2Proof.Machine.execSessionPolicy h tiers enable s
  | .claim h code => Sys2Proof.Machine.execClaim h code s
  | .release h code holder => Sys2Proof.Machine.execRelease h code holder s
  | .statusGet h => Sys2Proof.Machine.execStatusGet h s
  | .eventSubscribe h mask => Sys2Proof.Machine.execEventSubscribe h mask s
  | .replyFetch h => Sys2Proof.Machine.execReplyFetch h s
  | .cancel h target tag => Sys2Proof.Machine.execCancel h target tag s
  | .modeSet h mode => Sys2Proof.Machine.execModeSet h mode s
  | .sysReset h level => Sys2Proof.Machine.execSysReset h level s
  | .unitReset h unit mode => Sys2Proof.Machine.execUnitReset h unit mode s
  | .timeGet h => Sys2Proof.Machine.execTimeGet h s
  | .hostKeepalive h key => Sys2Proof.Machine.execHostKeepalive h key s
  | .wdgConfig h period enable => Sys2Proof.Machine.execWdgConfig h period enable s
  | .streamOpen h p => Sys2Proof.Machine.execStreamOpen h p s
  | .streamClose h stream => Sys2Proof.Machine.execStreamClose h stream s
  | .streamStart h wait stream => Sys2Proof.Machine.execStreamStart h wait stream s
  | .streamHalt h stream => Sys2Proof.Machine.execStreamHalt h stream s
  | .streamModify h p => Sys2Proof.Machine.execStreamModify h p s
  | .readoutConfig h p => Sys2Proof.Machine.execReadoutConfig h p s
  | .readoutArm h wait arm => Sys2Proof.Machine.execReadoutArm h wait arm s
  | .frameSnap h stream count => Sys2Proof.Machine.execFrameSnap h stream count s
  | .pipeConfig h wait sharp bypass => Sys2Proof.Machine.execPipeConfig h wait sharp bypass s
  | .radiometrySet h eps tRefl => Sys2Proof.Machine.execRadiometrySet h eps tRefl s
  | .qualityConfig h qmask => Sys2Proof.Machine.execQualityConfig h qmask s
  | .adcCal h => Sys2Proof.Machine.execAdcCal h s
  | .shutterCal h wait sigma mean temp => Sys2Proof.Machine.execShutterCal h wait sigma mean temp s
  | .gainCal h wait sigma mean temp => Sys2Proof.Machine.execGainCal h wait sigma mean temp s
  | .driftConfig h bound mode => Sys2Proof.Machine.execDriftConfig h bound mode s
  | .shutterInhibit h duration => Sys2Proof.Machine.execShutterInhibit h duration s
  | .defectEdit h wait entries => Sys2Proof.Machine.execDefectEdit h wait entries s
  | .calsetSelect h wait set => Sys2Proof.Machine.execCalsetSelect h wait set s
  | .calsetSave h wait => Sys2Proof.Machine.execCalsetSave h wait s
  | .coeffRead h first count => Sys2Proof.Machine.execCoeffRead h first count s
  | .coeffWrite h wait first records => Sys2Proof.Machine.execCoeffWrite h wait first records s
  | .actConfig h ch c => Sys2Proof.Machine.execActConfig h ch c s
  | .actProgramLoad h target first words => Sys2Proof.Machine.execActProgramLoad h target first words s
  | .actFire h wait ch kind hold => Sys2Proof.Machine.execActFire h wait ch kind hold s
  | .actSchedule h p => Sys2Proof.Machine.execActSchedule h p s
  | .actAbort h a b flags => Sys2Proof.Machine.execActAbort h a b flags s
  | .actDiagGet h ch => Sys2Proof.Machine.execActDiagGet h ch s
  | .shutterMove h wait dir => Sys2Proof.Machine.execShutterMove h wait dir s
  | .pstoRead h offset count => Sys2Proof.Machine.execPstoRead h offset count s
  | .pstoWrite h offset bytes => Sys2Proof.Machine.execPstoWrite h offset bytes s
  | .pstoErase h first count => Sys2Proof.Machine.execPstoErase h first count s
  | .pstoProtect h code => Sys2Proof.Machine.execPstoProtect h code s
  | .counterGet h => Sys2Proof.Machine.execCounterGet h s
  | .logRead h first count => Sys2Proof.Machine.execLogRead h first count s
  | .logClear h => Sys2Proof.Machine.execLogClear h s
  | .trigConfig h p => Sys2Proof.Machine.execTrigConfig h p s
  | .encConfig h p => Sys2Proof.Machine.execEncConfig h p s
  | .angleTableLoad h first entries => Sys2Proof.Machine.execAngleTableLoad h first entries s
  | .gangConfig h members rule => Sys2Proof.Machine.execGangConfig h members rule s
  | .gangJoin h => Sys2Proof.Machine.execGangJoin h s
  | .gangLeave h => Sys2Proof.Machine.execGangLeave h s
  | .gangStatus h => Sys2Proof.Machine.execGangStatus h s
  | .thermalGet h => Sys2Proof.Machine.execThermalGet h s
  | .thermalConfig h level => Sys2Proof.Machine.execThermalConfig h level s
  | .powerGet h => Sys2Proof.Machine.execPowerGet h s
  | .rideConfig h ms => Sys2Proof.Machine.execRideConfig h ms s
  | .fwInfo h => Sys2Proof.Machine.execFwInfo h s
  | .fwWrite h image offset bytes => Sys2Proof.Machine.execFwWrite h image offset bytes s
  | .fwVerify h image => Sys2Proof.Machine.execFwVerify h image s
  | .fwActivate h image later => Sys2Proof.Machine.execFwActivate h image later s
  | .regRead h addr count => Sys2Proof.Machine.execRegRead h addr count s
  | .regWrite h addr value => Sys2Proof.Machine.execRegWrite h addr value s
  | .ledgeExit h => Sys2Proof.Machine.execLedgeExit h s
  | .fuseRead h first count => Sys2Proof.Machine.execFuseRead h first count s
  | .doorbell mbox len command tick => Sys2Proof.Machine.execDoorbell mbox len command tick s
  | .replyPop mbox => Sys2Proof.Machine.execReplyPop mbox s
  | .connectionConfig rate links => Sys2Proof.Machine.execConnectionConfig rate links s
  | .connectionReset => Sys2Proof.Machine.execConnectionReset s
  | .acquisitionMirrorWrite addr value => Sys2Proof.Machine.execAcquisitionMirrorWrite addr value s
  | .discovery link => Sys2Proof.Machine.execDiscovery link s
  | .triggerPacket rising tick => Sys2Proof.Machine.execTriggerPacket rising tick s
  | .unsupportedPacket link kind => Sys2Proof.Machine.execUnsupportedPacket link kind s
  | .hostHeartbeat link host tick => Sys2Proof.Machine.execHostHeartbeat link host tick s
  | .heartbeatSend tick => Sys2Proof.Machine.execHeartbeatSend tick s
  | .cxpLinkLost link => Sys2Proof.Machine.execCxpLinkLost link s
  | .cxpLinkRelock link => Sys2Proof.Machine.execCxpLinkRelock link s
  | .replyReplay => Sys2Proof.Machine.execReplyReplay s
  | .sensRegisterWrite h addr value => Sys2Proof.Machine.execSensRegisterWrite h addr value s
  | .sessTierWrite h addr value => Sys2Proof.Machine.execSessTierWrite h addr value s
  | .wdgHostCtrlWrite h value => Sys2Proof.Machine.execWdgHostCtrlWrite h value s
  | .thmConfigWrite h value => Sys2Proof.Machine.execThmConfigWrite h value s
  | .pwrRideTimerWrite h value => Sys2Proof.Machine.execPwrRideTimerWrite h value s
  | .sessTelemWrite h addr value => Sys2Proof.Machine.execSessTelemWrite h addr value s
  | .fuseBlowSelWrite h value => Sys2Proof.Machine.execFuseBlowSelWrite h value s
  | .fuseBlowWrite h value => Sys2Proof.Machine.execFuseBlowWrite h value s
  | .tbaseNowLoRead h => Sys2Proof.Machine.execTbaseNowLoRead h s
  | .causeStickyClear h value => Sys2Proof.Machine.execCauseStickyClear h value s
  | .haulHdrErrClear h value => Sys2Proof.Machine.execHaulHdrErrClear h value s
  | .haulCrcErrClear h value => Sys2Proof.Machine.execHaulCrcErrClear h value s
  | .pipeEccClear h value => Sys2Proof.Machine.execPipeEccClear h value s
  | .pstoEccClear h value => Sys2Proof.Machine.execPstoEccClear h value s
  | .cxpDiscardsClear h value => Sys2Proof.Machine.execCxpDiscardsClear h value s
  | .trigEarlyClear h value => Sys2Proof.Machine.execTrigEarlyClear h value s
  | .encErrCountClear h value => Sys2Proof.Machine.execEncErrCountClear h value s
  | .fwKeyWrite key tick pc => Sys2Proof.Machine.execFwKeyWrite key tick pc s
  | .benchRead addr => Sys2Proof.Machine.execBenchRead addr s
  | .benchWrite addr value => Sys2Proof.Machine.execBenchWrite addr value s
  | .jtagBypass => Sys2Proof.Machine.execJtagBypass s
  | .jtagIdcode => Sys2Proof.Machine.execJtagIdcode s
  | .jtagSamplePreload preload value => Sys2Proof.Machine.execJtagSamplePreload preload value s
  | .jtagExtest => Sys2Proof.Machine.execJtagExtest s
  | .jtagHighz => Sys2Proof.Machine.execJtagHighz s
  | .jtagClamp => Sys2Proof.Machine.execJtagClamp s
  | .vlink0Qualified mv => Sys2Proof.Machine.execVlink0Qualified mv s
  | .resetnAssert widthNs => Sys2Proof.Machine.execResetnAssert widthNs s
  | .resetnRelease => Sys2Proof.Machine.execResetnRelease s
  | .releaseStepComplete info => Sys2Proof.Machine.execReleaseStepComplete info s
  | .releaseGapExpiry => Sys2Proof.Machine.execReleaseGapExpiry s
  | .releaseStepLimitExpiry => Sys2Proof.Machine.execReleaseStepLimitExpiry s
  | .stepRetryBackoffExpiry => Sys2Proof.Machine.execStepRetryBackoffExpiry s
  | .failedStartWaitExpiry => Sys2Proof.Machine.execFailedStartWaitExpiry s
  | .bootOk => Sys2Proof.Machine.execBootOk s
  | .bootTimeout => Sys2Proof.Machine.execBootTimeout s
  | .coreOutageEnd => Sys2Proof.Machine.execCoreOutageEnd s
  | .powerdownStepComplete => Sys2Proof.Machine.execPowerdownStepComplete s
  | .powerdownStepLimitExpiry rail => Sys2Proof.Machine.execPowerdownStepLimitExpiry rail s
  | .railCollapse rail => Sys2Proof.Machine.execRailCollapse rail s
  | .railFaultRestart => Sys2Proof.Machine.execRailFaultRestart s
  | .vlinkDipBringup => Sys2Proof.Machine.execVlinkDipBringup s
  | .vlink1Rise mv => Sys2Proof.Machine.execVlink1Rise mv s
  | .linkSupplyLost link => Sys2Proof.Machine.execLinkSupplyLost link s
  | .rideThroughEntry vhold tick => Sys2Proof.Machine.execRideThroughEntry vhold tick s
  | .vlinkReturn mv0 mv1 vhold tick => Sys2Proof.Machine.execVlinkReturn mv0 mv1 vhold tick s
  | .rideRetryExpiry vhold tick => Sys2Proof.Machine.execRideRetryExpiry vhold tick s
  | .rideEnergyReserve vhold tick => Sys2Proof.Machine.execRideEnergyReserve vhold tick s
  | .vholdBelowVmin => Sys2Proof.Machine.execVholdBelowVmin s
  | .holdupMeasurementStart vhold dropUv => Sys2Proof.Machine.execHoldupMeasurementStart vhold dropUv s
  | .holdupMeasurementEnd deltaUv => Sys2Proof.Machine.execHoldupMeasurementEnd deltaUv s
  | .phaseFault phase kind => Sys2Proof.Machine.execPhaseFault phase kind s
  | .converterStepTimer currentMa => Sys2Proof.Machine.execConverterStepTimer currentMa s
  | .pllLockLoss widthNs => Sys2Proof.Machine.execPllLockLoss widthNs s
  | .clockMonitorWindow toggles => Sys2Proof.Machine.execClockMonitorWindow toggles s
  | .thermalTrip sensor => Sys2Proof.Machine.execThermalTrip sensor s
  | .thermalRestart t7 t8 => Sys2Proof.Machine.execThermalRestart t7 t8 s
  | .thermalSample temps tick => Sys2Proof.Machine.execThermalSample temps tick s
  | .thermalRaiseTimer tick => Sys2Proof.Machine.execThermalRaiseTimer tick s
  | .thermalLowerTimer tick => Sys2Proof.Machine.execThermalLowerTimer tick s
  | .fastSamplingEnd => Sys2Proof.Machine.execFastSamplingEnd s
  | .compensationUpdate tick bias cdie pdie => Sys2Proof.Machine.execCompensationUpdate tick bias cdie pdie s
  | .aonTrim trim => Sys2Proof.Machine.execAonTrim trim s
  | .wakeQualified aonTicks => Sys2Proof.Machine.execWakeQualified aonTicks s
  | .wakeDetectorRearm => Sys2Proof.Machine.execWakeDetectorRearm s
  | .vshrReady mv tick => Sys2Proof.Machine.execVshrReady mv tick s
  | .frameS0 tick fpaCode fpaValid => Sys2Proof.Machine.execFrameS0 tick fpaCode fpaValid s
  | .frameStartSlot => Sys2Proof.Machine.execFrameStartSlot s
  | .trigEdge pad rising tick => Sys2Proof.Machine.execTrigEdge pad rising tick s
  | .haulRowReceived r => Sys2Proof.Machine.execHaulRowReceived r s
  | .haulRegResp tag status data => Sys2Proof.Machine.execHaulRegResp tag status data s
  | .laneBlockLockLoss lane => Sys2Proof.Machine.execLaneBlockLockLoss lane s
  | .haulAlmRise => Sys2Proof.Machine.execHaulAlmRise s
  | .haulAlmFall => Sys2Proof.Machine.execHaulAlmFall s
  | .haulAlmTimeout => Sys2Proof.Machine.execHaulAlmTimeout s
  | .haulTrainingEnd lanes latencyNs => Sys2Proof.Machine.execHaulTrainingEnd lanes latencyNs s
  | .actEventReport ch kind tick => Sys2Proof.Machine.execActEventReport ch kind tick s
  | .sievePassStart corrected doubles => Sys2Proof.Machine.execSievePassStart corrected doubles s
  | .recordReload => Sys2Proof.Machine.execRecordReload s
  | .scrubUeEventTimer => Sys2Proof.Machine.execScrubUeEventTimer s
  | .adcCalEnd failed => Sys2Proof.Machine.execAdcCalEnd failed s
  | .seedingEnd lows highs => Sys2Proof.Machine.execSeedingEnd lows highs s
  | .calSettleExpiry tick => Sys2Proof.Machine.execCalSettleExpiry tick s
  | .captureComplete => Sys2Proof.Machine.execCaptureComplete s
  | .captureFramesTimeout => Sys2Proof.Machine.execCaptureFramesTimeout s
  | .offsetUpdateDone => Sys2Proof.Machine.execOffsetUpdateDone s
  | .gainUpdateDone => Sys2Proof.Machine.execGainUpdateDone s
  | .autoShutterCal tick => Sys2Proof.Machine.execAutoShutterCal tick s
  | .shutterInhibitExpiry => Sys2Proof.Machine.execShutterInhibitExpiry s
  | .calsetRecallDone lost => Sys2Proof.Machine.execCalsetRecallDone lost s
  | .calsetSaveBlockDone readBackOk => Sys2Proof.Machine.execCalsetSaveBlockDone readBackOk s
  | .calsetSaveEnergyTimeout => Sys2Proof.Machine.execCalsetSaveEnergyTimeout s
  | .deferredWaitExpiry session tag => Sys2Proof.Machine.execDeferredWaitExpiry session tag s
  | .actSlotGrant ch hsDelta tick => Sys2Proof.Machine.execActSlotGrant ch hsDelta tick s
  | .actPeakDelayExpiry ch => Sys2Proof.Machine.execActPeakDelayExpiry ch s
  | .actPeakReached ch currentMa tick => Sys2Proof.Machine.execActPeakReached ch currentMa tick s
  | .actMaxTimeToPeak ch currentMa tick => Sys2Proof.Machine.execActMaxTimeToPeak ch currentMa tick s
  | .actHoldEntered ch tick => Sys2Proof.Machine.execActHoldEntered ch tick s
  | .actDecayTimeout ch tick => Sys2Proof.Machine.execActDecayTimeout ch tick s
  | .actHoldBandCrossing ch upper tick => Sys2Proof.Machine.execActHoldBandCrossing ch upper tick s
  | .actSwitchOffTime ch tick => Sys2Proof.Machine.execActSwitchOffTime ch tick s
  | .actTurnOffEnd ch tick => Sys2Proof.Machine.execActTurnOffEnd ch tick s
  | .actMotionDip ch dipAt tick => Sys2Proof.Machine.execActMotionDip ch dipAt tick s
  | .actDutyLimitReached ch duty tick => Sys2Proof.Machine.execActDutyLimitReached ch duty tick s
  | .actSenseFail ch tick => Sys2Proof.Machine.execActSenseFail ch tick s
  | .actShort ch tick => Sys2Proof.Machine.execActShort ch tick s
  | .actHsSenseFail bank tick => Sys2Proof.Machine.execActHsSenseFail bank tick s
  | .actBankOvercurrent bank tick => Sys2Proof.Machine.execActBankOvercurrent bank tick s
  | .actSupplyLow bank mv tick => Sys2Proof.Machine.execActSupplyLow bank mv tick s
  | .scheduledFireInstant handle tick => Sys2Proof.Machine.execScheduledFireInstant handle tick s
  | .chiselWaitEnd seq tick => Sys2Proof.Machine.execChiselWaitEnd seq tick s
  | .chiselWaitfEnd seq tick => Sys2Proof.Machine.execChiselWaitfEnd seq tick s
  | .chiselWaitaEnd seq tick => Sys2Proof.Machine.execChiselWaitaEnd seq tick s
  | .chiselWaitiEnd seq tick => Sys2Proof.Machine.execChiselWaitiEnd seq tick s
  | .chiselWaitiTimeout seq tick => Sys2Proof.Machine.execChiselWaitiTimeout seq tick s
  | .chiselInstructionLimit seq tick => Sys2Proof.Machine.execChiselInstructionLimit seq tick s
  | .shutterProgramTimeout tick => Sys2Proof.Machine.execShutterProgramTimeout tick s
  | .shutterVshrTimeout => Sys2Proof.Machine.execShutterVshrTimeout s
  | .encLegalTransition lineA tick => Sys2Proof.Machine.execEncLegalTransition lineA tick s
  | .encIllegalTransition tick => Sys2Proof.Machine.execEncIllegalTransition tick s
  | .encLost => Sys2Proof.Machine.execEncLost s
  | .encIndex tick => Sys2Proof.Machine.execEncIndex tick s
  | .gangCycle tick => Sys2Proof.Machine.execGangCycle tick s
  | .gangSyncReceived stampNs leaderTb => Sys2Proof.Machine.execGangSyncReceived stampNs leaderTb s
  | .gangMessage m => Sys2Proof.Machine.execGangMessage m s
  | .gangJoinRequest r => Sys2Proof.Machine.execGangJoinRequest r s
  | .gangJoinListenEnd => Sys2Proof.Machine.execGangJoinListenEnd s
  | .gangJoinerAligned => Sys2Proof.Machine.execGangJoinerAligned s
  | .gangStartPulse tick => Sys2Proof.Machine.execGangStartPulse tick s
  | .gangAckMissing id => Sys2Proof.Machine.execGangAckMissing id s
  | .gangSyncMissing => Sys2Proof.Machine.execGangSyncMissing s
  | .gangSlewPeriod => Sys2Proof.Machine.execGangSlewPeriod s
  | .wdgKeyALapse host => Sys2Proof.Machine.execWdgKeyALapse host s
  | .wdgWarn host => Sys2Proof.Machine.execWdgWarn host s
  | .wdgExpiry host pc => Sys2Proof.Machine.execWdgExpiry host pc s
  | .wdgCountResetTimer => Sys2Proof.Machine.execWdgCountResetTimer s
  | .pstoStartupScan => Sys2Proof.Machine.execPstoStartupScan s
  | .pendingEraseResolve marginOk => Sys2Proof.Machine.execPendingEraseResolve marginOk s
  | .journalCompaction => Sys2Proof.Machine.execJournalCompaction s
  | .backgroundStoreRetry vhold => Sys2Proof.Machine.execBackgroundStoreRetry vhold s
  | .pstoEraseResume => Sys2Proof.Machine.execPstoEraseResume s
  | .pstoSectorEraseDone => Sys2Proof.Machine.execPstoSectorEraseDone s
  | .ringSectorErase ring => Sys2Proof.Machine.execRingSectorErase ring s
  | .counterRingWrite => Sys2Proof.Machine.execCounterRingWrite s
  | .crcWalk bad => Sys2Proof.Machine.execCrcWalk bad s
  | .crcWalkAbandon => Sys2Proof.Machine.execCrcWalkAbandon s
  | .logWrite => Sys2Proof.Machine.execLogWrite s
  | .telemetryPeriod session => Sys2Proof.Machine.execTelemetryPeriod session s
  | .fwWriteBlockDone readBackOk => Sys2Proof.Machine.execFwWriteBlockDone readBackOk s
  | .fwVerifyDone => Sys2Proof.Machine.execFwVerifyDone s
  | .converterOverload currentMa => Sys2Proof.Machine.execConverterOverload currentMa s
  | .gangAckReceived id roundTripNs => Sys2Proof.Machine.execGangAckReceived id roundTripNs s
  | .gangFreeRunStart tick => Sys2Proof.Machine.execGangFreeRunStart tick s
  | .inFlightEnd session tag => Sys2Proof.Machine.execInFlightEnd session tag s
  | .aonPowerLoss => Sys2Proof.Machine.execAonPowerLoss s
  | .wdgFwCtrlWrite period tick pc => Sys2Proof.Machine.execWdgFwCtrlWrite period tick pc s

end Sys2Proof.Machine
end

