-- ==== Sys2Proof/Safety.lean ====
section
/-!
DEFINITION. What counts as a safe run: the module stays inside the ratings, its parameter store keeps its canonical form, and
no fuse that is blown reads unblown; and when a served command passes every check, the state in which it then acts.
-/

namespace Sys2Proof.Safety

open Sys2Proof Sys2Proof.Machine

/-- The module's functions are inside the ratings (R3, R946). -/
def inRatings (s : State) : Prop := s.jtag.tainted = false

/-- The user area is held in canonical form. -/
def storeCanonical (s : State) : Prop := Memory.wf s.psto.mem = true

/-- Every fuse bit blown in `a` is blown in `b` (R949). -/
def keepsFuses (a b : Fuse) : Prop :=
  ∀ w i, ((a.words.getD w 0).getLsbD i = true → (b.words.getD w 0).getLsbD i = true)

/-- With a CPR, the position stays below it (R655). -/
def inTurn (e : Enc) : Prop := e.cfg.cpr ≠ 0 → e.position < e.cfg.cpr

/-- A step neither stops nor leaves the ratings. -/
def safeStep (s : State) : Prop := ∃ t, step s = .next t ∧ inRatings t

/-- The state in which a command that is taken acts: time has reached its instant, its packet is counted, and no queue entry of
it is left (R504, R509, R554). -/
def acting (h : Hdr) (op : Nat) (s : State) : State := (s.atTick h.tick).taken h op

/-- A served command comes to its effect: the module is inside its ratings, the command is taken with a TAG that is not in
flight, and no check of R543 from 5 on turns it away. -/
def runs (h : Hdr) (op : Nat) (gate : State → Gate) (s : State) : Bool :=
  !s.jtag.tainted && decide (intake h op (s.atTick h.tick) = .take false)
    && (verdict h op false (gate (acting h op s)) (acting h op s)).isNone

/-- The same for a command that the mailbox hardware answers at once (R771). -/
def runsNow (h : Hdr) (op : Nat) (gate : State → Gate) (s : State) : Bool :=
  !s.jtag.tainted && decide (intakeNow h op (s.atTick h.tick) = .take false)
    && (verdict h op false (gate (acting h op s)) (acting h op s)).isNone

/-- The core serves and the module is inside its ratings: an event of the core has its effect (R938). -/
def coreActs (s : State) : Bool := !s.jtag.tainted && s.coreServes

/-- A command comes in at its turn; HOST_KEEPALIVE, which the mailbox hardware answers at once, in its own way (R543, R771). -/
def cameIn (h : Hdr) (op : Nat) (s : State) : Intake :=
  if op = 0x0E then intakeNow h op (s.atTick h.tick) else intake h op (s.atTick h.tick)

/-- Header and opcode of the commands that a session sends (R592); the other rows are events and accesses without a header. -/
def served : Instr → Option (Hdr × Nat)
  | .ping h _ => some (h, 0x00)
  | .sessionOpen h _ => some (h, 0x01)
  | .sessionClose h _ => some (h, 0x02)
  | .sessionPolicy h _ _ => some (h, 0x03)
  | .claim h _ => some (h, 0x04)
  | .release h _ _ => some (h, 0x05)
  | .statusGet h => some (h, 0x06)
  | .eventSubscribe h _ => some (h, 0x07)
  | .replyFetch h => some (h, 0x08)
  | .cancel h _ _ => some (h, 0x09)
  | .modeSet h _ => some (h, 0x0A)
  | .sysReset h _ => some (h, 0x0B)
  | .unitReset h _ _ => some (h, 0x0C)
  | .timeGet h => some (h, 0x0D)
  | .hostKeepalive h _ => some (h, 0x0E)
  | .wdgConfig h _ _ => some (h, 0x0F)
  | .streamOpen h _ => some (h, 0x10)
  | .streamClose h _ => some (h, 0x11)
  | .streamStart h _ _ => some (h, 0x12)
  | .streamHalt h _ => some (h, 0x13)
  | .streamModify h _ => some (h, 0x14)
  | .readoutConfig h _ => some (h, 0x15)
  | .readoutArm h _ _ => some (h, 0x16)
  | .frameSnap h _ _ => some (h, 0x17)
  | .pipeConfig h _ _ _ => some (h, 0x18)
  | .radiometrySet h _ _ => some (h, 0x19)
  | .qualityConfig h _ => some (h, 0x1A)
  | .adcCal h => some (h, 0x20)
  | .shutterCal h _ _ _ _ => some (h, 0x21)
  | .gainCal h _ _ _ _ => some (h, 0x22)
  | .driftConfig h _ _ => some (h, 0x23)
  | .shutterInhibit h _ => some (h, 0x24)
  | .defectEdit h _ _ => some (h, 0x25)
  | .calsetSelect h _ _ => some (h, 0x26)
  | .calsetSave h _ => some (h, 0x27)
  | .coeffRead h _ _ => some (h, 0x28)
  | .coeffWrite h _ _ _ => some (h, 0x29)
  | .actConfig h _ _ => some (h, 0x30)
  | .actProgramLoad h _ _ _ => some (h, 0x31)
  | .actFire h _ _ _ _ => some (h, 0x32)
  | .actSchedule h _ => some (h, 0x33)
  | .actAbort h _ _ _ => some (h, 0x34)
  | .actDiagGet h _ => some (h, 0x35)
  | .shutterMove h _ _ => some (h, 0x36)
  | .pstoRead h _ _ => some (h, 0x40)
  | .pstoWrite h _ _ => some (h, 0x41)
  | .pstoErase h _ _ => some (h, 0x42)
  | .pstoProtect h _ => some (h, 0x43)
  | .counterGet h => some (h, 0x44)
  | .logRead h _ _ => some (h, 0x45)
  | .logClear h => some (h, 0x46)
  | .trigConfig h _ => some (h, 0x50)
  | .encConfig h _ => some (h, 0x51)
  | .angleTableLoad h _ _ => some (h, 0x52)
  | .gangConfig h _ _ => some (h, 0x53)
  | .gangJoin h => some (h, 0x54)
  | .gangLeave h => some (h, 0x55)
  | .gangStatus h => some (h, 0x56)
  | .thermalGet h => some (h, 0x60)
  | .thermalConfig h _ => some (h, 0x61)
  | .powerGet h => some (h, 0x62)
  | .rideConfig h _ => some (h, 0x63)
  | .fwInfo h => some (h, 0x70)
  | .fwWrite h _ _ _ => some (h, 0x71)
  | .fwVerify h _ => some (h, 0x72)
  | .fwActivate h _ _ => some (h, 0x73)
  | .regRead h _ _ => some (h, 0x74)
  | .regWrite h _ _ => some (h, 0x75)
  | .ledgeExit h => some (h, 0x76)
  | .fuseRead h _ _ => some (h, 0x77)
  | .sensRegisterWrite h _ _ => some (h, 0x75)
  | .sessTierWrite h _ _ => some (h, 0x75)
  | .wdgHostCtrlWrite h _ => some (h, 0x75)
  | .thmConfigWrite h _ => some (h, 0x75)
  | .pwrRideTimerWrite h _ => some (h, 0x75)
  | .sessTelemWrite h _ _ => some (h, 0x75)
  | .fuseBlowSelWrite h _ => some (h, 0x75)
  | .fuseBlowWrite h _ => some (h, 0x75)
  | .tbaseNowLoRead h => some (h, 0x74)
  | .causeStickyClear h _ => some (h, 0x75)
  | .haulHdrErrClear h _ => some (h, 0x75)
  | .haulCrcErrClear h _ => some (h, 0x75)
  | .pipeEccClear h _ => some (h, 0x75)
  | .pstoEccClear h _ => some (h, 0x75)
  | .cxpDiscardsClear h _ => some (h, 0x75)
  | .trigEarlyClear h _ => some (h, 0x75)
  | .encErrCountClear h _ => some (h, 0x75)
  | _ => none

/-- The tier that R561 asks of an opcode: Steward 0, Guard 1, Operator 2, Observer 3. -/
def tierOf (op : Nat) : Nat :=
  if [0x03, 0x0A, 0x0B, 0x0F, 0x71, 0x72, 0x73, 0x74, 0x75, 0x76, 0x77].contains op then 0
  else if [0x0C, 0x43, 0x46, 0x61, 0x63].contains op then 1
  else if [0x04, 0x05, 0x15, 0x16, 0x18, 0x19, 0x20, 0x22, 0x23, 0x24, 0x25, 0x26, 0x27, 0x29, 0x30, 0x31, 0x32, 0x33, 0x34, 0x36,
      0x41, 0x42, 0x50, 0x51, 0x52, 0x53, 0x54, 0x55].contains op then 2
  else 3

/-- The tier a command needs: a Steward's when it names another session (R561). -/
def requiredTier (h : Hdr) (op : Nat) (c : Instr) : Nat :=
  match c with
  | .sessionClose _ target => if target = h.session then 3 else 0
  | .cancel _ target _ => if target = h.session then 3 else 0
  | .release _ _ holder => if holder = h.session then 2 else 0
  | _ => tierOf op

/-- The checks 5, 6 and 9 to 11 of R543 let a command through: only the module's state can still turn it away. -/
def reachesState (h : Hdr) (op : Nat) (g : Gate) (a : State) : Bool :=
  h.cls ≠ 3 && !(h.urgent && !urgentPath op) && ((a.sess.get h.session).opened || op = 0x00 || op = 0x01)
    && (firstBad h.res g.params).isNone && decide ((a.sess.get h.session).tier ≤ g.tier) && g.owner.isNone

/-- `a` with what every command's traffic may change taken from `b`. -/
def beside (a b : State) : State :=
  { a with pending := b.pending, freeCtr := b.freeCtr, tb := b.tb, cxp := b.cxp, sess := b.sess, wdg := b.wdg }

/-- Everything but the sessions, the links, time, the watchdogs and the count of free values is the same. -/
def sameUnits (a b : State) : Prop := beside a b = b

/-- The commands that store to the user area or erase a sector of it (R621, R868, R869, R875). -/
def storesUserArea : Instr → Bool
  | .pstoWrite .. => true
  | .pstoSectorEraseDone => true
  | .pendingEraseResolve .. => true
  | .backgroundStoreRetry .. => true
  | _ => false

/-- A write of FUSE.BLOW, by any row that can write it or by the end of such an access over the link (R950). -/
def writesBlow (s : State) : Instr → Bool
  | .regWrite _ addr _ => addr = 0x4000F104
  | .sensRegisterWrite _ addr _ => addr = 0x4000F104
  | .sessTierWrite _ addr _ => addr = 0x4000F104
  | .sessTelemWrite _ addr _ => addr = 0x4000F104
  | .fuseBlowWrite .. => true
  | .benchWrite addr _ => addr = 0x4000F104
  | .haulRegResp .. => s.haul.pendingRegs.any (fun r => r.write.isSome && r.addr = 0x4000F104)
  | _ => false

/-- Of the links, the sessions, time and the watchdogs only this is left to differ: the present tick, what was sent, the commands
in flight and the last doorbell's result of each session, the watchdog that a first packet resumes (R212, R503, R783). -/
def plainTraffic (a b : State) : Prop :=
  a.sess.claims = b.sess.claims ∧ (∀ i, { a.sess.get i with last := (b.sess.get i).last } = b.sess.get i) ∧
    { a.cxp with tx := b.cxp.tx } = b.cxp ∧ { a.tb with now := b.tb.now } = b.tb ∧ { a.wdg with host := b.wdg.host } = b.wdg

/-- The fields of a journal entry have their widths (R861, R862). -/
def entryFits : JEntry → Prop
  | .header g n => g < 2 ^ 32 ∧ n < 2 ^ 32
  | .eraseStart k n => k < 2 ^ 8 ∧ n < 2 ^ 32
  | .eraseDone k n => k < 2 ^ 8 ∧ n < 2 ^ 32
  | .writeStart o l n => o < 2 ^ 32 ∧ l < 2 ^ 16 ∧ n < 2 ^ 32
  | .writeCommit o l n => o < 2 ^ 32 ∧ l < 2 ^ 16 ∧ n < 2 ^ 32
  | .void o l n => o < 2 ^ 32 ∧ l < 2 ^ 16 ∧ n < 2 ^ 32
  | .protect c n => c < 2 ^ 32 ∧ n < 2 ^ 32
  | .run n => n < 2 ^ 32
  | .cleanOff n => n < 2 ^ 32

end Sys2Proof.Safety
end

