-- ==== Sys2Proof/Certificates/Slice0/Obligations.lean ====
section
/-!
DEFINITION. The statements for the provers. "Runs" says that a served command is taken and passes every check; the state it then
acts in is `acting` (Safety.lean).
-/

open Sys2Proof Sys2Proof.Machine Sys2Proof.Safety

/-- PING, STATUS_GET, TIME_GET, EVENT_SUBSCRIBE complete with their results (R597, R543, R547, R279, R280, R541,
R157). -/
def Obligations.SystemQueriesComplete : Prop :=
  (∀ h bytes s, runs h 0x00 (fun _ => Gate.plain 3) s = true →
    exec (.ping h bytes) s = .next ((acting h 0x00 s).answer h 0x00 stOk bytes)) ∧
  (∀ h s, runs h 0x06 (fun _ => Gate.plain 3) s = true →
    exec (.statusGet h) s = .next ((acting h 0x06 s).answer h 0x06 stOk
      (((acting h 0x06 s).seen h 0x06).statusResult h.session))) ∧
  (∀ h s, runs h 0x0D (fun _ => Gate.plain 3) s = true →
    exec (.timeGet h) s = .next ((acting h 0x0D s).answer h 0x0D stOk ((acting h 0x0D s).timeResult h.tick))) ∧
  (∀ h mask s, runs h 0x07 (subscribeGate mask) s = true →
    exec (.eventSubscribe h mask) s = .next
      ((((acting h 0x07 s).onSess (Sess.modify h.session (fun y => { y with mask := mask }))).answer h 0x07 stOk
        (le 4 ((acting h 0x07 s).sess.get h.session).mask)).flushHeld))

/-- SESSION_OPEN, SESSION_CLOSE, SESSION_POLICY, CLAIM and RELEASE complete (R558, R559, R561, R562, R564, R565, R566,
R597, R598). -/
def Obligations.SessionCommandsComplete : Prop :=
  (∀ h clientId s, runs h 0x01 (sessionOpenGate h) s = true →
    ((acting h 0x01 s).sess.get h.session).enabled = true →
    exec (.sessionOpen h clientId) s = .next
      (((acting h 0x01 s).onSess (Sess.modify h.session (Session.openFor clientId))).answer h 0x01 stOk
        (le 1 ((acting h 0x01 s).sess.get h.session).tier ++ [8#8, 2#8, 0#8]))) ∧
  (∀ h s, runs h 0x02 (sessionCloseGate h h.session) s = true →
    exec (.sessionClose h h.session) s = .next
      (((acting h 0x02 s).answer { h with push := true } 0x02 stOk []).closeSession h.session)) ∧
  (∀ h target s, target ≠ h.session → runs h 0x02 (sessionCloseGate h target) s = true →
    exec (.sessionClose h target) s = .next
      ((if ((acting h 0x02 s).sess.get target).opened then (acting h 0x02 s).closeSession target else acting h 0x02 s).answer
        h 0x02 stOk [])) ∧
  (∀ h tiers enable s, runs h 0x03 (policyGate tiers enable) s = true →
    exec (.sessionPolicy h tiers enable) s = .next (((acting h 0x03 s).answer h 0x03 stOk []).setPolicy tiers enable)) ∧
  (∀ h code s, runs h 0x04 (claimGate h code) s = true →
    exec (.claim h code) s = .next (((acting h 0x04 s).onSess (Sess.claim h.session code)).answer h 0x04 stOk [])) ∧
  (∀ h code holder s, runs h 0x05 (releaseGate h code holder) s = true →
    exec (.release h code holder) s = .next
      (((acting h 0x05 s).onSess (fun x => { x with claims := x.claims.filter (· ≠ (code, holder)) })).answer h 0x05 stOk
        (le 1 (bit (!(acting h 0x05 s).sess.claims.contains (code, holder))) ++ [0#8, 0#8, 0#8])))

/-- REPLY_FETCH completes, with a reply held for poll and with none (R549, R596, R599). -/
def Obligations.ReplyFetchCompletes : Prop :=
  (∀ h s, runs h 0x08 (fun _ => Gate.plain 3) s = true → (acting h 0x08 s).sess.heldReplies h.session = [] →
    exec (.replyFetch h) s = .next ((acting h 0x08 s).answer h 0x08 stOk [0#8, 0#8, 0#8, 0#8])) ∧
  (∀ h s f rest, runs h 0x08 (fun _ => Gate.plain 3) s = true → (acting h 0x08 s).sess.heldReplies h.session = f :: rest →
    exec (.replyFetch h) s = .next
      (({ acting h 0x08 s with
          sess := (acting h 0x08 s).sess.releaseHeld f
          cxp := (acting h 0x08 s).cxp.send (f.reply.map (fun r => TxItem.reply { r with push := true })).toList } : State).answer
        h 0x08 stOk (le 1 rest.length ++ [0#8, 0#8, 0#8])))

/-- MODE_SET, SYS_RESET and UNIT_RESET complete (R37, R38, R135, R181, R586, R597, R600, R166, R169). -/
def Obligations.ModeAndResetCommandsComplete : Prop :=
  (∀ h mode s, runs h 0x0A (modeSetGate mode) s = true →
    exec (.modeSet h mode) s = .next
      (((((((acting h 0x0A s).abortDeferred).answer h 0x0A stOk []).actCut stFailAborted (acting h 0x0A s).tb.now).onPwr
        (fun p => { p with standbyBy := some h })).onRstc
        (fun r => { r with order := .none, inGap := false })).walkFrom (if mode = 3 then .keepWarm else .keep)
          (if mode = 3 then 3 else 2))) ∧
  (∀ h s, runs h 0x0B (sysResetGate 1) s = true →
    exec (.sysReset h 1) s = .next (((acting h 0x0B s).answer h 0x0B stOk []).coreReset 0xA)) ∧
  (∀ h s, runs h 0x0B (sysResetGate 2) s = true →
    exec (.sysReset h 2) s = .next (((acting h 0x0B s).answer h 0x0B stOk []).systemReset 0xB false)) ∧
  (∀ h s, runs h 0x0B (sysResetGate 3) s = true →
    exec (.sysReset h 3) s = .next (((acting h 0x0B s).answer h 0x0B stOk []).powerOnReset 0xC)) ∧
  (∀ h unit mode s, runs h 0x0C (unitGate unit mode) s = true → 0x20 ≤ unit → unit < 0x24 →
    exec (.unitReset h unit mode) s = .next
      (((((acting h 0x0C s).answer h 0x0C stOk []).linkDown (if mode = 1 then stFailFenced else stFailAborted) (unit - 0x20)).unitEvent unit mode).reevaluate)) ∧
  (∀ h unit s, runs h 0x0C (unitGate unit 1) s = true → unit ∈ [0, 3, 4, 5, 0x30, 0x31] ∨ (0x10 ≤ unit ∧ unit < 0x20) →
    exec (.unitReset h unit 1) s = .next
      ((((((acting h 0x0C s).fence unit).unitClear unit).answer h 0x0C stOk []).unitEvent unit 1).reevaluate)) ∧
  (∀ h unit s, runs h 0x0C (unitGate unit 0) s = true → unit ∈ [0, 3, 4, 5, 0x30, 0x31] ∨ (0x10 ≤ unit ∧ unit < 0x20) →
    exec (.unitReset h unit 0) s = .next
      (((((acting h 0x0C s).unitClear unit).answer h 0x0C stOk []).unitEvent unit 0).reevaluate)) ∧
  (∀ h unit s, runs h 0x0C (unitGate unit 0) s = true → unit = 1 ∨ unit = 2 →
    exec (.unitReset h unit 0) s = .next
      (((((if (acting h 0x0C s).regsFirst unit then acting h 0x0C s else (acting h 0x0C s).unitClear unit).onRstc
        (fun r => { r with unitBusy := some (unit, 0) })).park h 0x0C (.unit unit)).reevaluate)))

/-- HOST_KEEPALIVE, WDG_CONFIG, FW_KEY_WRITE and WDG_FW_CTRL_WRITE complete (R597, R601, R602, R770, R772, R773, R775,
R778, R779, R781, R786, R788). -/
def Obligations.WatchdogCommandsComplete : Prop :=
  (∀ h s, runsNow h 0x0E (keepaliveGate keyA) s = true → (acting h 0x0E s).hostRuns = true →
    exec (.hostKeepalive h keyA) s = .next
      (((acting h 0x0E s).onDog true (Dog.takeA h.session h.tick)).answer h 0x0E stOk
        (keepaliveResult 0 ((acting h 0x0E s).wdg.host.usToEdge (acting h 0x0E s).fuse.windowK h.tick)))) ∧
  (∀ h s, runsNow h 0x0E (keepaliveGate keyB) s = true → (acting h 0x0E s).hostRuns = true →
    (acting h 0x0E s).wdg.host.paired h.session h.tick = true →
    h.tick < (acting h 0x0E s).wdg.host.start + (acting h 0x0E s).wdg.host.t →
    (acting h 0x0E s).wdg.host.windowOpen (acting h 0x0E s).fuse.windowK h.tick = true →
    exec (.hostKeepalive h keyB) s = .next
      (((acting h 0x0E s).onDog true (Dog.counted h.tick)).answer h 0x0E stOk
        (keepaliveResult 1 (((acting h 0x0E s).wdg.host.counted h.tick).usToEdge (acting h 0x0E s).fuse.windowK h.tick)))) ∧
  (∀ h s, runsNow h 0x0E (keepaliveGate keyA) s = true → (acting h 0x0E s).hostRuns = false →
    exec (.hostKeepalive h keyA) s = .next
      (((acting h 0x0E s).onDog true (Dog.takeA h.session h.tick)).answer h 0x0E stOk (keepaliveResult 0 0))) ∧
  (∀ h s, runsNow h 0x0E (keepaliveGate keyB) s = true → (acting h 0x0E s).hostRuns = false →
    exec (.hostKeepalive h keyB) s = .next
      (((acting h 0x0E s).onDog true Dog.clearKey).answer h 0x0E stOk
        (keepaliveResult (if (acting h 0x0E s).wdg.host.paired h.session h.tick then 1 else 2) 0))) ∧
  (∀ h period enable s, runs h 0x0F (wdgGate 0 period enable) s = true →
    exec (.wdgConfig h period enable) s = .next
      (((acting h 0x0F s).wdgApply period enable).answer h 0x0F stOk
        (le 4 (acting h 0x0F s).wdg.host.nextPeriod ++ le 1 (bit (acting h 0x0F s).wdg.host.enabled) ++ [0#8, 0#8, 0#8]))) ∧
  (∀ tick pc s, inRatings s → (s.atTick tick).fwRuns = true →
    exec (.fwKeyWrite keyA tick pc) s = .next ((s.atTick tick).onDog false (Dog.takeA 0 tick))) ∧
  (∀ tick pc s, inRatings s → (s.atTick tick).fwRuns = true → s.wdg.fw.paired 0 tick = true →
    tick < s.wdg.fw.start + s.wdg.fw.t → s.wdg.fw.windowOpen s.fuse.windowK tick = true →
    exec (.fwKeyWrite keyB tick pc) s = .next ((s.atTick tick).onDog false (Dog.counted tick))) ∧
  (∀ period tick pc s, inRatings s → (s.atTick tick).fwRuns = true → s.wdg.fw.windowOpen s.fuse.windowK tick = true →
    exec (.wdgFwCtrlWrite period tick pc) s = .next ((s.atTick tick).onDog false (fun d => { d with nextPeriod := period })))

/-- The watchdog timers complete (R774, R782, R785, R794, R790, R801). -/
def Obligations.WatchdogEventsComplete : Prop :=
  (∀ host s, inRatings s → exec (.wdgKeyALapse host) s = .next (s.onDog host Dog.clearKey)) ∧
  (∀ host s, inRatings s → s.dogRuns host = true → (s.wdg.dog host).warned = false →
    exec (.wdgWarn host) s = .next
      ((((s.atTick ((s.wdg.dog host).start + (s.wdg.dog host).t - (s.wdg.dog host).t / 8)).onDog host
        (fun d => { d with warned := true })).raise 0x13
          ([BitVec.ofNat 8 (bit host), 0#8, 0#8, 0#8] ++ le 4 (roundDiv ((s.wdg.dog host).t / 8) 100))))) ∧
  (∀ host pc s, inRatings s → s.dogRuns host = true →
    exec (.wdgExpiry host pc) s = .next
      ((s.atTick ((s.wdg.dog host).start + (s.wdg.dog host).t)).violate host kindExpired pc
        ((s.wdg.dog host).start + (s.wdg.dog host).t))) ∧
  (∀ s, inRatings s → s.rstc.bootOk = true → s.coreServes = true →
    exec .wdgCountResetTimer s = .next ((s.onWdg (fun w => { w with count := 0 })).storeRing0))

/-- STREAM_OPEN, STREAM_CLOSE, STREAM_START, STREAM_HALT, STREAM_MODIFY, QUALITY_CONFIG complete (R552, R553, R569,
R571, R574, R603, R605, R606, R607, R609). -/
def Obligations.StreamCommandsComplete : Prop :=
  (∀ h p s a x i t, acting h 0x10 s = a → runs h 0x10 (openGate p) s = true →
    openedStream h (a.sess.effClass h) (a.lastAdmit + 1) p = x →
    admitStream a.cxp (a.counted a.streams a.rd.count a.rd.cfgPeriod ++ a.counted [x] a.rd.count a.rd.cfgPeriod)
      (a.counted a.streams a.rd.count a.rd.cfgPeriod).length (a.sess.effClass h) = .ok t →
    a.countShort h.session = none →
    (if p.stream = 0xFF then ((List.range 16).find? (fun n => !(a.stream n).opened)).getD 0 else p.stream) = i →
    exec (.streamOpen h p) s = .next
      ((if i = 0 then State.mirrorOpen else id)
        ((a.setStreams t).onStream i (fun _ => x))
        |>.answer h 0x10 stOk
          (demandResult i { stream := x, rows := a.rd.count, period := a.countedPeriod (a.sess.effClass h) a.rd.cfgPeriod }))) ∧
  (∀ h stream s a, acting h 0x11 s = a → runs h 0x11 (streamGate h 0 stream) s = true → (a.stream stream).inFrame = false →
    exec (.streamClose h stream) s = .next (((a.haltAtEnd stream true).settle).reevaluate.answer h 0x11 stOk [])) ∧
  (∀ h stream s a, acting h 0x11 s = a → runs h 0x11 (streamGate h 0 stream) s = true → (a.stream stream).inFrame = true →
    exec (.streamClose h stream) s = .next (((a.haltAtEnd stream true).settle).park h 0x11 (.frameEnd stream))) ∧
  (∀ h wait stream s a t, acting h 0x12 s = a → runs h 0x12 (startGate h wait stream) s = true →
    admitStream a.cxp (a.counted a.streams a.rd.count a.rd.cfgPeriod) stream (a.stream stream).cls = .ok t →
    a.startShort = none →
    ∃ u, u = (a.setStreams t).startStream stream ∧
      exec (.streamStart h wait stream) s = .next
        (u.answer h 0x12 stOk (le 4 (firstMultiple (u.stream stream).decim u.nextFrame)))) ∧
  (∀ h stream s a, acting h 0x13 s = a → runs h 0x13 (haltGate h stream) s = true → h.urgent = true →
    exec (.streamHalt h stream) s = .next
      (((((a.haltTargets h stream).foldl (fun t n => t.truncate stFailAborted n) a).settle).convFrameEnd).answer h 0x13 stOk [])) ∧
  (∀ h stream s a, acting h 0x13 s = a → runs h 0x13 (haltGate h stream) s = true → h.urgent = false →
    (a.haltTargets h stream).filter (fun n => (a.stream n).inFrame) = [] →
    exec (.streamHalt h stream) s = .next
      ((((a.haltTargets h stream).foldl (fun t n => t.haltAtEnd n false) a).settle).answer h 0x13 stOk [])) ∧
  (∀ h stream s a n, acting h 0x13 s = a → runs h 0x13 (haltGate h stream) s = true → h.urgent = false →
    ((a.haltTargets h stream).filter (fun n => (a.stream n).inFrame)).getLast? = some n →
    exec (.streamHalt h stream) s = .next
      ((((a.haltTargets h stream).foldl (fun t n => t.haltAtEnd n false) a).settle).park h 0x13 (.frameEnd n))) ∧
  (∀ h p s a t, acting h 0x14 s = a → runs h 0x14 (modifyGate h p) s = true →
    admitStream a.cxp (a.counted (a.streams.modify p.stream (Stream.modified p)) a.rd.count a.rd.cfgPeriod) p.stream
      (a.stream p.stream).cls = .ok t →
    ∃ u, u = a.setStreams t ∧
      exec (.streamModify h p) s = .next
        ((u.answer h 0x14 stOk (demandResult p.stream
          { stream := u.stream p.stream, rows := a.rd.count, period := a.countedPeriod (u.stream p.stream).cls a.rd.cfgPeriod })).reevaluate)) ∧
  (∀ h qmask s a, acting h 0x1A s = a → runs h 0x1A (qualityGate qmask) s = true →
    exec (.qualityConfig h qmask) s = .next
      (({ a with
          streams := a.streams.map (fun x : Stream => if x.qual4Of h.session then { x with qmask := qmask } else x)
          freeCtr := a.freeCtr + 1 } : State).answer h 0x1A stOk
        ([BitVec.ofNat 8 (a.previousQmask h.session)] ++ [0#8, 0#8, 0#8])))

/-- READOUT_CONFIG, READOUT_ARM, FRAME_SNAP, PIPE_CONFIG and RADIOMETRY_SET complete (R289, R304, R374, R396, R409,
R413, R572, R603, R606, R608, R610). -/
def Obligations.ReadoutCommandsComplete : Prop :=
  (∀ h p s a l, acting h 0x15 s = a → runs h 0x15 (configGate h p) s = true →
    a.admitConfig (configTarget p a.rd.cfg) = .ok l →
    exec (.readoutConfig h p) s = .next
      ((a.configure (configTarget p a.rd.cfg) l).answer h 0x15 stOk (le 4 (configTarget p a.rd.cfg).minPeriod))) ∧
  (∀ h wait s a, acting h 0x16 s = a → runs h 0x16 (armGate h wait 0) s = true →
    exec (.readoutArm h wait 0) s = .next (a.haltAllAtEnd.answer h 0x16 stOk [])) ∧
  (∀ h wait s a, acting h 0x16 s = a → runs h 0x16 (armGate h wait 1) s = true → a.startShort = none →
    a.rd.isArmed = false →
    exec (.readoutArm h wait 1) s = .next (((a.rdArm .readoutArm).enter .run).answer h 0x16 stOk [])) ∧
  (∀ h wait s a, acting h 0x16 s = a → runs h 0x16 (armGate h wait 1) s = true → a.startShort = none →
    a.rd.isArmed = true →
    exec (.readoutArm h wait 1) s = .next
      (((a.onRd (fun r => { r with armedBy := .readoutArm, disarmDue := false })).enter .run).answer h 0x16 stOk [])) ∧
  (∀ h stream count s a, acting h 0x17 s = a → runs h 0x17 (snapGate h stream count) s = true → a.convShort 2 = none →
    exec (.frameSnap h stream count) s = .next
      ((a.onStream stream (fun x => { x with running := true, snap := some (h.session, h.tag, count, 0, 0) })).accept h 0x17)) ∧
  (∀ h wait sharp bypass s a, acting h 0x18 s = a → runs h 0x18 (pipeGate h wait sharp bypass) s = true →
    a.pwr.convStep = 0 ∨ sharp = 0 →
    exec (.pipeConfig h wait sharp bypass) s = .next
      ((a.onPipe (fun p => { p with sharp := sharp, bypass := bypass })).answer h 0x18 stOk [])) ∧
  (∀ h eps tRefl s a, acting h 0x19 s = a → runs h 0x19 (radiometryGate h eps) s = true →
    exec (.radiometrySet h eps tRefl) s = .next
      ((a.onPipe (fun p => { p with eps := eps, tRefl := tRefl })).answer h 0x19 stOk []))

/-- The calibration commands complete: at once, or accepted as long operations, when what they need is free (R320, R438, R445,
R461, R467, R471, R482, R486, R489, R574, R595). -/
def Obligations.CalibrationCommandsComplete : Prop :=
  (∀ h s a, acting h 0x20 s = a → runs h 0x20 (adcCalGate h) s = true →
    exec (.adcCal h) s = .next
      (((a.onCal (fun c => { c with adcCal := some (h.session, h.tag, none) })).onRd
        (fun r => { r with state := .adcCal })).accept h 0x20)) ∧
  (∀ h wait x y z s a, acting h 0x21 s = a → runs h 0x21 (calGate h 3 wait) s = true → a.convShort 2 = none →
    a.blockedOn [resShutter, resPort] (a.sess.effClass h) a.sess.deferred = none →
    exec (.shutterCal h wait x y z) s = .next ((a.accept h 0x21).calStart false h.session h.tag x y z)) ∧
  (∀ h wait x y z s a, acting h 0x22 s = a → runs h 0x22 (calGate h 2 wait) s = true → a.convShort 2 = none →
    a.blockedOn [resShutter, resPort] (a.sess.effClass h) a.sess.deferred = none →
    exec (.gainCal h wait x y z) s = .next ((a.accept h 0x22).calStart true h.session h.tag x y z)) ∧
  (∀ h bound mode s a, acting h 0x23 s = a → runs h 0x23 (driftGate h bound mode) s = true →
    exec (.driftConfig h bound mode) s = .next
      ((a.onDrift (fun d => { d with bound := bound, auto := mode = 1, exceeded := bound.toFloat ≤ f64 d.u })).answer h 0x23 stOk
        (le 2 (driftUncOf a.cal.drift) ++ [0#8, 0#8]))) ∧
  (∀ h ms s a, acting h 0x24 s = a → runs h 0x24 (inhibitGate h ms) s = true →
    exec (.shutterInhibit h ms) s = .next
      ((a.onCal (fun c => { c with inhibit := if ms = 0 then none else some (h.session, a.tb.now + msTicks ms) })).answer
        h 0x24 stOk (le 4 ms))) ∧
  (∀ h wait es s a, acting h 0x25 s = a → runs h 0x25 (defectGate h wait es) s = true →
    a.blockedOn [resPort] (a.sess.effClass h) a.sess.deferred = none →
    exec (.defectEdit h wait es) s = .next
      ((a.editStore (fun x => es.foldl (fun y e => editRec e y) x)).answer h 0x25 stOk (writtenResult es.length))) ∧
  (∀ h wait set s a, acting h 0x26 s = a → runs h 0x26 (selectGate h wait set) s = true →
    a.blockedOn [resPort] (a.sess.effClass h) a.sess.deferred = none →
    exec (.calsetSelect h wait set) s = .next (a.recallStart h set)) ∧
  (∀ h wait s a, acting h 0x27 s = a → runs h 0x27 (saveGate h wait) s = true →
    a.blockedOn [resPort] (a.sess.effClass h) a.sess.deferred = none →
    exec (.calsetSave h wait) s = .next (a.saveStart h)) ∧
  (∀ h first count s a, acting h 0x28 s = a → runs h 0x28 (coeffReadGate first count) s = true →
    exec (.coeffRead h first count) s = .next
      (a.answer h 0x28 stOk (le 4 first ++ ((List.range count).map (fun k => le 10 (a.pipe.csto.get (first + k)).toNat)).flatten))) ∧
  (∀ h wait first rs s a, acting h 0x29 s = a → runs h 0x29 (coeffWriteGate h wait first rs) s = true →
    a.blockedOn [resPort] (a.sess.effClass h) a.sess.deferred = none →
    exec (.coeffWrite h wait first rs) s = .next
      ((a.editStore (writeRecs first rs)).answer h 0x29 stOk (writtenResult rs.length)))

/-- The events of a calibration complete (R320, R321, R326, R327, R448, R453, R461, R464, R465, R467, R468, R484). -/
def Obligations.CalibrationEventsComplete : Prop :=
  (∀ s, inRatings s → s.rd.state = .adcCal → exec (.adcCalEnd none) s = .next (s.onRd (fun r => { r with state := .seeding }))) ∧
  (∀ n s, inRatings s → s.rd.state = .adcCal → exec (.adcCalEnd (some n)) s = .next (s.adcCalEnds stFailHw n)) ∧
  (∀ lows highs s, inRatings s → s.rd.state = .seeding → s.seedsNew = true →
    exec (.seedingEnd lows highs) s = .next (((s.onRd (Rd.seeded lows highs)).factorsWritten).adcCalEnds stOk 0)) ∧
  (∀ lows highs s, inRatings s → s.rd.state = .seeding → s.seedsNew = false →
    exec (.seedingEnd lows highs) s = .next (((s.onRd (Rd.seeded lows highs)).factorsRestored).adcCalEnds stOk 0)) ∧
  (∀ tick s, coreActs s = true →
    exec (.calSettleExpiry tick) s = .next ((s.atTick tick).onCalRun (Cal.settled s.moveConfirmed))) ∧
  (∀ s c, coreActs s = true → s.cal.cal = some c → c.inCapture = true → c.frames = 16 →
    (s.rd.frameOpen = true → s.rd.frame ≠ c.lastFrame) →
    ∃ d u, d = ((c.fpaRate s.cal.drift).flatness s.pipe.params).coverage s.included s.rd.windowSize s.includedSum ∧
      u = s.onCalRun (fun _ => d) ∧
      exec .captureComplete s = .next
        (if d.failed ≠ 0 then u.calFails 0
         else if c.phase = .gCapture then u.calMove 0 .gOpening
         else if c.phase = .gOpenCapture then u.onCalRun (fun x => { x with phase := .gUpdate })
         else u.onCalRun (fun x => { x with phase := .offsetUpdate }))) ∧
  (∀ s c, coreActs s = true → s.cal.cal = some c → c.inCapture = true → exec .captureFramesTimeout s = .next (s.calFails 2)) ∧
  (∀ s c, coreActs s = true → s.cal.cal = some c → c.phase = .offsetUpdate →
    ∃ m p err, m = roundDivI s.includedSum s.included ∧
      p = { s.pipe.params with tCal := roundDiv (sumCodes c.fpaCodes) (max c.fpaCodes.length 1) } ∧
      (∀ v, s.driftSlope m = some v → err = v - roundDivI c.dtEffs.sum (max c.dtEffs.length 1)) ∧
      exec .offsetUpdateDone s = .next
        (({ s with
            freeCtr := s.freeCtr + 1
            pipe := { s.pipe with
              csto := s.pipe.csto.mapWindow s.rd.windowFirst s.rd.windowSize (offsetRec m s.pipe.kint s.pipe.kinv)
              params := p
              changed := true }
            cal := { s.cal with
              drift := s.cal.drift.anchor p
              cal := some { c with updated := s.included, driftErr := clamp (-8388608) 8388607 err, status := stOk } } }
          : State).calOpen)) ∧
  (∀ s c, coreActs s = true → s.cal.cal = some c → c.phase = .gUpdate →
    exec .gainUpdateDone s = .next
      (({ s with
          pipe := { s.pipe with
            csto := s.pipe.csto.mapWindow s.rd.windowFirst s.rd.windowSize (gainRec s.includedSum s.included)
            changed := true }
          cal := { s.cal with cal := some { c with updated := s.included } } } : State).calMove 1 .closing)) ∧
  (∀ tick s, coreActs s = true → (s.atTick tick).autoDue = true →
    exec (.autoShutterCal tick) s = .next ((s.atTick tick).calStart false 0xFF 0 0 0 0)) ∧
  (∀ s, inRatings s → exec .shutterInhibitExpiry s = .next (s.onCal (fun c => { c with inhibit := none })))

/-- The ends of a recall, of a save block and of a deferred wait complete (R438, R443, R445, R579, R905, R908, R910,
R911). -/
def Obligations.SetRecallAndSaveComplete : Prop :=
  (∀ lost s session tag set, coreActs s = true → s.cfl.recalling = some (session, tag, set) →
    ∃ u, u = (s.recallEnds set lost).onDrift Drift.restart ∧
      exec (.calsetRecallDone lost) s = .next ((u.recallReply (if u.cfl.result = 2 then stOk else stFailHw)).reevaluate)) ∧
  (∀ s j, coreActs s = true → s.cfl.save = some j → j.waiting = false → j.retried = false →
    exec (.calsetSaveBlockDone false) s = .next
      (s.onCfl (fun c => { c with save := some { j with retried := true, waiting := !s.pwr.covers needFlash } }))) ∧
  (∀ s j, coreActs s = true → s.cfl.save = some j → j.waiting = false → j.retried = true →
    exec (.calsetSaveBlockDone false) s = .next ((s.saveEnds stFailHw).reevaluate)) ∧
  (∀ s j, coreActs s = true → s.cfl.save = some j → j.waiting = false → s.cfl.saveCancel = true →
    exec (.calsetSaveBlockDone true) s = .next ((s.saveEnds stFailAborted).reevaluate)) ∧
  (∀ s j, coreActs s = true → s.cfl.save = some j → j.waiting = false → s.cfl.saveCancel = false → j.block < 199 →
    exec (.calsetSaveBlockDone true) s = .next
      (s.onCfl (fun c => { c with save := c.save.map (fun k =>
        { k with block := j.block + 1, retried := false, waiting := !s.pwr.covers needFlash }) }))) ∧
  (∀ s j, coreActs s = true → s.cfl.save = some j → j.waiting = false → s.cfl.saveCancel = false → 199 ≤ j.block →
    s.pwr.covers needFlash = true →
    exec (.calsetSaveBlockDone true) s = .next
      ((((s.onCfl (fun c => { c with sets := c.sets.modify 3 (fun _ => s.savedSet), userValid := true })).onPipe
        (fun p => { p with changed := false })).saveEnds stOk).reevaluate)) ∧
  (∀ s j, coreActs s = true → s.cfl.save = some j → j.waiting = true →
    exec .calsetSaveEnergyTimeout s = .next ((s.saveEnds stFailAborted).reevaluate)) ∧
  (∀ session tag s f, coreActs s = true →
    s.sess.deferred.find? (fun f => f.hdr.session = session && f.hdr.tag = tag) = some f →
    exec (.deferredWaitExpiry session tag) s = .next
      (s.answerOpen f stCapacity (exclusiveRefusal (s.lackOf f) 1)))

/-- The actuator commands complete (R615, R616, R617, R618, R619, R620, R707, R712, R718, R735, R741, R750). -/
def Obligations.ActuatorCommandsComplete : Prop :=
  (∀ h ch c s a, acting h 0x30 s = a → runs h 0x30 (actConfigGate h ch c) s = true →
    exec (.actConfig h ch c) s = .next ((a.onChan (chanOf ch) (fun x => { x with cfg := c })).answer h 0x30 stOk [])) ∧
  (∀ h q first words s a l, acting h 0x31 s = a → runs h 0x31 (programGate h q first words) s = true →
    putRun (a.act.chisel q).words first words = l →
    exec (.actProgramLoad h q first words) s = .next
      ((a.onChisel q (fun c => { c with words := l, loaded := true })).answer h 0x31 stOk (le 4 (programCrc l)))) ∧
  (∀ h wait ch hold s a, acting h 0x32 s = a → runs h 0x32 (fireGate h ch 0 hold) s = true →
    (a.chan (chanOf ch)).extends = false →
    exec (.actFire h wait ch 0 hold) s = .next
      ((a.fire (chanOf ch) 0 hold a.tb.now (.command h.session h.tag)).park h 0x32 (.slot (chanOf ch)))) ∧
  (∀ h wait ch hold s a, acting h 0x32 s = a → runs h 0x32 (fireGate h ch 0 hold) s = true →
    (a.chan (chanOf ch)).extends = true →
    exec (.actFire h wait ch 0 hold) s = .next
      ((a.fire (chanOf ch) 0 hold a.tb.now (.command h.session h.tag)).answer h 0x32 stOk (le 8 (a.chan (chanOf ch)).onAt))) ∧
  (∀ h wait ch hold s a, acting h 0x32 s = a → runs h 0x32 (fireGate h ch 1 hold) s = true →
    ∃ v u, u = a.fire (chanOf ch) 1 hold a.tb.now (.command h.session h.tag) ∧
      exec (.actFire h wait ch 1 hold) s = .next (({ u with freeCtr := u.freeCtr + 2 } : State).answer h 0x32 stOk (le 8 v))) ∧
  (∀ h p s a n, acting h 0x33 s = a → runs h 0x33 (scheduleGate h p) s = true → a.act.freeHandle = some n →
    exec (.actSchedule h p) s = .next
      ((a.onAct (fun x => { x with schedules := x.schedules ++
        [{ handle := n, session := h.session, ch := chanOf p.ch, kind := p.kind, ref := p.ref, value := p.value % 2 ^ 64,
           offset := p.offset, hold := p.hold, fireAt := if p.ref = 0 then some (p.value + p.offset) else none }] })).answer
        h 0x33 stOk [BitVec.ofNat 8 n, 0#8, 0#8, 0#8])) ∧
  (∀ h x y f s a, acting h 0x34 s = a → runs h 0x34 (abortGate x y f) s = true →
    exec (.actAbort h x y f) s = .next ((a.abort x y f).answer h 0x34 stOk [])) ∧
  (∀ h ch s a, acting h 0x35 s = a → runs h 0x35 (diagGate ch) s = true →
    exec (.actDiagGet h ch) s = .next (a.answer h 0x35 stOk (a.diagResult (chanOf ch)))) ∧
  (∀ h wait dir s a, acting h 0x36 s = a → runs h 0x36 (moveGate h wait dir) s = true →
    a.blockedOn [resShutter] (a.sess.effClass h) a.sess.deferred = none →
    exec (.shutterMove h wait dir) s = .next ((a.accept h 0x36).shutterStart h dir))

/-- The phases of an actuator channel: slot grant, peak, hold, switch-off and end complete (R709, R710, R711, R712,
R714, R715, R719, R722, R723, R724, R728). -/
def Obligations.ChannelPhaseEventsComplete : Prop :=
  (∀ ch tick s f, inRatings s → ((s.atTick tick).chan ch).waiting = some f → (s.atTick tick).mayGrant ch = true →
    exec (.actSlotGrant ch 100 tick) s = .next ((s.atTick tick).grant ch tick f)) ∧
  (∀ ch tick s f, inRatings s → ((s.atTick tick).chan ch).waiting = some f → (s.atTick tick).mayGrant ch = true →
    exec (.actSlotGrant ch 0 tick) s = .next ((s.atTick tick).bankFault (bankOf ch) 0x04)) ∧
  (∀ ch s f session tag, inRatings s → (s.chan ch).waiting = some f → f.src = .command session tag →
    exec (.actPeakDelayExpiry ch) s = .next (s.dropWaiting ch stCapacity (slotRefusal (s.chan ch) (bankOf ch)))) ∧
  (∀ ch s f handle, inRatings s → (s.chan ch).waiting = some f → f.src = .schedule handle →
    exec (.actPeakDelayExpiry ch) s = .next (s.dropWaiting ch stCapacity [])) ∧
  (∀ ch mA tick s, inRatings s → (s.chan ch).phase = .boost → (s.chan ch).peaked = false →
    ∃ u v, u = (s.atTick tick).onChan ch (fun c =>
        { c with peaked := true, lastPeak := measuredCoil ch mA, lastTtp := min (roundDiv (tick - (s.chan ch).onAt) 100) 0xFFFF }) ∧
      v = (if tick - (s.chan ch).onAt < usTicks (s.chan ch).cfg.minPeak then
        u.actDiag (chanCode ch) 0x01 (roundDiv (tick - (s.chan ch).onAt) 100) else u) ∧
      exec (.actPeakReached ch mA tick) s = .next ((v.boostOver ch).onChan ch (Chan.boostEnds tick))) ∧
  (∀ ch mA tick s, inRatings s → (s.chan ch).phase = .boost → (s.chan ch).peaked = false → mA < 20 → 9000 ≤ s.supplyOf ch →
    exec (.actMaxTimeToPeak ch mA tick) s = .next (((s.atTick tick).chanFault ch 0x01).shutterFault ch)) ∧
  (∀ ch mA tick s, inRatings s → (s.chan ch).phase = .boost → (s.chan ch).peaked = false → 20 ≤ mA →
    exec (.actMaxTimeToPeak ch mA tick) s = .next
      ((((s.atTick tick).actDiag (chanCode ch) 0x01 0xFFFFFFFF).boostOver ch).onChan ch (Chan.boostEnds tick))) ∧
  (∀ ch tick s, inRatings s → (s.chan ch).phase = .decay →
    exec (.actHoldEntered ch tick) s = .next
      (((s.atTick tick).onChan ch (fun c => { c with phase := .hold, pathOn := false, lastSwitch := tick })).onAct
        (Act.releaseSlot ch))) ∧
  (∀ ch tick s, inRatings s → (s.chan ch).phase = .decay →
    exec (.actDecayTimeout ch tick) s = .next
      (((s.atTick tick).onChan ch (fun c => { c with phase := .hold, pathOn := false, lastSwitch := tick })).onAct
        (Act.releaseSlot ch))) ∧
  (∀ ch upper tick s, inRatings s →
    exec (.actHoldBandCrossing ch upper tick) s = .next ((s.atTick tick).onChan ch (Chan.cross upper tick))) ∧
  (∀ ch tick s, inRatings s → (s.chan ch).profileRuns = true → (s.chan ch).chisel = false → (s.chan ch).offAt ≤ tick →
    exec (.actSwitchOffTime ch tick) s = .next
      ((((s.atTick tick).boostOver ch).chanOff ch).moveOver ch (s.chan ch).motion)) ∧
  (∀ ch tick s, inRatings s →
    exec (.actTurnOffEnd ch tick) s = .next
      ((s.atTick tick).onChan ch (fun c => if c.phase = .turnOff then c.finish tick else c))) ∧
  (∀ ch dipAt tick s, inRatings s → (s.chan ch).chisel = false → (s.chan ch).phase = .boost → 0 < (s.chan ch).cfg.dipEnd →
    (s.chan ch).lowSide tick = true →
    (s.chan ch).onAt + usTicks (s.chan ch).cfg.dipStart ≤ dipAt → dipAt ≤ (s.chan ch).onAt + usTicks (s.chan ch).cfg.dipEnd →
    exec (.actMotionDip ch dipAt tick) s = .next
      ((s.atTick tick).onChan ch (fun c =>
        { c with motion := true, lastDip := min (roundDiv (dipAt - c.onAt) 100) 0xFFFF }))) ∧
  (∀ ch duty tick s, inRatings s → (s.chan ch).phase ≠ .off →
    exec (.actDutyLimitReached ch duty tick) s = .next
      ((((((s.atTick tick).boostOver ch).endDriver ch).chanOff ch).actDiag (chanCode ch) 0x03 duty).moveOver ch
        ((s.chan ch).motion && !(s.chan ch).chisel)))

/-- The faults, the bank supply and the trailer report of the actuators complete (R729, R732, R734, R764, R419, R420,
R754). -/
def Obligations.ActuatorFaultsComplete : Prop :=
  (∀ ch tick s, inRatings s → exec (.actSenseFail ch tick) s = .next (((s.atTick tick).chanFault ch 0x02).shutterFault ch)) ∧
  (∀ ch tick s, inRatings s → exec (.actShort ch tick) s = .next (((s.atTick tick).chanFault ch 0x03).shutterFault ch)) ∧
  (∀ bank tick s, inRatings s → exec (.actHsSenseFail bank tick) s = .next ((s.atTick tick).bankFault bank 0x04)) ∧
  (∀ bank tick s, inRatings s → exec (.actBankOvercurrent bank tick) s = .next ((s.atTick tick).bankFault bank 0x05)) ∧
  (∀ bank mv tick s, inRatings s → mv < 9000 →
    exec (.actSupplyLow bank mv tick) s = .next
      ((bankChans bank).foldl State.supplyCut
        ((s.atTick tick).onPwr (fun p => if bank = 0 then { p with vactA := mv } else { p with vactB := mv })))) ∧
  (∀ bank mv tick s, inRatings s → 9000 ≤ mv →
    exec (.actSupplyLow bank mv tick) s = .next
      ((s.atTick tick).onPwr (fun p => if bank = 0 then { p with vactA := mv } else { p with vactB := mv }))) ∧
  (∀ ch kind tick s, inRatings s →
    exec (.actEventReport ch kind tick) s = .next
      (s.onAct (fun a => { a with events := a.events ++
        [{ time := tick, ch := ch, kind := kind, late := !(s.rd.anyFrame && s.rd.frameOpen && s.rd.stamp ≤ tick) }] })))

/-- Scheduled fires, the waits of a Chisel program and the shutter's timeouts complete (R736, R738, R739, R744, R746,
R748, R749, R753, R756, R77). -/
def Obligations.SequencersAndShutterComplete : Prop :=
  (∀ handle tick s x, inRatings s → (s.atTick tick).scheduleDue handle tick = some x →
    exec (.scheduledFireInstant handle tick) s = .next ((s.atTick tick).scheduleFires x (x.fireAt.getD tick))) ∧
  (∀ seq tick s n, inRatings s → (s.act.chisel seq).wait = .untilTick n → (s.act.chisel seq).run = true → n ≤ tick →
    exec (.chiselWaitEnd seq tick) s = .next ((s.atTick tick).programGoes seq tick id)) ∧
  (∀ seq tick s, inRatings s → (s.act.chisel seq).wait = .strobes 0 → (s.act.chisel seq).run = true →
    exec (.chiselWaitfEnd seq tick) s = .next ((s.atTick tick).programGoes seq tick id)) ∧
  (∀ seq tick s e, inRatings s → (s.act.chisel seq).wait = .angle e → (s.act.chisel seq).run = true → s.enc.state = 0 →
    exec (.chiselWaitaEnd seq tick) s = .next ((s.atTick tick).programGoes seq tick (fun c => { c with mark := tick }))) ∧
  (∀ seq tick s a b c d, inRatings s → (s.act.chisel seq).wait = .current a b c d → (s.act.chisel seq).run = true →
    exec (.chiselWaitiEnd seq tick) s = .next ((s.atTick tick).programGoes seq tick (fun x => { x with timedOut := false }))) ∧
  (∀ seq tick s a b c d, inRatings s → (s.act.chisel seq).wait = .current a b c d → (s.act.chisel seq).run = true → d ≤ tick →
    exec (.chiselWaitiTimeout seq tick) s = .next ((s.atTick tick).programGoes seq tick (fun x => { x with timedOut := true }))) ∧
  (∀ seq tick s, inRatings s → (s.act.chisel seq).wait = .none → (s.act.chisel seq).run = true →
    exec (.chiselInstructionLimit seq tick) s = .next
      (((s.atTick tick).programFault seq 0x04
        (wordChan seq ((s.act.chisel seq).words.getD (s.act.chisel seq).pc 0))).programMove)) ∧
  (∀ tick s, inRatings s → (s.act.chisel 2).run = true → ((s.atTick tick).onAct (Act.endProgram 2)).act.moving = true →
    exec (.shutterProgramTimeout tick) s = .next (((s.atTick tick).onAct (Act.endProgram 2)).shutterEnds false true)) ∧
  (∀ s, inRatings s → s.act.vshrWait = true → s.moveTimed = true →
    exec .shutterVshrTimeout s = .next
      (((s.onChan 8 (fun c => { c with lastFault := 0x08, faults := (c.faults + 1) % 2 ^ 32 })).actFaultEvent 0x20 0x08).shutterEnds
        false false)) ∧
  (∀ mv tick s, inRatings s → 18000 ≤ mv → s.act.vshrWait = true → s.act.move.isSome = true → s.pwr.mode ≠ .ride →
    ∃ u, u = (((s.atTick tick).onPwr (fun p => { p with vshr := mv })).moveStart (s.atTick tick).tb.now) ∧
      exec (.vshrReady mv tick) s = .next (if u.deadMove then u.shutterEnds false true else u))

/-- PSTO_READ, PSTO_WRITE, PSTO_ERASE, PSTO_PROTECT, COUNTER_GET, LOG_READ, LOG_CLEAR complete (R621, R622, R623,
R624, R851, R852, R868, R876, R883, R884, R957). -/
def Obligations.StorageCommandsComplete : Prop :=
  (∀ h offset count s a, acting h 0x40 s = a → runs h 0x40 (pstoReadGate offset count) s = true →
    exec (.pstoRead h offset count) s = .next
      ((a.onPsto (fun p => (p.countErrors offset count).suspend)).answer h 0x40 stOk
        (le 4 offset ++ (List.range count).map (fun k => a.psto.readByte (offset + k))))) ∧
  (∀ h offset bytes s a, acting h 0x41 s = a → runs h 0x41 (pstoWriteGate h offset bytes) s = true →
    exec (.pstoWrite h offset bytes) s = .next ((a.onPsto (fun p => (p.write offset bytes).suspend)).answer h 0x41 stOk [])) ∧
  (∀ h first count s a, acting h 0x42 s = a → runs h 0x42 (pstoEraseGate h first count) s = true → a.eraseWaits = true →
    exec (.pstoErase h first count) s = .next
      ((a.accept h 0x42).onPsto (fun p => { p with queued := p.queued ++ [eraseJob h first count] }))) ∧
  (∀ h first count s a, acting h 0x42 s = a → runs h 0x42 (pstoEraseGate h first count) s = true → a.eraseWaits = false →
    exec (.pstoErase h first count) s = .next
      (((a.accept h 0x42).onPsto (fun p => { p with job := some (eraseJob h first count) })).eraseGo)) ∧
  (∀ h code s a, acting h 0x43 s = a → runs h 0x43 (pstoProtectGate h code) s = true →
    exec (.pstoProtect h code) s = .next
      ((a.onPsto (fun p => (p.protectBy code).suspend)).answer h 0x43 stOk (le 1 a.psto.protect ++ [0#8, 0#8, 0#8]))) ∧
  (∀ h s a, acting h 0x44 s = a → runs h 0x44 (fun _ => Gate.plain 3) s = true →
    exec (.counterGet h) s = .next (a.answer h 0x44 stOk ((a.counters.map (le 4)).flatten))) ∧
  (∀ h first count s a, acting h 0x45 s = a → runs h 0x45 (logReadGate count) s = true →
    exec (.logRead h first count) s = .next (a.answer h 0x45 stOk
      (le 2 a.cfl.visible.length ++ le 2 first ++ (((a.cfl.visible.drop first).take count).map LogEntry.bytes).flatten))) ∧
  (∀ h s a, acting h 0x46 s = a → runs h 0x46 logClearGate s = true →
    exec (.logClear h) s = .next (a.logCleared.answer h 0x46 stOk []))

/-- The scan, the erases, the background stores, the log write and the CRC walk complete (R852, R866, R869, R871,
R875, R890, R893, R912, R913, R918, R955, R960). -/
def Obligations.StorageEventsComplete : Prop :=
  (∀ s, coreActs s = true → s.psto.scan = 1 → s.psto.active.isSome = true →
    exec .pstoStartupScan s = .next ((s.psto.scanned.voids).foldl State.voidLogged (s.onPsto Psto.scanned))) ∧
  (∀ s, coreActs s = true → s.psto.scan = 1 → s.psto.active = none → exec .pstoStartupScan s = .next (s.background .rebuild)) ∧
  (∀ ok s, coreActs s = true → s.psto.resolving = true →
    exec (.pendingEraseResolve ok) s = .next (s.background (.resolve ok))) ∧
  (∀ s, coreActs s = true → s.psto.scan = 2 → s.psto.nearlyFull = true →
    exec .journalCompaction s = .next (s.background .compaction)) ∧
  (∀ vhold s, coreActs s = true →
    exec (.backgroundStoreRetry vhold) s = .next (((s.onPwr (fun p => { p with vhold := vhold })).bgRetry).saveWake)) ∧
  (∀ s, inRatings s → exec .pstoEraseResume s = .next (s.onPsto (fun p => { p with suspended := false }))) ∧
  (∀ s, coreActs s = true → s.psto.erasing ≠ 0xFF → s.psto.suspended = false →
    exec .pstoSectorEraseDone s = .next s.sectorErased) ∧
  (∀ ring s, coreActs s = true → s.psto.ringDue ring = true →
    exec (.ringSectorErase ring) s = .next (s.background (.ringErase ring))) ∧
  (∀ s, coreActs s = true → exec .counterRingWrite s = .next ((s.count 8).background .counters)) ∧
  (∀ s, coreActs s = true → s.cfl.logBuf ≠ [] → exec .logWrite s = .next (s.background .log)) ∧
  (∀ bad s, coreActs s = true →
    exec (.crcWalk bad) s = .next
      ((s.cfl.walkBad bad).foldl (fun u b => u.logEntry 0x000A (le 2 b)) (s.onCfl (Cfl.walked (s.cfl.walkBad bad))))) ∧
  (∀ s, coreActs s = true →
    exec .crcWalkAbandon s = .next (s.onCfl (fun c => { c with walkFails := satAdd 0xFF c.walkFails 1 })))

/-- FW_INFO, FW_WRITE, FW_VERIFY, FW_ACTIVATE, LEDGE_EXIT and the ends of writes and checks complete (R152, R153,
R154, R630, R631, R633, R923, R925, R927, R928, R933). -/
def Obligations.FirmwareCommandsComplete : Prop :=
  (∀ h s a, acting h 0x70 s = a → runs h 0x70 (fun _ => Gate.plain 3) s = true → a.cfl.running < 2 →
    exec (.fwInfo h) s = .next (a.answer h 0x70 stOk a.infoResult)) ∧
  (∀ h s a, acting h 0x70 s = a → runs h 0x70 (fun _ => Gate.plain 3) s = true → 2 ≤ a.cfl.running →
    exec (.fwInfo h) s = .next { a.answer h 0x70 stOk a.infoResult with freeCtr := a.freeCtr + 1 }) ∧
  (∀ h image offset bytes s a u, acting h 0x71 s = a → runs h 0x71 (fwWriteGate image offset bytes) s = true →
    u = (((a.fwSettled.onCfl (Cfl.onImage image (Image.write offset bytes))).accept h 0x71).onCfl
      (fun c => { c with fwWrite := some (h.session, h.tag, image) })) →
    exec (.fwWrite h image offset bytes) s = .next
      (if offset / 65536 = (offset + bytes.length) / 65536 then
        (u.onCfl (Cfl.onImage image Image.writtenState)).fwWriteEnds stOk else u)) ∧
  (∀ s session tag image, coreActs s = true → s.cfl.fwWrite = some (session, tag, image) → s.pwr.covers needFlash = true →
    exec (.fwWriteBlockDone true) s = .next
      ((s.onCfl (Cfl.onImage image (fun x => (x.tabulate (s.cfl.image image).doneBlock).writtenState))).fwWriteEnds stOk)) ∧
  (∀ ok s session tag image, coreActs s = true → s.cfl.fwWrite = some (session, tag, image) → s.pwr.covers needFlash = false →
    exec (.fwWriteBlockDone ok) s = .next (s.fwWriteEnds stEnergy)) ∧
  (∀ s session tag image, coreActs s = true → s.cfl.fwWrite = some (session, tag, image) → s.pwr.covers needFlash = true →
    exec (.fwWriteBlockDone false) s = .next
      ((s.onCfl (Cfl.onImage image (fun x => { x.spoil (s.cfl.image image).doneBlock with dirState := 2 }))).fwWriteEnds
        stFailHw)) ∧
  (∀ h image s a, acting h 0x72 s = a → runs h 0x72 (fwVerifyGate image) s = true →
    exec (.fwVerify h image) s = .next
      ((a.fwSettled.accept h 0x72).onCfl (fun c => { c with fwVerify := some (h.session, h.tag, image) }))) ∧
  (∀ s session tag image u, coreActs s = true → s.cfl.fwVerify = some (session, tag, image) →
    s.pwr.mode ≠ .ride → s.pwr.covers needFlash = true →
    u = s.onCfl (Cfl.onImage image Image.lastBlock) → u.verifyFails image = none →
    exec .fwVerifyDone s = .next ((u.onCfl (Cfl.onImage image (fun x => { x with verState := 1 }))).fwVerifyEnds stOk)) ∧
  (∀ s session tag image u reason, coreActs s = true → s.cfl.fwVerify = some (session, tag, image) →
    s.pwr.mode ≠ .ride → s.pwr.covers needFlash = true →
    u = s.onCfl (Cfl.onImage image Image.lastBlock) → u.verifyFails image = some reason →
    exec .fwVerifyDone s = .next
      (((u.onCfl (Cfl.onImage image (fun x => { x with verState := 2 }))).logEntry 0x000B
        [BitVec.ofNat 8 image, 3#8, BitVec.ofNat 8 reason]).fwVerifyEnds stFailVerify)) ∧
  (∀ h image later s a u, acting h 0x73 s = a → runs h 0x73 (fwActivateGate image later) s = true →
    u = (a.select (fun c => { c with nextImg := image, trial := true, activations := (c.activations + 1) % 2 ^ 32 })).answer
      h 0x73 stOk [] →
    exec (.fwActivate h image later) s = .next (if later = 0 ∧ a.pwr.mode ≠ .ledge then u.coreReset 0xD else u)) ∧
  (∀ h s a, acting h 0x76 s = a → runs h 0x76 ledgeExitGate s = true →
    exec (.ledgeExit h) s = .next (((a.answer h 0x76 stOk []).countsCleared).systemStart 0xE false false))

/-- The register-write commands complete (R14, R177, R334, R385, R386, R434, R532, R562, R587, R634, R695, R698). -/
def Obligations.RegisterWritesComplete : Prop :=
  (∀ h addr v s t, runs h 0x75 (regWriteGate h addr v) s = true → (isSensSetting addr && (acting h 0x75 s).pathOpen) = false →
    addr ≠ 0x40010004 → addr ≠ 0x40010008 → (acting h 0x75 s).regWrite addr v = .ok t →
    exec (.regWrite h addr v) s = .next (t.answer h 0x75 stOk [])) ∧
  (∀ h addr v s a, acting h 0x75 s = a → runs h 0x75 (regWriteGate h addr v) s = true → isSensSetting addr = true → a.pathOpen = true →
    exec (.sensRegisterWrite h addr v) s = .next ((a.regIssue (some h) addr 0 (some v)).park h 0x75 .reg)) ∧
  (∀ h v s a, acting h 0x75 s = a → runs h 0x75 (regWriteGate h 0x40010004 v) s = true →
    exec (.sessTierWrite h 0x40010004 v) s = .next ((a.answer h 0x75 stOk []).setPolicy v a.sess.enableWord)) ∧
  (∀ h v s a, acting h 0x75 s = a → runs h 0x75 (regWriteGate h 0x40010008 v) s = true →
    exec (.sessTierWrite h 0x40010008 v) s = .next ((a.answer h 0x75 stOk []).setPolicy a.sess.tierWord v)) ∧
  (∀ h v s a, acting h 0x75 s = a → runs h 0x75 (regWriteGate h 0x40004000 v) s = true →
    exec (.wdgHostCtrlWrite h v) s = .next ((a.wdgApply (v % 2 ^ 23) (v / 2 ^ 31)).answer h 0x75 stOk [])) ∧
  (∀ h v s a, acting h 0x75 s = a → runs h 0x75 (regWriteGate h 0x4000300C v) s = true →
    exec (.thmConfigWrite h v) s = .next ((a.onThm (fun t => { t with warnLevel := signed 16 v })).answer h 0x75 stOk [])) ∧
  (∀ h v s a, acting h 0x75 s = a → runs h 0x75 (regWriteGate h 0x40002010 v) s = true →
    exec (.pwrRideTimerWrite h v) s = .next ((a.setRide (v % 1024)).answer h 0x75 stOk [])) ∧
  (∀ h v s a, acting h 0x75 s = a → runs h 0x75 (regWriteGate h 0x40010010 v) s = true →
    exec (.sessTelemWrite h 0x40010010 v) s = .next ((a.setTelem 0 v).answer h 0x75 stOk [])) ∧
  (∀ h v s a, acting h 0x75 s = a → runs h 0x75 (regWriteGate h 0x40010014 v) s = true →
    exec (.sessTelemWrite h 0x40010014 v) s = .next ((a.setTelem 8 v).answer h 0x75 stOk [])) ∧
  (∀ h v s a, acting h 0x75 s = a → runs h 0x75 (regWriteGate h 0x4000F100 v) s = true →
    exec (.fuseBlowSelWrite h v) s = .next ((a.fuseSel v).answer h 0x75 stOk [])) ∧
  (∀ h v s a, acting h 0x75 s = a → runs h 0x75 (regWriteGate h 0x4000F104 v) s = true →
    exec (.fuseBlowWrite h v) s = .next ((a.blow v).answer h 0x75 stOk [])) ∧
  (∀ h v s a, acting h 0x75 s = a → runs h 0x75 (regWriteGate h 0x40000004 v) s = true →
    exec (.causeStickyClear h v) s = .next ((a.clearCauses v).answer h 0x75 stOk [])) ∧
  (∀ h v s a, acting h 0x75 s = a → runs h 0x75 (regWriteGate h 0x40040004 v) s = true →
    exec (.haulHdrErrClear h v) s = .next (a.clearHdrErr.answer h 0x75 stOk [])) ∧
  (∀ h v s a, acting h 0x75 s = a → runs h 0x75 (regWriteGate h 0x40040008 v) s = true →
    exec (.haulCrcErrClear h v) s = .next (a.clearCrcErr.answer h 0x75 stOk [])) ∧
  (∀ h v s a, acting h 0x75 s = a → runs h 0x75 (regWriteGate h 0x40050008 v) s = true →
    exec (.pipeEccClear h v) s = .next (a.clearPipeEcc.answer h 0x75 stOk [])) ∧
  (∀ h v s a, acting h 0x75 s = a → runs h 0x75 (regWriteGate h 0x40005004 v) s = true →
    exec (.pstoEccClear h v) s = .next (a.clearPstoEcc.answer h 0x75 stOk [])) ∧
  (∀ h v s a, acting h 0x75 s = a → runs h 0x75 (regWriteGate h 0x40012000 v) s = true →
    exec (.cxpDiscardsClear h v) s = .next (a.clearDiscards.answer h 0x75 stOk [])) ∧
  (∀ h v s a, acting h 0x75 s = a → runs h 0x75 (regWriteGate h 0x40020000 v) s = true →
    exec (.trigEarlyClear h v) s = .next (a.clearEarly.answer h 0x75 stOk [])) ∧
  (∀ h v s a, acting h 0x75 s = a → runs h 0x75 (regWriteGate h 0x40021004 v) s = true →
    exec (.encErrCountClear h v) s = .next (a.clearEncErr.answer h 0x75 stOk []))

/-- REG_READ, TBASE_NOW_LO_READ, FUSE_READ, HAUL_REG_RESP, BENCH_READ and BENCH_WRITE complete (R9, R275, R357, R378,
R380, R630, R635, R939, R940, R941, R949). -/
def Obligations.RegisterReadsComplete : Prop :=
  (∀ h addr n s a b, acting h 0x74 s = a → runs h 0x74 (regReadGate addr n) s = true → (isSens addr && a.pathOpen) = false →
    a.latchNow (wordRun addr n) = b →
    exec (.regRead h addr n) s = .next (b.answer h 0x74 stOk
      (le 4 addr ++ wordBytes ((wordRun addr n).map (fun x => ((b.seen h 0x74).reg x).getD 0))))) ∧
  (∀ h addr n s a, acting h 0x74 s = a → runs h 0x74 (regReadGate addr n) s = true → isSens addr = true → a.pathOpen = true →
    exec (.regRead h addr n) s = .next ((a.regIssue (some h) addr n none).park h 0x74 .reg)) ∧
  (∀ h s a b, acting h 0x74 s = a → runs h 0x74 (regReadGate 0x40001800 1) s = true → a.onTb (fun b => { b with nowHi := b.now / 2 ^ 32 }) = b →
    exec (.tbaseNowLoRead h) s = .next (b.answer h 0x74 stOk (le 4 0x40001800 ++ le 4 (((b.seen h 0x74).reg 0x40001800).getD 0)))) ∧
  (∀ h first count s a, acting h 0x77 s = a → runs h 0x77 (fuseReadGate first count) s = true →
    exec (.fuseRead h first count) s = .next (a.answer h 0x77 stOk (le 1 first ++ [0#8, 0#8, 0#8]
      ++ wordBytes ((List.range count).map (fun k => (a.fuse.words.getD (first + k) 0).toNat))))) ∧
  (∀ tag data s r, inRatings s → s.haul.running = true → tag < 0x80 →
    (s.haul.pendingRegs.take 4).find? (fun r => r.tag = tag && !r.late) = some r →
    exec (.haulRegResp tag 0 data) s = .next ((s.respArrives tag 0 data).regAnswered r data).regsSettled) ∧
  (∀ tag status data s r, inRatings s → s.haul.running = true → tag < 0x80 → status ≠ 0 →
    (s.haul.pendingRegs.take 4).find? (fun r => r.tag = tag && !r.late) = some r →
    exec (.haulRegResp tag status data) s = .next ((s.respArrives tag status data).regMissing r).regsSettled) ∧
  (∀ tag status data s, inRatings s → s.haul.running = true → 0x80 ≤ tag → exec (.haulRegResp tag status data) s =
    .next (s.respArrives tag status data).fpaArrived) ∧
  (∀ addr s b, inRatings s → s.benchOpen = true → addr % 4 = 0 → s.decodes addr = true → stateGate 0x74 s = none →
    (isSens addr && s.pathOpen) = false → s.latchNow [addr] = b →
    exec (.benchRead addr) s = .next (b.benchAnswer 0 0 (some ((b.reg addr).getD 0)))) ∧
  (∀ addr v s t, inRatings s → s.benchOpen = true → addr % 4 = 0 → s.decodes addr = true → (regWriteBad addr v s).any (·.2) = false →
    orStatus (stateGate 0x75 s) (regWriteState addr v s) = none → (isSensSetting addr && s.pathOpen) = false →
    s.regWrite addr v = .ok t → exec (.benchWrite addr v) s = .next (t.benchAnswer 0 0 none))

/-- The six JTAG instructions complete (R943, R944, R945, R946, R948). -/
def Obligations.TestAccessPortComplete : Prop :=
  (∀ s, s.tapOpen = true → exec .jtagBypass s = .next (s.onJtag (fun j => { j with ir := 31, dr := 0 }))) ∧
  (∀ s, s.tapOpen = true → ∃ word : BitVec 32, word.extractLsb' 12 16 = 0x1296#16 ∧
    exec .jtagIdcode s = .next (s.onJtag (fun j => { j with ir := 1, dr := word }))) ∧
  (∀ v s, s.tapOpen = true →
    exec (.jtagSamplePreload true v) s = .next ((s.spend 1).onJtag (fun j => { j with ir := 2, boundary := v }))) ∧
  (∀ v s, s.tapOpen = true → ∃ pads,
    exec (.jtagSamplePreload false v) s = .next ((s.spend 1).onJtag (fun j => { j with ir := 2, boundary := pads }))) ∧
  (∀ s, s.tapOpen = true → exec .jtagExtest s = .next (s.onJtag (fun j => { j with ir := 0, tainted := true }))) ∧
  (∀ s, s.tapOpen = true → exec .jtagHighz s = .next (s.onJtag (fun j => { j with ir := 3, tainted := true }))) ∧
  (∀ s, s.tapOpen = true → exec .jtagClamp s = .next (s.onJtag (fun j => { j with ir := 4, tainted := true }))) ∧
  (∀ s, (s.fuse.jtagOff = true ∨ s.jtag.trstn = false) → exec .jtagBypass s = .next s ∧ exec .jtagIdcode s = .next s ∧ exec .jtagExtest s = .next s ∧
    exec .jtagHighz s = .next s ∧ exec .jtagClamp s = .next s ∧ ∀ p v, exec (.jtagSamplePreload p v) s = .next s)

/-- Doorbell, reply pop, connection writes, discovery, packets and losses of links complete (R491, R493, R495, R497,
R499, R504, R512, R514, R515, R526, R529, R532). -/
def Obligations.ControlSpaceCompletes : Prop :=
  (∀ mbox len command tick s a bs i, inRatings s → s.cxp.up0 = true → mbox < 16 → (s.atTick tick).acknowledge 0 = a →
    command.take len = bs → lengthOk bs len = true → crcOk bs = true → (hdrOf bs tick).session = mbox →
    (if slotted (hdrOf bs tick) (at_ bs 4 1) then a.sess.slotBusy mbox else 8 ≤ a.sess.inflight mbox || a.sess.free = 0) = false →
    frameOk bs = true → (hdrOf bs tick).cls ≠ 3 → a.sess.tagBusy mbox (hdrOf bs tick).tag = false →
    ((hdrOf bs tick).urgent && !urgentPath (at_ bs 4 1)) = false →
    decodeParams (hdrOf bs tick) (at_ bs 4 1) ((bs.drop 8).take (len - 12)) = .cmd i →
    exec (.doorbell mbox len command tick) s = .next (a.enqueue (hdrOf bs tick) (at_ bs 4 1) i)) ∧
  (∀ mbox s f l, inRatings s → s.cxp.up0 = true → mbox < 16 → s.sess.heldReplies mbox = f :: l →
    exec (.replyPop mbox) s = .next ((s.onSess (Sess.releaseHeld f)).acknowledge 0)) ∧
  (∀ rate links s, inRatings s → s.cxp.up0 = true → s.linksRefused rate links = false →
    exec (.connectionConfig rate links) s = .next ((s.acknowledge 1).onCxp (Cxp.configure rate links))) ∧
  (∀ s, inRatings s → s.cxp.up0 = true → exec .connectionReset s = .next ((s.acknowledge 1).link0Lost stFailAborted)) ∧
  (∀ addr v s, inRatings s → s.cxp.up0 = true → 0x30000 ≤ addr → addr < 0x30020 →
    exec (.acquisitionMirrorWrite addr v) s = .next (s.acknowledge 0)) ∧
  (∀ link s, inRatings s → (s.cxp.links.getD link Link.off).powered = true → (s.cxp.links.getD link Link.off).up = false →
    exec (.discovery link) s = .next (if link = 0 then (s.discovered 0).flushHeld else s.discovered link)) ∧
  (∀ tick s, inRatings s → s.cxp.up0 = true →
    exec (.triggerPacket true tick) s = .next (((s.atTick tick).onCxp (Cxp.send [.triggerAck])).startRequest 5 tick) ∧
    exec (.triggerPacket false tick) s = .next ((s.atTick tick).onCxp (Cxp.send [.triggerAck]))) ∧
  (∀ link kind s, inRatings s → (s.cxp.links.getD link Link.off).up = true →
    exec (.unsupportedPacket link kind) s = .next (s.onCxp (fun c => { c with discards := satAdd 0xFF c.discards 1 }))) ∧
  (∀ link s, inRatings s → (s.cxp.links.getD link Link.off).up = true →
    exec (.cxpLinkLost link) s = .next ((s.linkDown stFailAborted link).onCxp (fun c => { c with losses := satAdd 0xFF c.losses 1 }))) ∧
  (∀ link s, inRatings s → 1 ≤ link → link < 4 → (s.cxp.links.getD link Link.off).configured = true →
    (s.cxp.links.getD link Link.off).up = false →
    exec (.cxpLinkRelock link) s = .next
      ((s.onCxp (fun c => { c with links := c.links.modify link (fun x => { x with up := true, rate := c.cfgRate }) })).unitEvent
        (0x20 + link) 2))

/-- Heartbeats, the replay of replies, telemetry and the end of in-flight entries complete (R277, R279, R513, R517,
R546, R962, R965). -/
def Obligations.HeartbeatsRepliesAndTelemetryComplete : Prop :=
  (∀ link host tick s, inRatings s → (s.cxp.links.getD link Link.off).up = true →
    exec (.hostHeartbeat link host tick) s = .next
      ((s.atTick tick).onTb (fun b => { b with heartbeats := b.heartbeats.modify link (fun _ => some (host, tick)) }))) ∧
  (∀ tick s, inRatings s →
    exec (.heartbeatSend tick) s = .next
      ((s.atTick tick).onCxp (Cxp.emit ((((List.range 4).filter (fun n => (s.cxp.links.getD n Link.off).up))).map (fun n => TxItem.heartbeat n tick))))) ∧
  (∀ s, inRatings s → s.cxp.up0 = true → s.pwr.mode ≠ .ride → exec .replyReplay s = .next s.replay.flushHeld) ∧
  (∀ session s, coreActs s = true → session < 16 → (s.sess.get session).opened = true → (s.sess.get session).telem ≠ 0 →
    (s.sess.get session).undelivered.length < 8 → s.cxp.up0 = true →
    exec (.telemetryPeriod session) s = .next ((s.spend 3).raiseEv
      { code := 0, status := 0, target := none, only := some session, forced := some session,
        data := [0x06#8] ++ s.statusResult session ++ s.thermalResult ++ s.powerResult, time := s.tb.now })) ∧
  (∀ session tag s, inRatings s → s.cxp.up0 = true →
    exec (.inFlightEnd session tag) s = .next (s.onSess (Sess.dropFlights (Flight.sent session tag))))

/-- TRIG_CONFIG, ENC_CONFIG, ANGLE_TABLE_LOAD and the four GANG commands complete (R625, R626, R627, R636, R655, R662,
R663, R668, R676, R680). -/
def Obligations.TriggerEncoderGangCommandsComplete : Prop :=
  (∀ h p s a, acting h 0x50 s = a → runs h 0x50 (trigGate h p) s = true →
    exec (.trigConfig h p) s = .next ((a.onTrig (fun x => { x with cfg := trigMerge p x.cfg })).answer h 0x50 stOk [])) ∧
  (∀ h p s a, acting h 0x51 s = a → runs h 0x51 (encGate h p) s = true →
    exec (.encConfig h p) s = .next ((a.onEnc (fun e => { e with
      cfg := p
      position := p.preset
      zref := none
      lostDue := false
      state := if p.mode = 0 then 2 else 0 })).answer h 0x51 stOk [])) ∧
  (∀ h first l s a, acting h 0x52 s = a → runs h 0x52 (angleGate h first l) s = true →
    exec (.angleTableLoad h first l) s = .next
      ((a.onEnc (fun e => { e with table := e.table.take first ++ l ++ e.table.drop (first + l.length) })).answer h 0x52 stOk [])) ∧
  (∀ h members rule s a b, acting h 0x53 s = a → runs h 0x53 (gangConfigGate h rule) s = true →
    a.onGang (fun g => { g with expected := members, rule := rule }) = b →
    exec (.gangConfig h members rule) s = .next (b.answer h 0x53 stOk (le 4 b.configHash))) ∧
  (∀ h s a, acting h 0x54 s = a → runs h 0x54 (gangJoinGate h) s = true →
    exec (.gangJoin h) s = .next ((a.gangOut.onGang (fun g => { g with joining := .listening h.session h.tag })).accept h 0x54)) ∧
  (∀ h s a, acting h 0x55 s = a → runs h 0x55 (gangLeaveGate h) s = true →
    exec (.gangLeave h) s = .next (a.gangOut.answer h 0x55 stOk [])) ∧
  (∀ h s a, acting h 0x56 s = a → runs h 0x56 (fun _ => Gate.plain 3) s = true →
    exec (.gangStatus h) s = .next (a.answer h 0x56 stOk a.gangResult))

/-- THERMAL_GET, THERMAL_CONFIG, POWER_GET and RIDE_CONFIG complete (R197, R205, R629, R811, R820, R821). -/
def Obligations.ThermalAndPowerCommandsComplete : Prop :=
  (∀ h s a, acting h 0x60 s = a → runs h 0x60 (fun _ => Gate.plain 3) s = true →
    exec (.thermalGet h) s = .next (a.answer h 0x60 stOk a.thermalResult)) ∧
  (∀ h level s a, acting h 0x61 s = a → runs h 0x61 (thermalConfigGate level) s = true →
    exec (.thermalConfig h level) s = .next
      ((a.onThm (fun t => { t with warnLevel := level })).answer h 0x61 stOk (leInt 2 a.thm.warnLevel ++ [0#8, 0#8]))) ∧
  (∀ h s a, acting h 0x62 s = a → runs h 0x62 (fun _ => Gate.plain 3) s = true →
    exec (.powerGet h) s = .next (({ a with freeCtr := a.freeCtr + 3 } : State).answer h 0x62 stOk a.powerResult)) ∧
  (∀ h ms s a, acting h 0x63 s = a → runs h 0x63 (rideConfigGate ms) s = true →
    exec (.rideConfig h ms) s = .next
      ((a.onPwr (fun p => { p with rideTimer := ms })).answer h 0x63 stOk (le 2 a.pwr.rideTimer ++ [0#8, 0#8])))

/-- Trigger edges and the events of the encoder complete (R638, R641, R642, R653, R654, R655, R657, R658, R659, R660,
R661, R665). -/
def Obligations.TriggerAndEncoderEventsComplete : Prop :=
  (∀ pad rising tick s a, inRatings s → pad ≤ 3 → s.trig.isOutput pad = false →
    (s.atTick tick).onTrig (fun x => { x with levels := maskMerge (2 ^ pad) (bit rising * 2 ^ pad) x.levels }) = a →
    exec (.trigEdge pad rising tick) s = .next
      (if s.trig.isInput pad = true ∧ rising = decide (s.trig.cfg.edge = 0) then a.startRequest (pad + 1) tick else a)) ∧
  (∀ lineA tick s a, inRatings s → s.enc.cfg.mode ≠ 0 → s.enc.forward lineA = true → s.atTick tick = a →
    ∃ b, b = a.onEnc (fun e => { e with
        a := if lineA then !e.a else e.a
        b := if lineA then e.b else !e.b
        position := if e.cfg.cpr = 0 then (e.position + 1) % 2 ^ 32 else (e.position + 1) % e.cfg.cpr }) ∧
      exec (.encLegalTransition lineA tick) s = .next (b.enc.firing.foldl (State.fireEntry tick) b)) ∧
  (∀ lineA tick s, inRatings s → s.enc.cfg.mode ≠ 0 → s.enc.forward lineA = false →
    exec (.encLegalTransition lineA tick) s = .next ((s.atTick tick).onEnc (fun e => { e with
        a := if lineA then !e.a else e.a
        b := if lineA then e.b else !e.b
        position := if e.cfg.cpr = 0 then (e.position + 2 ^ 32 - 1) % 2 ^ 32 else (e.position + e.cfg.cpr - 1) % e.cfg.cpr }))) ∧
  (∀ tick s l, inRatings s → s.enc.cfg.mode ≠ 0 →
    (if s.enc.errStamps.length < 3 then s.enc.errStamps else s.enc.errStamps.tail) ++ [tick] = l →
    exec (.encIllegalTransition tick) s = .next ((s.atTick tick).onEnc (fun e => { e with
      a := !e.a
      b := !e.b
      errCount := min 0xFFFFFFFF (e.errCount + 1)
      errStamps := l
      lostDue := e.lostDue || (e.state = 0 && lostWindow l) }))) ∧
  (∀ s, inRatings s → s.enc.lostDue = true → s.enc.state = 0 →
    exec .encLost s = .next ((s.onEnc (fun e => { e with state := 1, lostDue := false })).raise 0x12
      (le 4 s.enc.errCount ++ le 4 s.enc.position))) ∧
  (∀ tick s, inRatings s → s.enc.cfg.mode ≠ 0 → s.enc.state = 0 → s.enc.cfg.clearZ = 1 →
    exec (.encIndex tick) s = .next ((s.atTick tick).onEnc (fun e => { e with position := 0, zref := some (e.zref.getD 0) }))) ∧
  (∀ tick s, inRatings s → s.enc.cfg.mode ≠ 0 → s.enc.state = 0 → s.enc.cfg.clearZ ≠ 1 →
    exec (.encIndex tick) s = .next ((s.atTick tick).onEnc (fun e => { e with zref := some (e.zref.getD e.position) }))) ∧
  (∀ tick s z, inRatings s → s.enc.cfg.mode ≠ 0 → s.enc.state = 1 → s.enc.cfg.clearZ ≠ 1 → s.enc.zref = some z →
    exec (.encIndex tick) s = .next ((s.atTick tick).onEnc (fun e => { e with
      position := wrapped e.cfg.cpr (nearest e.cfg.cpr z e.position)
      correction := clamp (-32768) 32767 (nearest e.cfg.cpr z e.position - e.position)
      state := 0 })))

/-- The cycle, the messages and the starts of the gang complete (R669, R672, R674, R676, R677, R678, R679, R681, R682,
R686, R690, R693). -/
def Obligations.GangEventsComplete : Prop :=
  (∀ tick s, inRatings s → s.leads = true →
    exec (.gangCycle tick) s = .next (((s.atTick tick).gangSettles.onCxp (Cxp.emit [.gangSync tick])).sendGangMsg tick none)) ∧
  (∀ ns tb s session tag a, inRatings s → s.gang.joining = .listening session tag → s.atTick (ns / 10) = a →
    exec (.gangSyncReceived ns tb) s = .next
      ((a.onGang (fun g => { g with joining := .requested session tag })).onCxp (Cxp.emit [.gangJoin a.joinRequest]))) ∧
  (∀ ns tb s, inRatings s → s.gang.joining = .none → s.gang.state ≠ 0 → (s.atTick (ns / 10)).leads = false →
    exec (.gangSyncReceived ns tb) s = .next ((s.atTick (ns / 10)).syncMeasured ns tb)) ∧
  (∀ m s, inRatings s → s.gang.joining = .none → s.gang.state ≠ 0 → m.leader = true → s.leads = false →
    exec (.gangMessage m) s = .next (s.leaderMessage m)) ∧
  (∀ m s, inRatings s → s.gang.joining = .none → s.gang.state ≠ 0 → m.leader = false →
    exec (.gangMessage m) s = .next (s.memberMessage m)) ∧
  (∀ m s session tag k, inRatings s → s.gang.joining = .requested session tag → m.reply = some k → m.leader = true →
    exec (.gangMessage m) s = .next (if k = 0 then s.admitted m else (s.joinEnds stState k).gangOut)) ∧
  (∀ r s k, inRatings s → s.leads = true → s.gang.state ≠ 0 → r.compat = s.fwCompat → s.joinReason r = k →
    exec (.gangJoinRequest r) s = .next ((if k = 0 then s.admitMember r else s).sendGangMsg s.tb.now (some k))) ∧
  (∀ s session tag, inRatings s → s.gang.joining = .listening session tag → (s.rd.isArmed = false ∨ s.rd.forCal = true) →
    exec .gangJoinListenEnd s = .next ((s.onGang (fun g => { g with
      state := 1
      leader := s.trig.gangId
      present := 2 ^ s.trig.gangId
      agree := 2 ^ s.trig.gangId
      differs := 0
      leaderState := 1 })).joinEnds stOk 0)) ∧
  (∀ s st, inRatings s → s.gang.joining = .aligning st → s.gang.offset.natAbs ≤ 40 →
    exec .gangJoinerAligned s = .next
      ((s.onGang (fun g => { g with joining := .none, agree := g.agree ||| s.ownBit })).gangFollows st)) ∧
  (∀ tick s, inRatings s → 2 ≤ s.gang.state → s.leads = false →
    exec (.gangStartPulse tick) s = .next ((s.atTick tick).gangStarted (s.startStamp tick))) ∧
  (∀ id s, inRatings s → s.leads = true → id ≠ s.trig.gangId → s.gang.present.testBit id = true →
    exec (.gangAckMissing id) s = .next ((s.onGang (Gang.drop id)).disagree 0x05 id 0).gangSettles) ∧
  (∀ s, inRatings s → s.gang.state ≠ 0 → s.leads = false → exec .gangSyncMissing s = .next s.leaderLost) ∧
  (∀ s fast, inRatings s → s.gang.slew = some fast → s.tb.running = true →
    exec .gangSlewPeriod s = .next (s.tbAdjust (if fast then 2 else 0) 1)) ∧
  (∀ id ns s, inRatings s → s.leads = true → id < 8 → s.gang.present.testBit id = true →
    exec (.gangAckReceived id ns) s = .next (s.onGang (fun g =>
      { g with memberDelays := g.memberDelays.modify id (fun _ => roundDiv (ns - 400 - 200 * id) 2) }))) ∧
  (∀ tick s, inRatings s → s.leads = true → s.gang.state = 3 → s.gang.toArmed = false → s.rd.isArmed = true →
    s.rd.forCal = false → (s.trig.cfg.source = 0 ∨ s.trig.cfg.source = 7) →
    exec (.gangFreeRunStart tick) s = .next
      (((s.atTick tick).acceptStart ((s.gang.lastStart.map (· + s.rd.period)).getD tick)).onGang
        (fun g => { g with lastStart := some ((s.gang.lastStart.map (· + s.rd.period)).getD tick) })))

/-- The events of the start, of BOOT_OK and of the wake complete (R115, R118, R136, R140, R145, R146, R155, R158,
R163, R189, R265, R938). -/
def Obligations.BringUpEventsComplete : Prop :=
  (∀ mv s, 19000 ≤ mv → s.pwr.mode = .off → s.rstc.waiting = .none →
    exec (.vlink0Qualified mv) s = .next ((s.onPwr (fun p => { p with vlink0 := mv }.shares)).powerOnReset 0)) ∧
  (∀ mv s a, 19000 ≤ mv → s.pwr.mode ≠ .off → s.onPwr (fun p => { p with vlink0 := mv }.shares) = a →
    (s.rstc.waiting = .vlinkDip → exec (.vlink0Qualified mv) s = .next (a.systemStart 0xF false false)) ∧
    (s.rstc.waiting = .rideCollapse → exec (.vlink0Qualified mv) s = .next (a.systemStart 5 false false)) ∧
    (s.rstc.waiting = .clkLoss → exec (.vlink0Qualified mv) s = .next (a.onRstc (fun r => { r with waiting := .none })).tryBegin)) ∧
  (∀ i s, inRatings s → s.stepRuns = true → [1, 3, 4, 5, 9, 12].contains s.rstc.step = true →
    exec (.releaseStepComplete i) s = .next (s.stepDone s.rstc.step)) ∧
  (∀ i s, inRatings s → s.stepRuns = true → s.rstc.step = 6 → 2 ≤ phasesIn (i.phases % 16) →
    exec (.releaseStepComplete i) s = .next ((s.phasesTested i.phases).stepDone 6)) ∧
  (∀ i s, inRatings s → s.stepRuns = true → s.rstc.step = 7 →
    exec (.releaseStepComplete i) s = .next ((s.optionLoad i.straps).stepDone 7)) ∧
  (∀ i s, inRatings s → s.stepRuns = true → s.rstc.step = 8 → exec (.releaseStepComplete i) s = .next (s.pllLocked.stepDone 8)) ∧
  (∀ i s, inRatings s → s.stepRuns = true → s.rstc.step = 10 → exec (.releaseStepComplete i) s = .next (s.startCore s.imageToRun)) ∧
  (∀ i s, inRatings s → s.stepRuns = true → s.rstc.step = 15 → s.rstc.order = .rideReturn →
    exec (.releaseStepComplete i) s = .next s.rideReturned) ∧
  (∀ s, inRatings s → s.rstc.order ≠ .none → s.rstc.inGap = true → s.pwr.walk = .none → s.rstc.resetnLow = false →
    exec .releaseGapExpiry s = .next (s.stepNext s.rstc.step)) ∧
  (∀ s, inRatings s → s.stepRuns = true → s.rstc.step < 10 → exec .releaseStepLimitExpiry s = .next s.stepFails) ∧
  (∀ s, inRatings s → s.rstc.order ≠ .none → s.rstc.backoff = true → s.rstc.resetnLow = false →
    exec .stepRetryBackoffExpiry s = .next s.retry) ∧
  (∀ s, inRatings s → s.rstc.waiting = .failedStart → s.pwr.walk = .none →
    exec .failedStartWaitExpiry s = .next (s.systemStart 5 false false)) ∧
  (∀ s, inRatings s → s.bootable = true → exec .bootOk s = .next s.postBoot) ∧
  (∀ s, coreActs s = true → s.rstc.bootOk = false → s.pwr.mode ≠ .ledge →
    exec .bootTimeout s = .next ((s.count 4).systemReset 9 false)) ∧
  (∀ s, inRatings s → s.rstc.coreUp = true → s.rstc.outage = true → exec .coreOutageEnd s = .next s.outageEnds) ∧
  (∀ ticks s, inRatings s → (s.pwr.mode = .keep ∨ s.pwr.mode = .keepWarm) → s.rstc.wakeArmed = true → s.rstc.order = .none →
    s.pwr.walk = .none → exec (.wakeQualified ticks) s = .next (s.wakeStarts ticks)) ∧
  (∀ s, inRatings s → exec .wakeDetectorRearm s = .next (s.onRstc (fun r => { r with wakeArmed := true })))

/-- RESETN, the loss of a clock and the compensation complete (R129, R130, R132, R254, R258, R259, R262, R263, R818).
-/
def Obligations.ResetPinAndClocksComplete : Prop :=
  (∀ w s, s.rstc.resetnLow = false → 2200 ≤ w →
    exec (.resetnAssert w) s = .next
      ((({ s with freeCtr := s.freeCtr + 1 } : State).onRstc (fun r => { r with resetnLow := true })).systemReset 2 false)) ∧
  (∀ w s, s.rstc.resetnLow = false → w < 2000 → exec (.resetnAssert w) s = .next { s with freeCtr := s.freeCtr + 1 }) ∧
  (∀ s, exec .resetnRelease s = .next (s.onRstc (fun r => { r with resetnLow := false })).tryBegin) ∧
  (∀ w s, inRatings s → 2000 ≤ w → 8 ≤ s.rstc.rails → s.pwr.mode ≠ .powerDown →
    exec (.pllLockLoss w) s = .next (s.systemReset 3 false)) ∧
  (∀ n s, inRatings s → (n < 17 ∨ 33 < n) → s.clockWatched = true → s.pwr.mode ≠ .powerDown →
    exec (.clockMonitorWindow n) s = .next (s.systemReset 3 false)) ∧
  (∀ w s, inRatings s → 2000 ≤ w → 8 ≤ s.rstc.rails → s.pwr.mode = .powerDown → exec (.pllLockLoss w) s = .next s.clockLossDown) ∧
  (∀ n s, inRatings s → (n < 17 ∨ 33 < n) → s.clockWatched = true → s.pwr.mode = .powerDown →
    exec (.clockMonitorWindow n) s = .next s.clockLossDown) ∧
  (∀ tick bias c p s, coreActs s = true → s.thm.validNow 6 = true →
    exec (.compensationUpdate tick bias c p) s = .next ((s.atTick tick).onTb (fun b =>
      { b with
        compHold := false
        target := s.compTarget
        corr := if b.firstComp then s.compTarget else b.corr + clamp (-5) 5 (s.compTarget - b.corr)
        firstComp := false
        biasTrim := if s.thm.validNow 1 then bias else b.biasTrim
        cdieTrim := c
        pdieTrim := if s.thm.validNow 7 then p else b.pdieTrim }))) ∧
  (∀ n s, inRatings s → 3 ≤ s.rstc.rails → exec (.aonTrim n) s = .next (s.onTb (fun b => { b with aonTrim := n, aonCal := true })))

/-- The events of the supplies, the walk down and the rails complete (R67, R68, R69, R73, R136, R147, R180, R184,
R186, R188, R189, R216). -/
def Obligations.SuppliesAndRailsComplete : Prop :=
  (∀ mv s, inRatings s → exec (.vlink1Rise mv) s = .next (s.onPwr (fun p =>
    { p with vlink1 := mv, share := supplyOk p.vlink0 && supplyOk mv }))) ∧
  (∀ s, inRatings s → 18000 ≤ s.pwr.vlink1 → ∃ v, v < 18000 ∧ exec (.linkSupplyLost 0) s = .next
    { s with freeCtr := s.freeCtr + 1, pwr := { s.pwr with vlink0 := v, share := false } }) ∧
  (∀ s, inRatings s → 18000 ≤ s.pwr.vlink0 → ∃ v, v < 18000 ∧ exec (.linkSupplyLost 1) s = .next
    { s with freeCtr := s.freeCtr + 1, pwr := { s.pwr with vlink1 := v, share := false } }) ∧
  (∀ s, inRatings s → exec .powerdownStepComplete s = .next s.walkStepDone) ∧
  (∀ rail s, inRatings s → s.pwr.walk ≠ .none → (walkRails s.pwr.walkStep).contains rail = true →
    exec (.powerdownStepLimitExpiry rail) s = .next (s.downRecord 2 rail).walkStepDone) ∧
  (∀ rail s, inRatings s → [2, 4, 5, 6, 12, 13].contains rail = true → (if rail = 13 then 12 else rail) ≤ s.rstc.rails →
    exec (.railCollapse rail) s = .next (s.collapse rail)) ∧
  (∀ s, inRatings s → s.rstc.waiting = .railFault → 18000 ≤ s.pwr.vlink →
    exec .railFaultRestart s = .next (s.systemStart 5 false false)) ∧
  (∀ s, inRatings s → s.pwr.mode = .bringUp → (s.rstc.waiting = .none ∨ s.rstc.waiting = .failedStart) →
    exec .vlinkDipBringup s = .next ((((s.supplyGone).diesOff).onRstc (fun r => { r with
        rails := if r.order = .none then r.rails else max r.rails r.step
        order := .none
        waiting := .vlinkDip })).walkFrom .failedStep 2)) ∧
  (∀ s, inRatings s → s.pwr.vlink < 18000 → 6 ≤ s.rstc.rails → ∃ v, v < 12000 ∧ exec .vholdBelowVmin s = .next
    { s.powerLost with freeCtr := s.freeCtr + 1, pwr := { s.powerLost.pwr with vhold := v } }) ∧
  (∀ s, inRatings s → s.rstc.waiting ≠ .none → exec .aonPowerLoss s = .next
    { s.powerLost with
      aon := Aon.reset
      pwr := { s.powerLost.pwr with downFault := { valid := false, kind := 0, step := 0, order := 0, rail := 0 } }
      thm := { s.powerLost.thm with shutdowns := 0, tripValid := false, tripSensor := 0 } })

/-- Entry to Ride-through, the return of VLINK, the retry timer and the energy reserve complete (R194, R195, R197,
R205, R206, R207, R208, R209, R210, R214). -/
def Obligations.RideThroughEventsComplete : Prop :=
  (∀ vhold tick s, inRatings s → s.rideOpen = true →
    exec (.rideThroughEntry vhold tick) s = .next ((s.atTick tick).rideEntered vhold (s.instant tick))) ∧
  (∀ mv0 mv1 vhold tick s a, inRatings s → 19000 ≤ max mv0 mv1 → s.pwr.mode = .ride → s.rstc.order = .none →
    (s.atTick tick).onPwr (fun p => { p with vlink0 := mv0, vlink1 := mv1, vhold := vhold }.shares) = a →
    exec (.vlinkReturn mv0 mv1 vhold tick) s = .next
      (if s.pwr.rideDue / 100 ≤ s.instant tick / 100 ∨ a.pwr.reserved = true then a.rideExpires (s.instant tick) else a.rideReturns (s.instant tick))) ∧
  (∀ vhold tick s, inRatings s → s.pwr.mode = .ride → s.rstc.order = .none → s.pwr.rideDue ≤ s.instant tick →
    exec (.rideRetryExpiry vhold tick) s = .next
      (((s.atTick tick).onPwr (fun p => { p with vhold := vhold })).rideExpires (s.instant tick))) ∧
  (∀ vhold tick s a, inRatings s → s.pwr.mode = .ride → s.rstc.order = .none →
    (s.atTick tick).onPwr (fun p => { p with vhold := vhold }) = a →
    exec (.rideEnergyReserve vhold tick) s = .next (if a.pwr.reserved then a.rideExpires (s.instant tick) else a))

/-- Phase faults, converter steps and the hold-up measurement complete (R222, R223, R236, R237, R238, R239, R247,
R249). -/
def Obligations.ConverterAndHoldupComplete : Prop :=
  (∀ phase kind s u n, inRatings s → phase < 4 → s.pwr.healthy.testBit phase = true → 6 ≤ s.rstc.rails →
    s.onPwr (Pwr.phaseGone phase kind) = u → phasesIn u.pwr.healthy = n →
    exec (.phaseFault phase kind) s = .next
      (((((u.logEntry 0x0006 [BitVec.ofNat 8 phase, BitVec.ofNat 8 kind, BitVec.ofNat 8 n]).count 9).raise 0x0E
        [BitVec.ofNat 8 phase, BitVec.ofNat 8 kind, BitVec.ofNat 8 n, BitVec.ofNat 8 s.level]).phaseAct n))) ∧
  (∀ ma s, inRatings s → phasesIn s.pwr.healthy = 3 → 7500 < ma → s.pwr.convStep = 0 → 6 ≤ s.rstc.rails →
    exec (.converterOverload ma) s = .next (s.convDemand 1)) ∧
  (∀ ma s, inRatings s → phasesIn s.pwr.healthy = 3 → 7500 < ma → 0 < s.pwr.convStep → s.pwr.convStep < 3 →
    exec (.converterStepTimer ma) s = .next (s.convDemand (s.pwr.convStep + 1))) ∧
  (∀ vhold drop s, inRatings s → 6000 ≤ vhold → 18000 ≤ s.pwr.vlink → s.rstc.coreUp = true →
    (s.rstc.order = .none ∨ 11 ≤ s.rstc.step) → s.pwr.mode ≠ .ledge →
    exec (.holdupMeasurementStart vhold drop) s = .next (s.onPwr (fun p => { p with vhold := vhold, measuring := some drop }))) ∧
  (∀ delta drop s, inRatings s → s.pwr.measuring = some drop → 0 < delta → roundDiv 1000000000 delta ≤ 0xFFFF →
    exec (.holdupMeasurementEnd delta) s = .next
      { s with
        freeCtr := s.freeCtr + 1
        pwr := { s.pwr with
          measuring := none
          cmeas := roundDiv 1000000000 delta
          cmeasValid := true
          esr := min 0xFF (roundDiv drop 250) } })

/-- Thermal samples, the level timers, the trip and the restart complete (R812, R813, R815, R816, R817, R823, R824,
R833, R834, R835, R836, R837). -/
def Obligations.ThermalEventsComplete : Prop :=
  (∀ temps tick s a, coreActs s = true →
    ((s.atTick tick).driftSample).thermalSampled temps = a →
    exec (.thermalSample temps tick) s = .next (if a.thm.highest.isNone then a else a.warnStep.raiseDue)) ∧
  (∀ tick s, coreActs s = true → 0 < s.thm.level → exec (.thermalRaiseTimer tick) s = .next (s.atTick tick).raiseDue) ∧
  (∀ tick s, coreActs s = true → 0 < s.thm.level → s.thm.max < 8768 →
    exec (.thermalLowerTimer tick) s = .next (s.atTick tick).thermalLowered) ∧
  (∀ s, coreActs s = true → s.thm.max < 8768 → exec .fastSamplingEnd s = .next (s.onThm (fun x => { x with fast := false }))) ∧
  (∀ n s, inRatings s → 0 < n → n < 9 → s.rstc.sensorPowered n = true → s.rstc.waiting ≠ .thermal →
    exec (.thermalTrip n) s = .next (((s.aonWait .thermal).onRstc (fun r => { r with tripVio := s.rstc.vioUp })).onThm (fun x => { x with
        shutdowns := satAdd 0xFF x.shutdowns 1
        tripValid := true
        tripSensor := n }))) ∧
  (∀ t7 t8 s, inRatings s → s.rstc.waiting = .thermal → s.pwr.walk = .none → t7 < 7808 → t8 < 7808 → 19000 ≤ s.pwr.vlink0 →
    exec (.thermalRestart t7 t8) s = .next (s.systemStart 4 false false))

/-- The frame-start slot, S_0, a row, the Sieve, the reload and its event complete (R296, R297, R300, R331, R352,
R396, R397, R417, R423, R424, R427, R430). -/
def Obligations.ReadoutEventsComplete : Prop :=
  (∀ s, inRatings s → s.rd.isArmed = true → s.rd.slot = none → exec .frameStartSlot s = .next s.slotBegins) ∧
  (∀ tick code valid s a s0 x n, inRatings s → s.rd.isArmed = true → s.haul.running = true → s.rd.next = none →
    (if s.rd.slot.isNone then s.slotBegins else s) = a → a.dueFrame tick = some (s0, x, n) →
    exec (.frameS0 tick code valid) s = .next ((((a.atTick s0).fpaLatch code valid).driftSample).frameBegins s0 x n)) ∧
  (∀ r s, inRatings s → s.rd.isArmed = true → s.rd.frameOpen = true → s.haul.running = true → r.row = s.rd.rowAt s.rd.rowsDone →
    exec (.haulRowReceived r) s = .next ((s.atTick r.tick).rowIn r)) ∧
  (∀ corrected doubles s, inRatings s → s.holdsCoefficients = true →
    exec (.sievePassStart corrected doubles) s = .next (s.onPipe (Pipe.sieve corrected doubles))) ∧
  (∀ s n b l, inRatings s → s.holdsCoefficients = true → s.pipe.queue = (n, b) :: l → s.reloadFails n = false →
    exec .recordReload s = .next (s.onPipe (fun p =>
      { p with queue := p.queue.tail, csto := p.csto.set n (recLost (s.flashSet.store.get n)) }))) ∧
  (∀ s n b l, inRatings s → s.holdsCoefficients = true → s.pipe.queue = (n, b) :: l → s.reloadFails n = true →
    exec .recordReload s = .next ((s.onPipe (fun p => { p with
      queue := p.queue.tail
      failedRecs := p.failedRecs ++ [n]
      ueIndex := n
      ueByPipe := b
      ueReloadFailed := true
      ueDue := true })).logEntry 0x0010 (le 4 n))) ∧
  (∀ s, inRatings s → s.pipe.ueDue = true → (∀ t, s.pipe.ueLast = some t → t + 1000000 ≤ s.tb.now) →
    exec .scrubUeEventTimer s = .next ((s.raise 0x15 s.pipe.ueData).onPipe (fun p =>
      { p with ueSince := 0, ueDue := false, ueLast := some s.tb.now })))

/-- The loss of a lane, the alarm and the end of a training of the Haul link complete (R360, R361, R362, R363, R369,
R370, R371, R372, R373, R375, R384, R387). -/
def Obligations.HaulEventsComplete : Prop :=
  (∀ lane s, inRatings s → s.haul.running = true → s.haul.lanesUp.testBit lane = true →
    exec (.laneBlockLockLoss lane) s = .next
      ((((s.onHaul (Haul.lockLost lane)).stopReadout stFailAborted).convFrameEnd).onHaul (Haul.train 3))) ∧
  (∀ s a, inRatings s → s.haul.running = true → s.onHaul (fun h => { h with alarm := true }) = a →
    exec .haulAlmRise s = .next (((a.stopReadout stFailAborted).convFrameEnd).onHaul (fun h =>
      { h with state := 1, lanesUp := 0, training := 3, almWait := true }))) ∧
  (∀ s, inRatings s → s.haul.almWait = true →
    exec .haulAlmFall s = .next ((s.onHaul (fun h => { h with alarm := false })).onHaul (Haul.train 3))) ∧
  (∀ s, inRatings s → s.haul.almWait = true →
    exec .haulAlmTimeout s = .next
      (((s.adcCalEnds stFailAborted 0).sensorCycled).onHaul (fun h => { h.train 3 with lanesFailed := 0, barred := 0 }))) ∧
  (∀ lanes latency s up, inRatings s → s.haul.training = 3 →
    s.haul.lanesUp ||| (trainedMask lanes &&& (15 - (s.haul.barred &&& 15))) = up →
    exec (.haulTrainingEnd lanes latency) s = .next
      ((((s.onHaul (Haul.settled up latency)).onHaul (fun x => { x with retrains := satAdd 0xFF x.retrains 1 })).unitEvent 1 2).gangRowTime)) ∧
  (∀ lanes latency s up, inRatings s → s.haul.training = 2 →
    s.haul.lanesUp ||| (trainedMask lanes &&& (15 - (s.haul.barred &&& 15))) = up →
    exec (.haulTrainingEnd lanes latency) s = .next (((s.onHaul (Haul.settled up latency)).gangRowTime).unitDone)) ∧
  (∀ lanes latency s up, inRatings s → s.haul.training = 1 → s.stepRuns = true → s.rstc.step = 14 →
    s.haul.lanesUp ||| (trainedMask lanes &&& (15 - (s.haul.barred &&& 15))) = up → up &&& 15 = 15 →
    exec (.haulTrainingEnd lanes latency) s = .next (((s.onHaul (Haul.settled up latency)).gangRowTime).stepDone 14))

/-- A step takes the command at the front of the queue and runs it on the state with the queue's rest
(12_command_catalogue). -/
def Obligations.StepRunsTheFrontCommand : Prop :=
  (∀ c rest (s : State), step { s with pending := c :: rest } = exec c { s with pending := rest }) ∧
  (∀ s, s.pending = [] → ∃ t, step s = .next t ∧ t.pending = [])

/-- What the state after a POWER-ON holds (R36, R47, R268, R349, R482, R554, R557, R695, R849, R946). -/
def Obligations.ResetState : Prop :=
  State.reset.pwr.mode = .bringUp ∧ inRatings State.reset ∧ State.reset.tb.now = 0 ∧
  (∀ x ∈ State.reset.sess.list, x.opened = false) ∧ (∀ x ∈ State.reset.streams, x.opened = false) ∧
  State.reset.enc.errCount = 0 ∧ State.reset.trig.early = 0 ∧ State.reset.trig.accepted = 0 ∧
  (∀ a, cellGet State.reset.psto.mem a = 0xFF#8) ∧ storeCanonical State.reset ∧ State.reset.cal.drift.bound = 150 ∧
  State.reset.pending = []

/-- Every step keeps the canonical form of the parameter store's user area (R849, R853, R868, R881). -/
def Obligations.StoreStaysCanonical : Prop :=
  ∀ s t, storeCanonical s → step s = .next t → storeCanonical t

/-- No step unblows a fuse (R949, R950, R952, R953). -/
def Obligations.BlownFusesStay : Prop :=
  ∀ s t, step s = .next t → keepsFuses s.fuse t.fuse

/-- No command touches the queue of the commands that wait behind it (R504, R554). -/
def Obligations.CommandsLeaveTheQueueAlone : Prop :=
  ∀ c s t, exec c s = .next t → t.pending = s.pending

/-- A command stops only while the module is outside its ratings, and none is refused (R3, R4, R946). -/
def Obligations.StopsOnlyOutsideTheRatings : Prop :=
  (∀ c s r, exec c s ≠ .refused r) ∧
  (∀ c s f, exec c s = .fault f → f = .outsideRatings ∧ ¬ inRatings s) ∧
  (∀ c s, inRatings s → ∃ t, exec c s = .next t)

/-- With a CPR the encoder's position stays below it, without one below 2^32 (R655). -/
def Obligations.EncoderStaysInTurn : Prop :=
  (∀ c s t, ((∃ a n, c = .encLegalTransition a n) ∨ (∃ n, c = .encIllegalTransition n) ∨ c = .encLost ∨ (∃ n, c = .encIndex n) ∨
      (∃ h p, c = .encConfig h p ∧ p.preset < 2 ^ 32)) →
    inTurn s.enc → (s.enc.cfg.cpr = 0 → s.enc.position < 2 ^ 32) → exec c s = .next t →
    inTurn t.enc ∧ (t.enc.cfg.cpr = 0 → t.enc.position < 2 ^ 32)) ∧
  (∀ lineA tick s t, s.enc.cfg.mode ≠ 0 → s.enc.forward lineA = true → exec (.encLegalTransition lineA tick) s = .next t →
    (s.enc.cfg.cpr ≠ 0 → s.enc.position = s.enc.cfg.cpr - 1 → t.enc.position = 0) ∧
    (s.enc.cfg.cpr = 0 → t.enc.position = (s.enc.position + 1) % 2 ^ 32)) ∧
  (∀ lineA tick s t, s.enc.cfg.mode ≠ 0 → s.enc.forward lineA = false → exec (.encLegalTransition lineA tick) s = .next t →
    s.enc.cfg.cpr = 0 → t.enc.position = (s.enc.position + 2 ^ 32 - 1) % 2 ^ 32)

/-- In a session that is not open, every served command but PING and SESSION_OPEN is answered REFUSED_STATE (R543,
R544, R559). -/
def Obligations.ClosedSessionsRefused : Prop :=
  (∀ c h op s, served c = some (h, op) → inRatings s → cameIn h op s = .take false → h.cls ≠ 3 →
    (h.urgent && !urgentPath op) = false → ((acting h op s).sess.get h.session).opened = false → op ≠ 0x00 → op ≠ 0x01 →
    exec c s = .next ((acting h op s).answer h op stState [])) ∧
  (∀ c h op s dup, served c = some (h, op) → inRatings s → cameIn h op s = .take dup →
    (h.cls = 3 ∨ dup = true ∨ (h.urgent && !urgentPath op) = true) →
    exec c s = .next ((acting h op s).answer h op stErrParam []))

/-- A command from a session below its opcode's tier has no effect; it is answered ERR_PARAM or REFUSED_PRIVILEGE
(R561, R543, R544, R567). -/
def Obligations.TierGuards : Prop :=
  (∀ c h op s dup, served c = some (h, op) → inRatings s → cameIn h op s = .take dup →
    ((acting h op s).sess.get h.session).opened = true →
    requiredTier h op c < ((acting h op s).sess.get h.session).tier →
    ∃ st res, exec c s = .next ((acting h op s).answer h op st res) ∧
      ((st = stErrParam) ∨ (st = stPrivilege ∧ res = [BitVec.ofNat 8 (requiredTier h op c),
        BitVec.ofNat 8 ((acting h op s).sess.get h.session).tier, 0, 0]))) ∧
  (∀ (g : Gate) h op dup (a : State), (a.sess.get h.session).tier ≤ g.tier →
    (∀ st, g.state = some st → st ≠ stPrivilege) → ∀ res, verdict h op dup g a ≠ some (stPrivilege, res))

/-- A command beyond the in-flight bounds is refused, one that must wait its turn is queued (R548, R551, R113, R504,
R554). -/
def Obligations.MailboxBounds : Prop :=
  (∀ c h op s, served c = some (h, op) → inRatings s → cameIn h op s = .busy →
    exec c s = .next ((s.atTick h.tick).refuseBusy h op)) ∧
  (∀ c h op s, served c = some (h, op) → inRatings s → cameIn h op s = .queue →
    exec c s = .next ((s.atTick h.tick).enqueue h op c)) ∧
  (∀ c h op s, served c = some (h, op) → inRatings s → (cameIn h op s = .lost ∨ cameIn h op s = .wait) →
    exec c s = .next (s.atTick h.tick)) ∧
  (∀ h op s, s.sess.flights.any (Flight.queuedAs h op) = false → s.cxp.up0 = true →
    (slotted h op = true → s.sess.slotBusy h.session = true → op ≠ 0x0E → cameIn h op s = .busy) ∧
    (slotted h op = false → (8 ≤ s.sess.inflight h.session ∨ s.sess.free = 0) → cameIn h op s = .busy) ∧
    (slotted h op = false → s.sess.inflight h.session < 8 → s.sess.free ≠ 0 → op ≠ 0x0E →
      (s.coreServes = false ∨ s.sess.heads ≠ []) → cameIn h op s = .queue)) ∧
  (∀ h s, cameIn h 0x0E s ≠ .queue ∧ cameIn h 0x0E s ≠ .wait)

/-- The querying commands change nothing in the module but their own traffic (R14, R275, R597, R598, R611, R621, R622,
R627, R629, R630, R503). -/
def Obligations.QueriesOnlyAnswer : Prop :=
  ∀ c s t, ((∃ h b, c = .ping h b) ∨ (∃ h, c = .statusGet h) ∨ (∃ h, c = .timeGet h) ∨ (∃ h ch, c = .actDiagGet h ch) ∨
      (∃ h first count, c = .coeffRead h first count) ∨ (∃ h, c = .counterGet h) ∨ (∃ h first count, c = .logRead h first count) ∨
      (∃ h, c = .gangStatus h) ∨ (∃ h, c = .thermalGet h) ∨ (∃ h, c = .powerGet h) ∨ (∃ h, c = .fwInfo h) ∨
      (∃ h first count, c = .fuseRead h first count)) →
    exec c s = .next t → sameUnits t s ∧ plainTraffic t s

/-- Each configuration command and each register clear reaches its own unit alone (R275, R566, R602, R611, R616, R617,
R622, R625, R626, R629, R634, R698). -/
def Obligations.CommandFrames : Prop :=
  (∀ h p s t, exec (.encConfig h p) s = .next t → { beside t s with enc := s.enc } = s) ∧
  (∀ h first es s t, exec (.angleTableLoad h first es) s = .next t → { beside t s with enc := s.enc } = s) ∧
  (∀ h v s t, exec (.encErrCountClear h v) s = .next t → { beside t s with enc := s.enc } = s) ∧
  (∀ h p s t, exec (.trigConfig h p) s = .next t → { beside t s with trig := s.trig } = s) ∧
  (∀ h v s t, exec (.trigEarlyClear h v) s = .next t → { beside t s with trig := s.trig } = s) ∧
  (∀ h members rule s t, exec (.gangConfig h members rule) s = .next t → { beside t s with gang := s.gang } = s) ∧
  (∀ h eps tr s t, exec (.radiometrySet h eps tr) s = .next t → { beside t s with pipe := s.pipe } = s) ∧
  (∀ h v s t, exec (.pipeEccClear h v) s = .next t → { beside t s with pipe := s.pipe } = s) ∧
  (∀ h q s t, exec (.qualityConfig h q) s = .next t → { beside t s with streams := s.streams } = s) ∧
  (∀ h b m s t, exec (.driftConfig h b m) s = .next t → { beside t s with cal := s.cal } = s) ∧
  (∀ h ms s t, exec (.shutterInhibit h ms) s = .next t → { beside t s with cal := s.cal } = s) ∧
  (∀ h l s t, exec (.thermalConfig h l) s = .next t → { beside t s with thm := s.thm } = s) ∧
  (∀ h v s t, exec (.thmConfigWrite h v) s = .next t → { beside t s with thm := s.thm } = s) ∧
  (∀ h ms s t, exec (.rideConfig h ms) s = .next t → { beside t s with pwr := s.pwr } = s) ∧
  (∀ h v s t, exec (.pwrRideTimerWrite h v) s = .next t → { beside t s with pwr := s.pwr } = s) ∧
  (∀ h ch c s t, exec (.actConfig h ch c) s = .next t → { beside t s with act := s.act } = s) ∧
  (∀ h q first ws s t, exec (.actProgramLoad h q first ws) s = .next t → { beside t s with act := s.act } = s) ∧
  (∀ h code s t, exec (.pstoProtect h code) s = .next t → { beside t s with psto := s.psto } = s) ∧
  (∀ h offset count s t, exec (.pstoRead h offset count) s = .next t → { beside t s with psto := s.psto } = s) ∧
  (∀ h v s t, exec (.pstoEccClear h v) s = .next t → { beside t s with psto := s.psto } = s) ∧
  (∀ h v s t, exec (.haulHdrErrClear h v) s = .next t → { beside t s with haul := s.haul } = s) ∧
  (∀ h v s t, exec (.haulCrcErrClear h v) s = .next t → { beside t s with haul := s.haul } = s) ∧
  (∀ h a n s t, exec (.regRead h a n) s = .next t → { beside t s with haul := s.haul } = s) ∧
  (∀ h v s t, exec (.causeStickyClear h v) s = .next t → { beside t s with rstc := s.rstc } = s) ∧
  (∀ h v s t, exec (.fuseBlowSelWrite h v) s = .next t → { beside t s with fuse := s.fuse } = s) ∧
  (∀ h code s t, exec (.claim h code) s = .next t → beside t s = s) ∧
  (∀ h code holder s t, exec (.release h code holder) s = .next t → beside t s = s) ∧
  (∀ h period enable s t, exec (.wdgConfig h period enable) s = .next t → beside t s = s) ∧
  (∀ h v s t, exec (.wdgHostCtrlWrite h v) s = .next t → beside t s = s) ∧
  (∀ h v s t, exec (.cxpDiscardsClear h v) s = .next t → beside t s = s) ∧
  (∀ h s t, exec (.tbaseNowLoRead h) s = .next t → beside t s = s)

/-- PSTO_WRITE stores exactly its bytes at its offset, an erase blanks exactly its sector (R621, R622, R849, R852,
R868, R869). -/
def Obligations.UserAreaBytes : Prop :=
  (∀ h offset bytes s t x, storeCanonical s → runs h 0x41 (pstoWriteGate h offset bytes) s = true →
    exec (.pstoWrite h offset bytes) s = .next t →
    cellGet t.psto.mem x = if offset ≤ x ∧ x < offset + bytes.length then bytes.getD (x - offset) 0 else cellGet s.psto.mem x) ∧
  (∀ h offset bytes s t, ((∀ dup, cameIn h 0x41 s ≠ .take dup) ∨
      (verdict h 0x41 (decide (cameIn h 0x41 s = .take true)) (pstoWriteGate h offset bytes (acting h 0x41 s)) (acting h 0x41 s)).isSome = true) →
    exec (.pstoWrite h offset bytes) s = .next t → t.psto.mem = s.psto.mem) ∧
  (∀ s t x, storeCanonical s → coreActs s = true → s.psto.erasing ≠ 0xFF → s.psto.suspended = false →
    exec .pstoSectorEraseDone s = .next t →
    cellGet t.psto.mem x = if userOffset s.psto.erasing ≤ x ∧ x < userOffset s.psto.erasing + 2048 then 0xFF#8
      else cellGet s.psto.mem x) ∧
  (∀ s t, (s.psto.erasing = 0xFF ∨ s.psto.suspended = true) → exec .pstoSectorEraseDone s = .next t → t.psto.mem = s.psto.mem)

/-- The user area and the fuses change only through the commands named for it (R950, R952, R621, R624, R868, R869,
R875). -/
def Obligations.AreaAndFusesChangeOnlySo : Prop :=
  (∀ c s t, storesUserArea c = false → exec c s = .next t → t.psto.mem = s.psto.mem) ∧
  (∀ c s t, writesBlow s c = false → exec c s = .next t → t.fuse.words = s.fuse.words) ∧
  (∀ mask (s : State), s.fuse.armed = none → (s.blow mask).fuse.words = s.fuse.words) ∧
  (∀ mask (s : State) w tick, s.fuse.armed = some (w, tick) → tick + 10000000 < s.tb.now → (s.blow mask).fuse.words = s.fuse.words) ∧
  (∀ mask (s : State) w tick k, s.fuse.armed = some (w, tick) → k ≠ w → (s.blow mask).fuse.words.getD k 0 = s.fuse.words.getD k 0)

/-- PSTO_READ returns 0xFF for every byte of a void range, and PSTO_WRITE treats its groups as not erased (R878). -/
def Obligations.VoidRangesReadErased : Prop :=
  (∀ h offset count s, runs h 0x40 (pstoReadGate offset count) s = true →
    ∃ res : List Byte, exec (.pstoRead h offset count) s = .next
      (((acting h 0x40 s).onPsto (fun p => (p.countErrors offset count).suspend)).answer h 0x40 stOk res) ∧ res.length = 4 + count ∧ res.take 4 = le 4 offset ∧
      ∀ k, k < count → s.psto.inVoid (offset + k) = true → res.getD (4 + k) 0 = 0xFF#8) ∧
  (∀ h offset bytes s a g, acting h 0x41 s = a → inRatings s → cameIn h 0x41 s = .take false →
    reachesState h 0x41 (pstoWriteGate h offset bytes a) a = true → stateGate 0x41 a = none →
    offset + bytes.length ≤ protectFrom a.psto.protect → g ∈ groupsOf offset bytes.length → a.psto.inVoid (8 * g) = true →
    exec (.pstoWrite h offset bytes) s = .next (a.answer h 0x41 stState []))

/-- MODE_SET, READOUT_CONFIG, ADC_CAL and the image commands are refused with REFUSED_STATE while what they would
change is in use (R37, R305, R323, R632). -/
def Obligations.RefusedWhileInUse : Prop :=
  (∀ h mode s a, acting h 0x0A s = a → inRatings s → cameIn h 0x0A s = .take false → reachesState h 0x0A (modeSetGate mode a) a = true →
    a.runningStreams ≠ [] → exec (.modeSet h mode) s = .next (a.answer h 0x0A stState [])) ∧
  (∀ h p s a, acting h 0x15 s = a → inRatings s → cameIn h 0x15 s = .take false → reachesState h 0x15 (configGate h p a) a = true →
    stateGate 0x15 a ≠ some stRecall → (a.rd.state = .armed ∨ a.rd.state = .running) →
    ((configTarget p a.rd.cfg).rt ≠ a.rd.rt ∨ (configTarget p a.rd.cfg).start ≠ a.rd.start ∨ (configTarget p a.rd.cfg).count ≠ a.rd.count ∨
      (configTarget p a.rd.cfg).gain ≠ a.rd.gain) →
    exec (.readoutConfig h p) s = .next (a.answer h 0x15 stState [])) ∧
  (∀ h s a, acting h 0x20 s = a → inRatings s → cameIn h 0x20 s = .take false → reachesState h 0x20 (adcCalGate h a) a = true →
    stateGate 0x20 a ≠ some stRecall → (a.runningStreams ≠ [] ∨ a.rd.state = .armed ∨ a.rd.state = .running) →
    exec (.adcCal h) s = .next (a.answer h 0x20 stState [])) ∧
  (∀ h image offset bytes s a, acting h 0x71 s = a → inRatings s → cameIn h 0x71 s = .take false →
    reachesState h 0x71 (fwWriteGate image offset bytes a) a = true → image = a.cfl.running →
    exec (.fwWrite h image offset bytes) s = .next (a.answer h 0x71 stState [])) ∧
  (∀ h image s a, acting h 0x72 s = a → inRatings s → cameIn h 0x72 s = .take false →
    reachesState h 0x72 (fwVerifyGate image a) a = true → image = a.cfl.running →
    exec (.fwVerify h image) s = .next (a.answer h 0x72 stState [])) ∧
  (∀ h image later s a, acting h 0x73 s = a → inRatings s → cameIn h 0x73 s = .take false →
    reachesState h 0x73 (fwActivateGate image later a) a = true → image = a.cfl.running →
    exec (.fwActivate h image later) s = .next (a.answer h 0x73 stState []))

/-- A row-aligned start gets the first grid instant from t + 35 ticks on; one before S_prev + P is counted as early
and starts nothing (R644, R648). -/
def Obligations.RowAlignedStarts : Prop :=
  (∀ t (s : State), s.trig.cfg.mode = 0 → s.gang.state < 2 → 0 < s.rd.rt →
    ∃ g k, g = (if s.rd.anyFrame then s.rd.sPrev else s.rd.gridOrigin) ∧ s.placeStart t = g + k * s.rd.rt ∧ t + 35 ≤ s.placeStart t ∧
      ∀ j, t + 35 ≤ g + j * s.rd.rt → s.placeStart t ≤ g + j * s.rd.rt) ∧
  (∀ t (s : State) p, s.rd.previous = some p → s.placeStart t < p + s.rd.period →
    s.acceptStart t = { s with trig := { s.trig with early := min 0xFF (s.trig.early + 1) } }) ∧
  (∀ pad tick s a, inRatings s → pad ≤ 3 → s.trig.isInput pad = true → s.trig.cfg.edge = 0 → s.trig.cfg.source = pad + 1 →
    s.trig.cfg.mode = 0 → s.gang.state < 2 → s.rd.isArmed = true → s.rd.forCal = false → s.rd.throttled = false →
    (s.atTick tick).onTrig (fun x => { x with levels := maskMerge (2 ^ pad) (2 ^ pad) x.levels }) = a →
    (∀ p, s.rd.previous = some p → p + s.rd.period ≤ a.placeStart tick) →
    exec (.trigEdge pad true tick) s = .next
      (((a.onRd (fun r => { r with nextS0 := some (a.placeStart tick, tick, r.frameNumber), skipNext := false })).onTrig
        (fun x => { x with accepted := (x.accepted + 1) % 0x10000 })).releaseSchedules (fun x => x.ref = 1) tick)) ∧
  (∀ pad tick s a p, inRatings s → pad ≤ 3 → s.trig.isInput pad = true → s.trig.cfg.edge = 0 → s.trig.cfg.source = pad + 1 →
    s.gang.state < 2 → s.rd.isArmed = true → s.rd.forCal = false →
    (s.atTick tick).onTrig (fun x => { x with levels := maskMerge (2 ^ pad) (2 ^ pad) x.levels }) = a →
    s.rd.previous = some p → a.placeStart tick < p + s.rd.period →
    exec (.trigEdge pad true tick) s = .next (a.onTrig (fun x => { x with early := min 0xFF (x.early + 1) })))

/-- Each compensation update moves the applied correction toward the target by at most 0.05 ppm (R255). -/
def Obligations.CompensationSteps : Prop :=
  (∀ target tick bias cdie pdie s, inRatings s → s.coreServes = true → s.thm.validNow 6 = true → s.tb.firstComp = false →
    s.compTarget = target →
    ∃ t, exec (.compensationUpdate tick bias cdie pdie) s = .next t ∧ { t with tb := s.tb } = s ∧ t.tb.target = target ∧
      (s.tb.corr ≤ target → s.tb.corr ≤ t.tb.corr ∧ t.tb.corr ≤ target ∧ t.tb.corr - s.tb.corr ≤ 5) ∧
      (target ≤ s.tb.corr → t.tb.corr ≤ s.tb.corr ∧ target ≤ t.tb.corr ∧ s.tb.corr - t.tb.corr ≤ 5) ∧
      (target - s.tb.corr ≤ 5 → s.tb.corr - target ≤ 5 → t.tb.corr = target)) ∧
  (∀ tick bias cdie pdie s, inRatings s → s.coreServes = true → s.thm.validNow 6 = true → s.tb.firstComp = true →
    ∃ t, exec (.compensationUpdate tick bias cdie pdie) s = .next t ∧ t.tb.corr = s.compTarget ∧ t.tb.firstComp = false) ∧
  (∀ tick bias cdie pdie s, inRatings s → (s.coreServes = false ∨ s.thm.validNow 6 = false) →
    ∃ t, exec (.compensationUpdate tick bias cdie pdie) s = .next t ∧ t.tb.corr = s.tb.corr ∧ t.tb.target = s.tb.target)

/-- Events raised while link 0 is down are held in order, the newest 16 of them; the first delivered carries the
overflow mark (R45, R46, R513, R541). -/
def Obligations.EventsHeldInOrder : Prop :=
  (∀ (es : List Event) (s : State), s.cxp.up0 = false → s.aon.events.length ≤ 16 →
    ∃ t, es.foldl (fun u e => u.raiseEv e) s = t ∧ { t with aon := s.aon } = s ∧
      t.aon.events = (s.aon.events ++ es.map (fun e => ({ ev := e, due := none } : HeldEv))).drop (s.aon.events.length + es.length - 16) ∧
      t.aon.overflow = (s.aon.overflow || decide (16 < s.aon.events.length + es.length))) ∧
  (∀ e (s : State), s.cxp.up0 = true → (s.raiseEv e).aon = s.aon) ∧
  (∀ s : State, s.cxp.up0 = false → s.flushHeld = s) ∧
  (∀ s : State, s.cxp.up0 = true → s.flushHeld.aon.events = s.aon.events.filterMap (HeldEv.rest s.sess)) ∧
  (∀ e (s : State), s.aon.overflow = true → (s.markOverflow e).aon.overflow = false ∧
    ∀ i (x : Session), s.sess.list[i]? = some x → (x.sees i e).isSome = true →
      (s.markOverflow e).sess.list[i]? = some { x with overflow := true })

/-- What admission lets in fits, and only open streams of a class below the request's are decimated for it, by powers
of two up to 16 (R569, R574, R575). -/
def Obligations.AdmissionDecimatesLowerClasses : Prop :=
  (∀ (x : Cxp) (l t : List Counted) (i c : Nat) (y : Counted), l[i]? = some y → admitStream x l i c = .ok t →
    x.fits t y.stream.route = true ∧ t.length = l.length ∧
      ∀ (j : Nat) (a : Counted), l[j]? = some a → ∃ k, ∃ b : Counted, t[j]? = some b ∧
        b = { a with stream := { a.stream with decim := 2 ^ k * a.stream.decim } } ∧
        (a.stream.opened = false ∨ a.stream.cls ≤ c → k = 0) ∧
        (k ≠ 0 → (∃ m, a.stream.decim = 2 ^ m) → b.stream.decim ≤ 16)) ∧
  (∀ (l : List Counted) (c i : Nat), victim l c = some i → ∃ y : Counted, l[i]? = some y ∧ y.stream.opened = true ∧ c < y.stream.cls ∧ y.stream.decim < 16 ∧
    ∀ (j : Nat) (a : Counted), l[j]? = some a → a.stream.opened = true → c < a.stream.cls → a.stream.decim < 16 →
      a.stream.cls < y.stream.cls ∨ (a.stream.cls = y.stream.cls ∧ a.stream.admitSeq ≤ y.stream.admitSeq))

/-- An index while LOST brings the position back to Z_REF and ends LOST; only the encoder changes (R660, R661, R658,
R699). -/
def Obligations.IndexRestoresTheReference : Prop :=
  (∀ tick s z, inRatings s → s.enc.cfg.mode ≠ 0 → s.enc.state = 1 → s.enc.cfg.clearZ ≠ 1 → s.enc.zref = some z →
    (s.enc.cfg.cpr = 0 → z < 2 ^ 32) → (s.enc.cfg.cpr ≠ 0 → z < s.enc.cfg.cpr) →
    ∃ t, exec (.encIndex tick) s = .next t ∧ t.enc.position = z ∧ t.enc.state = 0 ∧ t.enc.zref = some z ∧
      t.enc.errCount = s.enc.errCount ∧ -32768 ≤ t.enc.correction ∧ t.enc.correction ≤ 32767 ∧
      (s.enc.cfg.cpr = 0 → -32768 ≤ (z : Int) - s.enc.position → (z : Int) - s.enc.position ≤ 32767 →
        t.enc.correction = (z : Int) - s.enc.position) ∧
      (s.enc.cfg.cpr ≠ 0 → s.enc.cfg.cpr ≤ 65535 → ∃ k : Int, t.enc.correction = z + s.enc.cfg.cpr * k - s.enc.position ∧
        2 * t.enc.correction ≤ s.enc.cfg.cpr ∧ -(s.enc.cfg.cpr : Int) ≤ 2 * t.enc.correction)) ∧
  (∀ tick s, inRatings s → s.enc.cfg.mode ≠ 0 → s.enc.state = 1 → s.enc.cfg.clearZ ≠ 1 → s.enc.zref = none →
    s.enc.position < 2 ^ 32 → inTurn s.enc →
    ∃ t, exec (.encIndex tick) s = .next t ∧ t.enc.position = s.enc.position ∧ t.enc.zref = some s.enc.position ∧ t.enc.state = 0) ∧
  (∀ tick s, inRatings s → s.enc.cfg.mode ≠ 0 → s.enc.cfg.clearZ = 1 →
    ∃ t, exec (.encIndex tick) s = .next t ∧ t.enc.position = 0 ∧ t.enc.zref = some (s.enc.zref.getD 0)) ∧
  (∀ tick s t, exec (.encIndex tick) s = .next t → { t with enc := s.enc, tb := s.tb } = s ∧ (s.enc.cfg.mode = 0 → t.enc = s.enc)) ∧
  (∀ a tick s t, s.enc.state = 1 → exec (.encLegalTransition a tick) s = .next t → { t with enc := s.enc, tb := s.tb } = s)

/-- A journal entry or a ring slot is read back whole, and one that is cut or holds a double-bit error counts for nothing (R860,
R861, R863, R886, R887). -/
def Obligations.StoredRecordsAreWhole : Prop :=
  (∀ s : Slot, s.any Group.ue = true → Slot.entry s = none ∧ ∀ k, Slot.ring k s = none) ∧
  (∀ e : JEntry, entryFits e → Slot.entry (inGroups 2 e.bytes) = some e ∧ Slot.entry ((inGroups 2 e.bytes).take 1) = none) ∧
  (∀ k seq (l : List Byte), k < 4 → seq < 2 ^ 32 → l.length = 112 →
    Slot.ring k (inGroups 16 (slotBytes k seq l)) = some (seq, l) ∧
    ∀ n, n < 16 → Slot.ring k ((inGroups 16 (slotBytes k seq l)).take n) = none) ∧
  (∀ (p : Psto) k x, p.inForce k = some x → x ∈ p.ringSlots k ∧ p.payload k = x.2.2 ∧ ∀ y ∈ p.ringSlots k, y.2.1 ≤ x.2.1) ∧
  (∀ (p : Psto) k, p.ringSlots k = [] → p.payload k = List.replicate 112 0#8)

/-- The calibration commands that need the shutter or the write port are deferred while another operation holds it (R573, R574,
R576, R579). -/
def Obligations.CalibrationCommandsDeferred : Prop :=
  (∀ h wait x y z s a r, acting h 0x21 s = a → runs h 0x21 (calGate h 3 wait) s = true → a.convShort 2 = none → wait ≠ 0 →
    a.blockedOn [resShutter, resPort] (a.sess.effClass h) a.sess.deferred = some r →
    exec (.shutterCal h wait x y z) s = .next
      (a.interim h 0x21 (some (.shutterCal h wait x y z)) (.deferred r (a.tb.now + msTicks wait) a.tb.now) stDeferred
        (a.deferredResult [resShutter, resPort] r (a.sess.effClass h) wait))) ∧
  (∀ h wait x y z s a r, acting h 0x22 s = a → runs h 0x22 (calGate h 2 wait) s = true → a.convShort 2 = none → wait ≠ 0 →
    a.blockedOn [resShutter, resPort] (a.sess.effClass h) a.sess.deferred = some r →
    exec (.gainCal h wait x y z) s = .next
      (a.interim h 0x22 (some (.gainCal h wait x y z)) (.deferred r (a.tb.now + msTicks wait) a.tb.now) stDeferred
        (a.deferredResult [resShutter, resPort] r (a.sess.effClass h) wait))) ∧
  (∀ h wait es s a r, acting h 0x25 s = a → runs h 0x25 (defectGate h wait es) s = true → wait ≠ 0 →
    a.blockedOn [resPort] (a.sess.effClass h) a.sess.deferred = some r →
    exec (.defectEdit h wait es) s = .next
      (a.interim h 0x25 (some (.defectEdit h wait es)) (.deferred r (a.tb.now + msTicks wait) a.tb.now) stDeferred
        (a.deferredResult [resPort] r (a.sess.effClass h) wait))) ∧
  (∀ h wait set s a r, acting h 0x26 s = a → runs h 0x26 (selectGate h wait set) s = true → wait ≠ 0 →
    a.blockedOn [resPort] (a.sess.effClass h) a.sess.deferred = some r →
    exec (.calsetSelect h wait set) s = .next
      (a.interim h 0x26 (some (.calsetSelect h wait set)) (.deferred r (a.tb.now + msTicks wait) a.tb.now) stDeferred
        (a.deferredResult [resPort] r (a.sess.effClass h) wait))) ∧
  (∀ h wait s a r, acting h 0x27 s = a → runs h 0x27 (saveGate h wait) s = true → wait ≠ 0 →
    a.blockedOn [resPort] (a.sess.effClass h) a.sess.deferred = some r →
    exec (.calsetSave h wait) s = .next
      (a.interim h 0x27 (some (.calsetSave h wait)) (.deferred r (a.tb.now + msTicks wait) a.tb.now) stDeferred
        (a.deferredResult [resPort] r (a.sess.effClass h) wait))) ∧
  (∀ h wait first rs s a r, acting h 0x29 s = a → runs h 0x29 (coeffWriteGate h wait first rs) s = true → wait ≠ 0 →
    a.blockedOn [resPort] (a.sess.effClass h) a.sess.deferred = some r →
    exec (.coeffWrite h wait first rs) s = .next
      (a.interim h 0x29 (some (.coeffWrite h wait first rs)) (.deferred r (a.tb.now + msTicks wait) a.tb.now) stDeferred
        (a.deferredResult [resPort] r (a.sess.effClass h) wait)))

/-- CANCEL completes in each of its forms (R550, R584, R585, R596). -/
def Obligations.CancelCompletes : Prop :=
  (∀ h target tag s, runs h 0x09 (cancelGate h target) s = true → (acting h 0x09 s).sess.named target tag = none →
    exec (.cancel h target tag) s = .next ((acting h 0x09 s).answer h 0x09 stOk (le 1 3 ++ [0#8, 0#8, 0#8]))) ∧
  (∀ h target tag s f, runs h 0x09 (cancelGate h target) s = true → (acting h 0x09 s).sess.named target tag = some f →
    f.st = .queued →
    exec (.cancel h target tag) s = .next
      ((((acting h 0x09 s).answer h 0x09 stOk (le 1 0 ++ [0#8, 0#8, 0#8])).onSess (Sess.dropFlights (fun g => g = f))).answer
        f.hdr f.opcode stFailAborted [])) ∧
  (∀ h target tag s f r w a, runs h 0x09 (cancelGate h target) s = true → (acting h 0x09 s).sess.named target tag = some f →
    f.st = .deferred r w a →
    exec (.cancel h target tag) s = .next
      (((acting h 0x09 s).answer h 0x09 stOk (le 1 0 ++ [0#8, 0#8, 0#8])).answerOpen f stFailAborted [])) ∧
  (∀ h target tag s f, runs h 0x09 (cancelGate h target) s = true → (acting h 0x09 s).sess.named target tag = some f →
    f.st = .running → (acting h 0x09 s).longCancellable target tag f.opcode = true →
    exec (.cancel h target tag) s = .next
      (((acting h 0x09 s).answer h 0x09 stOk (le 1 1 ++ [0#8, 0#8, 0#8])).longCancel target tag f.opcode)) ∧
  (∀ h target tag s f, runs h 0x09 (cancelGate h target) s = true → (acting h 0x09 s).sess.named target tag = some f →
    f.st = .running → (acting h 0x09 s).longCancellable target tag f.opcode = false →
    exec (.cancel h target tag) s = .next ((acting h 0x09 s).answer h 0x09 stOk (le 1 2 ++ [0#8, 0#8, 0#8]))) ∧
  (∀ h target tag s f w, runs h 0x09 (cancelGate h target) s = true → (acting h 0x09 s).sess.named target tag = some f →
    f.st = .waiting w →
    exec (.cancel h target tag) s = .next ((acting h 0x09 s).answer h 0x09 stOk (le 1 2 ++ [0#8, 0#8, 0#8])))
end

