-- ==== Sys2Proof/Laws/State.lean ====
section
/-!
SUPPORT. What replacing one part of the state leaves: one lemma per field per update, each true by unfolding.
-/

namespace Sys2Proof.Machine

open Sys2Proof

@[simp] theorem State.onPwr_pending (f : Pwr → Pwr) (s : State) : (s.onPwr f).pending = s.pending := rfl
@[simp] theorem State.onPwr_freeCtr (f : Pwr → Pwr) (s : State) : (s.onPwr f).freeCtr = s.freeCtr := rfl
@[simp] theorem State.onPwr_pwr (f : Pwr → Pwr) (s : State) : (s.onPwr f).pwr = f s.pwr := rfl
@[simp] theorem State.onPwr_rstc (f : Pwr → Pwr) (s : State) : (s.onPwr f).rstc = s.rstc := rfl
@[simp] theorem State.onPwr_tb (f : Pwr → Pwr) (s : State) : (s.onPwr f).tb = s.tb := rfl
@[simp] theorem State.onPwr_aon (f : Pwr → Pwr) (s : State) : (s.onPwr f).aon = s.aon := rfl
@[simp] theorem State.onPwr_cxp (f : Pwr → Pwr) (s : State) : (s.onPwr f).cxp = s.cxp := rfl
@[simp] theorem State.onPwr_sess (f : Pwr → Pwr) (s : State) : (s.onPwr f).sess = s.sess := rfl
@[simp] theorem State.onPwr_streams (f : Pwr → Pwr) (s : State) : (s.onPwr f).streams = s.streams := rfl
@[simp] theorem State.onPwr_rd (f : Pwr → Pwr) (s : State) : (s.onPwr f).rd = s.rd := rfl
@[simp] theorem State.onPwr_haul (f : Pwr → Pwr) (s : State) : (s.onPwr f).haul = s.haul := rfl
@[simp] theorem State.onPwr_pipe (f : Pwr → Pwr) (s : State) : (s.onPwr f).pipe = s.pipe := rfl
@[simp] theorem State.onPwr_cal (f : Pwr → Pwr) (s : State) : (s.onPwr f).cal = s.cal := rfl
@[simp] theorem State.onPwr_act (f : Pwr → Pwr) (s : State) : (s.onPwr f).act = s.act := rfl
@[simp] theorem State.onPwr_trig (f : Pwr → Pwr) (s : State) : (s.onPwr f).trig = s.trig := rfl
@[simp] theorem State.onPwr_enc (f : Pwr → Pwr) (s : State) : (s.onPwr f).enc = s.enc := rfl
@[simp] theorem State.onPwr_gang (f : Pwr → Pwr) (s : State) : (s.onPwr f).gang = s.gang := rfl
@[simp] theorem State.onPwr_wdg (f : Pwr → Pwr) (s : State) : (s.onPwr f).wdg = s.wdg := rfl
@[simp] theorem State.onPwr_thm (f : Pwr → Pwr) (s : State) : (s.onPwr f).thm = s.thm := rfl
@[simp] theorem State.onPwr_psto (f : Pwr → Pwr) (s : State) : (s.onPwr f).psto = s.psto := rfl
@[simp] theorem State.onPwr_cfl (f : Pwr → Pwr) (s : State) : (s.onPwr f).cfl = s.cfl := rfl
@[simp] theorem State.onPwr_fuse (f : Pwr → Pwr) (s : State) : (s.onPwr f).fuse = s.fuse := rfl
@[simp] theorem State.onPwr_jtag (f : Pwr → Pwr) (s : State) : (s.onPwr f).jtag = s.jtag := rfl
@[simp] theorem State.onPwr_counters (f : Pwr → Pwr) (s : State) : (s.onPwr f).counters = s.counters := rfl
@[simp] theorem State.onRstc_pending (f : Rstc → Rstc) (s : State) : (s.onRstc f).pending = s.pending := rfl
@[simp] theorem State.onRstc_freeCtr (f : Rstc → Rstc) (s : State) : (s.onRstc f).freeCtr = s.freeCtr := rfl
@[simp] theorem State.onRstc_pwr (f : Rstc → Rstc) (s : State) : (s.onRstc f).pwr = s.pwr := rfl
@[simp] theorem State.onRstc_rstc (f : Rstc → Rstc) (s : State) : (s.onRstc f).rstc = f s.rstc := rfl
@[simp] theorem State.onRstc_tb (f : Rstc → Rstc) (s : State) : (s.onRstc f).tb = s.tb := rfl
@[simp] theorem State.onRstc_aon (f : Rstc → Rstc) (s : State) : (s.onRstc f).aon = s.aon := rfl
@[simp] theorem State.onRstc_cxp (f : Rstc → Rstc) (s : State) : (s.onRstc f).cxp = s.cxp := rfl
@[simp] theorem State.onRstc_sess (f : Rstc → Rstc) (s : State) : (s.onRstc f).sess = s.sess := rfl
@[simp] theorem State.onRstc_streams (f : Rstc → Rstc) (s : State) : (s.onRstc f).streams = s.streams := rfl
@[simp] theorem State.onRstc_rd (f : Rstc → Rstc) (s : State) : (s.onRstc f).rd = s.rd := rfl
@[simp] theorem State.onRstc_haul (f : Rstc → Rstc) (s : State) : (s.onRstc f).haul = s.haul := rfl
@[simp] theorem State.onRstc_pipe (f : Rstc → Rstc) (s : State) : (s.onRstc f).pipe = s.pipe := rfl
@[simp] theorem State.onRstc_cal (f : Rstc → Rstc) (s : State) : (s.onRstc f).cal = s.cal := rfl
@[simp] theorem State.onRstc_act (f : Rstc → Rstc) (s : State) : (s.onRstc f).act = s.act := rfl
@[simp] theorem State.onRstc_trig (f : Rstc → Rstc) (s : State) : (s.onRstc f).trig = s.trig := rfl
@[simp] theorem State.onRstc_enc (f : Rstc → Rstc) (s : State) : (s.onRstc f).enc = s.enc := rfl
@[simp] theorem State.onRstc_gang (f : Rstc → Rstc) (s : State) : (s.onRstc f).gang = s.gang := rfl
@[simp] theorem State.onRstc_wdg (f : Rstc → Rstc) (s : State) : (s.onRstc f).wdg = s.wdg := rfl
@[simp] theorem State.onRstc_thm (f : Rstc → Rstc) (s : State) : (s.onRstc f).thm = s.thm := rfl
@[simp] theorem State.onRstc_psto (f : Rstc → Rstc) (s : State) : (s.onRstc f).psto = s.psto := rfl
@[simp] theorem State.onRstc_cfl (f : Rstc → Rstc) (s : State) : (s.onRstc f).cfl = s.cfl := rfl
@[simp] theorem State.onRstc_fuse (f : Rstc → Rstc) (s : State) : (s.onRstc f).fuse = s.fuse := rfl
@[simp] theorem State.onRstc_jtag (f : Rstc → Rstc) (s : State) : (s.onRstc f).jtag = s.jtag := rfl
@[simp] theorem State.onRstc_counters (f : Rstc → Rstc) (s : State) : (s.onRstc f).counters = s.counters := rfl
@[simp] theorem State.onTb_pending (f : Tbase → Tbase) (s : State) : (s.onTb f).pending = s.pending := rfl
@[simp] theorem State.onTb_freeCtr (f : Tbase → Tbase) (s : State) : (s.onTb f).freeCtr = s.freeCtr := rfl
@[simp] theorem State.onTb_pwr (f : Tbase → Tbase) (s : State) : (s.onTb f).pwr = s.pwr := rfl
@[simp] theorem State.onTb_rstc (f : Tbase → Tbase) (s : State) : (s.onTb f).rstc = s.rstc := rfl
@[simp] theorem State.onTb_tb (f : Tbase → Tbase) (s : State) : (s.onTb f).tb = f s.tb := rfl
@[simp] theorem State.onTb_aon (f : Tbase → Tbase) (s : State) : (s.onTb f).aon = s.aon := rfl
@[simp] theorem State.onTb_cxp (f : Tbase → Tbase) (s : State) : (s.onTb f).cxp = s.cxp := rfl
@[simp] theorem State.onTb_sess (f : Tbase → Tbase) (s : State) : (s.onTb f).sess = s.sess := rfl
@[simp] theorem State.onTb_streams (f : Tbase → Tbase) (s : State) : (s.onTb f).streams = s.streams := rfl
@[simp] theorem State.onTb_rd (f : Tbase → Tbase) (s : State) : (s.onTb f).rd = s.rd := rfl
@[simp] theorem State.onTb_haul (f : Tbase → Tbase) (s : State) : (s.onTb f).haul = s.haul := rfl
@[simp] theorem State.onTb_pipe (f : Tbase → Tbase) (s : State) : (s.onTb f).pipe = s.pipe := rfl
@[simp] theorem State.onTb_cal (f : Tbase → Tbase) (s : State) : (s.onTb f).cal = s.cal := rfl
@[simp] theorem State.onTb_act (f : Tbase → Tbase) (s : State) : (s.onTb f).act = s.act := rfl
@[simp] theorem State.onTb_trig (f : Tbase → Tbase) (s : State) : (s.onTb f).trig = s.trig := rfl
@[simp] theorem State.onTb_enc (f : Tbase → Tbase) (s : State) : (s.onTb f).enc = s.enc := rfl
@[simp] theorem State.onTb_gang (f : Tbase → Tbase) (s : State) : (s.onTb f).gang = s.gang := rfl
@[simp] theorem State.onTb_wdg (f : Tbase → Tbase) (s : State) : (s.onTb f).wdg = s.wdg := rfl
@[simp] theorem State.onTb_thm (f : Tbase → Tbase) (s : State) : (s.onTb f).thm = s.thm := rfl
@[simp] theorem State.onTb_psto (f : Tbase → Tbase) (s : State) : (s.onTb f).psto = s.psto := rfl
@[simp] theorem State.onTb_cfl (f : Tbase → Tbase) (s : State) : (s.onTb f).cfl = s.cfl := rfl
@[simp] theorem State.onTb_fuse (f : Tbase → Tbase) (s : State) : (s.onTb f).fuse = s.fuse := rfl
@[simp] theorem State.onTb_jtag (f : Tbase → Tbase) (s : State) : (s.onTb f).jtag = s.jtag := rfl
@[simp] theorem State.onTb_counters (f : Tbase → Tbase) (s : State) : (s.onTb f).counters = s.counters := rfl
@[simp] theorem State.onAon_pending (f : Aon → Aon) (s : State) : (s.onAon f).pending = s.pending := rfl
@[simp] theorem State.onAon_freeCtr (f : Aon → Aon) (s : State) : (s.onAon f).freeCtr = s.freeCtr := rfl
@[simp] theorem State.onAon_pwr (f : Aon → Aon) (s : State) : (s.onAon f).pwr = s.pwr := rfl
@[simp] theorem State.onAon_rstc (f : Aon → Aon) (s : State) : (s.onAon f).rstc = s.rstc := rfl
@[simp] theorem State.onAon_tb (f : Aon → Aon) (s : State) : (s.onAon f).tb = s.tb := rfl
@[simp] theorem State.onAon_aon (f : Aon → Aon) (s : State) : (s.onAon f).aon = f s.aon := rfl
@[simp] theorem State.onAon_cxp (f : Aon → Aon) (s : State) : (s.onAon f).cxp = s.cxp := rfl
@[simp] theorem State.onAon_sess (f : Aon → Aon) (s : State) : (s.onAon f).sess = s.sess := rfl
@[simp] theorem State.onAon_streams (f : Aon → Aon) (s : State) : (s.onAon f).streams = s.streams := rfl
@[simp] theorem State.onAon_rd (f : Aon → Aon) (s : State) : (s.onAon f).rd = s.rd := rfl
@[simp] theorem State.onAon_haul (f : Aon → Aon) (s : State) : (s.onAon f).haul = s.haul := rfl
@[simp] theorem State.onAon_pipe (f : Aon → Aon) (s : State) : (s.onAon f).pipe = s.pipe := rfl
@[simp] theorem State.onAon_cal (f : Aon → Aon) (s : State) : (s.onAon f).cal = s.cal := rfl
@[simp] theorem State.onAon_act (f : Aon → Aon) (s : State) : (s.onAon f).act = s.act := rfl
@[simp] theorem State.onAon_trig (f : Aon → Aon) (s : State) : (s.onAon f).trig = s.trig := rfl
@[simp] theorem State.onAon_enc (f : Aon → Aon) (s : State) : (s.onAon f).enc = s.enc := rfl
@[simp] theorem State.onAon_gang (f : Aon → Aon) (s : State) : (s.onAon f).gang = s.gang := rfl
@[simp] theorem State.onAon_wdg (f : Aon → Aon) (s : State) : (s.onAon f).wdg = s.wdg := rfl
@[simp] theorem State.onAon_thm (f : Aon → Aon) (s : State) : (s.onAon f).thm = s.thm := rfl
@[simp] theorem State.onAon_psto (f : Aon → Aon) (s : State) : (s.onAon f).psto = s.psto := rfl
@[simp] theorem State.onAon_cfl (f : Aon → Aon) (s : State) : (s.onAon f).cfl = s.cfl := rfl
@[simp] theorem State.onAon_fuse (f : Aon → Aon) (s : State) : (s.onAon f).fuse = s.fuse := rfl
@[simp] theorem State.onAon_jtag (f : Aon → Aon) (s : State) : (s.onAon f).jtag = s.jtag := rfl
@[simp] theorem State.onAon_counters (f : Aon → Aon) (s : State) : (s.onAon f).counters = s.counters := rfl
@[simp] theorem State.onCxp_pending (f : Cxp → Cxp) (s : State) : (s.onCxp f).pending = s.pending := rfl
@[simp] theorem State.onCxp_freeCtr (f : Cxp → Cxp) (s : State) : (s.onCxp f).freeCtr = s.freeCtr := rfl
@[simp] theorem State.onCxp_pwr (f : Cxp → Cxp) (s : State) : (s.onCxp f).pwr = s.pwr := rfl
@[simp] theorem State.onCxp_rstc (f : Cxp → Cxp) (s : State) : (s.onCxp f).rstc = s.rstc := rfl
@[simp] theorem State.onCxp_tb (f : Cxp → Cxp) (s : State) : (s.onCxp f).tb = s.tb := rfl
@[simp] theorem State.onCxp_aon (f : Cxp → Cxp) (s : State) : (s.onCxp f).aon = s.aon := rfl
@[simp] theorem State.onCxp_cxp (f : Cxp → Cxp) (s : State) : (s.onCxp f).cxp = f s.cxp := rfl
@[simp] theorem State.onCxp_sess (f : Cxp → Cxp) (s : State) : (s.onCxp f).sess = s.sess := rfl
@[simp] theorem State.onCxp_streams (f : Cxp → Cxp) (s : State) : (s.onCxp f).streams = s.streams := rfl
@[simp] theorem State.onCxp_rd (f : Cxp → Cxp) (s : State) : (s.onCxp f).rd = s.rd := rfl
@[simp] theorem State.onCxp_haul (f : Cxp → Cxp) (s : State) : (s.onCxp f).haul = s.haul := rfl
@[simp] theorem State.onCxp_pipe (f : Cxp → Cxp) (s : State) : (s.onCxp f).pipe = s.pipe := rfl
@[simp] theorem State.onCxp_cal (f : Cxp → Cxp) (s : State) : (s.onCxp f).cal = s.cal := rfl
@[simp] theorem State.onCxp_act (f : Cxp → Cxp) (s : State) : (s.onCxp f).act = s.act := rfl
@[simp] theorem State.onCxp_trig (f : Cxp → Cxp) (s : State) : (s.onCxp f).trig = s.trig := rfl
@[simp] theorem State.onCxp_enc (f : Cxp → Cxp) (s : State) : (s.onCxp f).enc = s.enc := rfl
@[simp] theorem State.onCxp_gang (f : Cxp → Cxp) (s : State) : (s.onCxp f).gang = s.gang := rfl
@[simp] theorem State.onCxp_wdg (f : Cxp → Cxp) (s : State) : (s.onCxp f).wdg = s.wdg := rfl
@[simp] theorem State.onCxp_thm (f : Cxp → Cxp) (s : State) : (s.onCxp f).thm = s.thm := rfl
@[simp] theorem State.onCxp_psto (f : Cxp → Cxp) (s : State) : (s.onCxp f).psto = s.psto := rfl
@[simp] theorem State.onCxp_cfl (f : Cxp → Cxp) (s : State) : (s.onCxp f).cfl = s.cfl := rfl
@[simp] theorem State.onCxp_fuse (f : Cxp → Cxp) (s : State) : (s.onCxp f).fuse = s.fuse := rfl
@[simp] theorem State.onCxp_jtag (f : Cxp → Cxp) (s : State) : (s.onCxp f).jtag = s.jtag := rfl
@[simp] theorem State.onCxp_counters (f : Cxp → Cxp) (s : State) : (s.onCxp f).counters = s.counters := rfl
@[simp] theorem State.onSess_pending (f : Sess → Sess) (s : State) : (s.onSess f).pending = s.pending := rfl
@[simp] theorem State.onSess_freeCtr (f : Sess → Sess) (s : State) : (s.onSess f).freeCtr = s.freeCtr := rfl
@[simp] theorem State.onSess_pwr (f : Sess → Sess) (s : State) : (s.onSess f).pwr = s.pwr := rfl
@[simp] theorem State.onSess_rstc (f : Sess → Sess) (s : State) : (s.onSess f).rstc = s.rstc := rfl
@[simp] theorem State.onSess_tb (f : Sess → Sess) (s : State) : (s.onSess f).tb = s.tb := rfl
@[simp] theorem State.onSess_aon (f : Sess → Sess) (s : State) : (s.onSess f).aon = s.aon := rfl
@[simp] theorem State.onSess_cxp (f : Sess → Sess) (s : State) : (s.onSess f).cxp = s.cxp := rfl
@[simp] theorem State.onSess_sess (f : Sess → Sess) (s : State) : (s.onSess f).sess = f s.sess := rfl
@[simp] theorem State.onSess_streams (f : Sess → Sess) (s : State) : (s.onSess f).streams = s.streams := rfl
@[simp] theorem State.onSess_rd (f : Sess → Sess) (s : State) : (s.onSess f).rd = s.rd := rfl
@[simp] theorem State.onSess_haul (f : Sess → Sess) (s : State) : (s.onSess f).haul = s.haul := rfl
@[simp] theorem State.onSess_pipe (f : Sess → Sess) (s : State) : (s.onSess f).pipe = s.pipe := rfl
@[simp] theorem State.onSess_cal (f : Sess → Sess) (s : State) : (s.onSess f).cal = s.cal := rfl
@[simp] theorem State.onSess_act (f : Sess → Sess) (s : State) : (s.onSess f).act = s.act := rfl
@[simp] theorem State.onSess_trig (f : Sess → Sess) (s : State) : (s.onSess f).trig = s.trig := rfl
@[simp] theorem State.onSess_enc (f : Sess → Sess) (s : State) : (s.onSess f).enc = s.enc := rfl
@[simp] theorem State.onSess_gang (f : Sess → Sess) (s : State) : (s.onSess f).gang = s.gang := rfl
@[simp] theorem State.onSess_wdg (f : Sess → Sess) (s : State) : (s.onSess f).wdg = s.wdg := rfl
@[simp] theorem State.onSess_thm (f : Sess → Sess) (s : State) : (s.onSess f).thm = s.thm := rfl
@[simp] theorem State.onSess_psto (f : Sess → Sess) (s : State) : (s.onSess f).psto = s.psto := rfl
@[simp] theorem State.onSess_cfl (f : Sess → Sess) (s : State) : (s.onSess f).cfl = s.cfl := rfl
@[simp] theorem State.onSess_fuse (f : Sess → Sess) (s : State) : (s.onSess f).fuse = s.fuse := rfl
@[simp] theorem State.onSess_jtag (f : Sess → Sess) (s : State) : (s.onSess f).jtag = s.jtag := rfl
@[simp] theorem State.onSess_counters (f : Sess → Sess) (s : State) : (s.onSess f).counters = s.counters := rfl
@[simp] theorem State.onStreams_pending (f : List Stream → List Stream) (s : State) : (s.onStreams f).pending = s.pending := rfl
@[simp] theorem State.onStreams_freeCtr (f : List Stream → List Stream) (s : State) : (s.onStreams f).freeCtr = s.freeCtr := rfl
@[simp] theorem State.onStreams_pwr (f : List Stream → List Stream) (s : State) : (s.onStreams f).pwr = s.pwr := rfl
@[simp] theorem State.onStreams_rstc (f : List Stream → List Stream) (s : State) : (s.onStreams f).rstc = s.rstc := rfl
@[simp] theorem State.onStreams_tb (f : List Stream → List Stream) (s : State) : (s.onStreams f).tb = s.tb := rfl
@[simp] theorem State.onStreams_aon (f : List Stream → List Stream) (s : State) : (s.onStreams f).aon = s.aon := rfl
@[simp] theorem State.onStreams_cxp (f : List Stream → List Stream) (s : State) : (s.onStreams f).cxp = s.cxp := rfl
@[simp] theorem State.onStreams_sess (f : List Stream → List Stream) (s : State) : (s.onStreams f).sess = s.sess := rfl
@[simp] theorem State.onStreams_streams (f : List Stream → List Stream) (s : State) : (s.onStreams f).streams = f s.streams := rfl
@[simp] theorem State.onStreams_rd (f : List Stream → List Stream) (s : State) : (s.onStreams f).rd = s.rd := rfl
@[simp] theorem State.onStreams_haul (f : List Stream → List Stream) (s : State) : (s.onStreams f).haul = s.haul := rfl
@[simp] theorem State.onStreams_pipe (f : List Stream → List Stream) (s : State) : (s.onStreams f).pipe = s.pipe := rfl
@[simp] theorem State.onStreams_cal (f : List Stream → List Stream) (s : State) : (s.onStreams f).cal = s.cal := rfl
@[simp] theorem State.onStreams_act (f : List Stream → List Stream) (s : State) : (s.onStreams f).act = s.act := rfl
@[simp] theorem State.onStreams_trig (f : List Stream → List Stream) (s : State) : (s.onStreams f).trig = s.trig := rfl
@[simp] theorem State.onStreams_enc (f : List Stream → List Stream) (s : State) : (s.onStreams f).enc = s.enc := rfl
@[simp] theorem State.onStreams_gang (f : List Stream → List Stream) (s : State) : (s.onStreams f).gang = s.gang := rfl
@[simp] theorem State.onStreams_wdg (f : List Stream → List Stream) (s : State) : (s.onStreams f).wdg = s.wdg := rfl
@[simp] theorem State.onStreams_thm (f : List Stream → List Stream) (s : State) : (s.onStreams f).thm = s.thm := rfl
@[simp] theorem State.onStreams_psto (f : List Stream → List Stream) (s : State) : (s.onStreams f).psto = s.psto := rfl
@[simp] theorem State.onStreams_cfl (f : List Stream → List Stream) (s : State) : (s.onStreams f).cfl = s.cfl := rfl
@[simp] theorem State.onStreams_fuse (f : List Stream → List Stream) (s : State) : (s.onStreams f).fuse = s.fuse := rfl
@[simp] theorem State.onStreams_jtag (f : List Stream → List Stream) (s : State) : (s.onStreams f).jtag = s.jtag := rfl
@[simp] theorem State.onStreams_counters (f : List Stream → List Stream) (s : State) : (s.onStreams f).counters = s.counters := rfl
@[simp] theorem State.onRd_pending (f : Rd → Rd) (s : State) : (s.onRd f).pending = s.pending := rfl
@[simp] theorem State.onRd_freeCtr (f : Rd → Rd) (s : State) : (s.onRd f).freeCtr = s.freeCtr := rfl
@[simp] theorem State.onRd_pwr (f : Rd → Rd) (s : State) : (s.onRd f).pwr = s.pwr := rfl
@[simp] theorem State.onRd_rstc (f : Rd → Rd) (s : State) : (s.onRd f).rstc = s.rstc := rfl
@[simp] theorem State.onRd_tb (f : Rd → Rd) (s : State) : (s.onRd f).tb = s.tb := rfl
@[simp] theorem State.onRd_aon (f : Rd → Rd) (s : State) : (s.onRd f).aon = s.aon := rfl
@[simp] theorem State.onRd_cxp (f : Rd → Rd) (s : State) : (s.onRd f).cxp = s.cxp := rfl
@[simp] theorem State.onRd_sess (f : Rd → Rd) (s : State) : (s.onRd f).sess = s.sess := rfl
@[simp] theorem State.onRd_streams (f : Rd → Rd) (s : State) : (s.onRd f).streams = s.streams := rfl
@[simp] theorem State.onRd_rd (f : Rd → Rd) (s : State) : (s.onRd f).rd = f s.rd := rfl
@[simp] theorem State.onRd_haul (f : Rd → Rd) (s : State) : (s.onRd f).haul = s.haul := rfl
@[simp] theorem State.onRd_pipe (f : Rd → Rd) (s : State) : (s.onRd f).pipe = s.pipe := rfl
@[simp] theorem State.onRd_cal (f : Rd → Rd) (s : State) : (s.onRd f).cal = s.cal := rfl
@[simp] theorem State.onRd_act (f : Rd → Rd) (s : State) : (s.onRd f).act = s.act := rfl
@[simp] theorem State.onRd_trig (f : Rd → Rd) (s : State) : (s.onRd f).trig = s.trig := rfl
@[simp] theorem State.onRd_enc (f : Rd → Rd) (s : State) : (s.onRd f).enc = s.enc := rfl
@[simp] theorem State.onRd_gang (f : Rd → Rd) (s : State) : (s.onRd f).gang = s.gang := rfl
@[simp] theorem State.onRd_wdg (f : Rd → Rd) (s : State) : (s.onRd f).wdg = s.wdg := rfl
@[simp] theorem State.onRd_thm (f : Rd → Rd) (s : State) : (s.onRd f).thm = s.thm := rfl
@[simp] theorem State.onRd_psto (f : Rd → Rd) (s : State) : (s.onRd f).psto = s.psto := rfl
@[simp] theorem State.onRd_cfl (f : Rd → Rd) (s : State) : (s.onRd f).cfl = s.cfl := rfl
@[simp] theorem State.onRd_fuse (f : Rd → Rd) (s : State) : (s.onRd f).fuse = s.fuse := rfl
@[simp] theorem State.onRd_jtag (f : Rd → Rd) (s : State) : (s.onRd f).jtag = s.jtag := rfl
@[simp] theorem State.onRd_counters (f : Rd → Rd) (s : State) : (s.onRd f).counters = s.counters := rfl
@[simp] theorem State.onHaul_pending (f : Haul → Haul) (s : State) : (s.onHaul f).pending = s.pending := rfl
@[simp] theorem State.onHaul_freeCtr (f : Haul → Haul) (s : State) : (s.onHaul f).freeCtr = s.freeCtr := rfl
@[simp] theorem State.onHaul_pwr (f : Haul → Haul) (s : State) : (s.onHaul f).pwr = s.pwr := rfl
@[simp] theorem State.onHaul_rstc (f : Haul → Haul) (s : State) : (s.onHaul f).rstc = s.rstc := rfl
@[simp] theorem State.onHaul_tb (f : Haul → Haul) (s : State) : (s.onHaul f).tb = s.tb := rfl
@[simp] theorem State.onHaul_aon (f : Haul → Haul) (s : State) : (s.onHaul f).aon = s.aon := rfl
@[simp] theorem State.onHaul_cxp (f : Haul → Haul) (s : State) : (s.onHaul f).cxp = s.cxp := rfl
@[simp] theorem State.onHaul_sess (f : Haul → Haul) (s : State) : (s.onHaul f).sess = s.sess := rfl
@[simp] theorem State.onHaul_streams (f : Haul → Haul) (s : State) : (s.onHaul f).streams = s.streams := rfl
@[simp] theorem State.onHaul_rd (f : Haul → Haul) (s : State) : (s.onHaul f).rd = s.rd := rfl
@[simp] theorem State.onHaul_haul (f : Haul → Haul) (s : State) : (s.onHaul f).haul = f s.haul := rfl
@[simp] theorem State.onHaul_pipe (f : Haul → Haul) (s : State) : (s.onHaul f).pipe = s.pipe := rfl
@[simp] theorem State.onHaul_cal (f : Haul → Haul) (s : State) : (s.onHaul f).cal = s.cal := rfl
@[simp] theorem State.onHaul_act (f : Haul → Haul) (s : State) : (s.onHaul f).act = s.act := rfl
@[simp] theorem State.onHaul_trig (f : Haul → Haul) (s : State) : (s.onHaul f).trig = s.trig := rfl
@[simp] theorem State.onHaul_enc (f : Haul → Haul) (s : State) : (s.onHaul f).enc = s.enc := rfl
@[simp] theorem State.onHaul_gang (f : Haul → Haul) (s : State) : (s.onHaul f).gang = s.gang := rfl
@[simp] theorem State.onHaul_wdg (f : Haul → Haul) (s : State) : (s.onHaul f).wdg = s.wdg := rfl
@[simp] theorem State.onHaul_thm (f : Haul → Haul) (s : State) : (s.onHaul f).thm = s.thm := rfl
@[simp] theorem State.onHaul_psto (f : Haul → Haul) (s : State) : (s.onHaul f).psto = s.psto := rfl
@[simp] theorem State.onHaul_cfl (f : Haul → Haul) (s : State) : (s.onHaul f).cfl = s.cfl := rfl
@[simp] theorem State.onHaul_fuse (f : Haul → Haul) (s : State) : (s.onHaul f).fuse = s.fuse := rfl
@[simp] theorem State.onHaul_jtag (f : Haul → Haul) (s : State) : (s.onHaul f).jtag = s.jtag := rfl
@[simp] theorem State.onHaul_counters (f : Haul → Haul) (s : State) : (s.onHaul f).counters = s.counters := rfl
@[simp] theorem State.onPipe_pending (f : Pipe → Pipe) (s : State) : (s.onPipe f).pending = s.pending := rfl
@[simp] theorem State.onPipe_freeCtr (f : Pipe → Pipe) (s : State) : (s.onPipe f).freeCtr = s.freeCtr := rfl
@[simp] theorem State.onPipe_pwr (f : Pipe → Pipe) (s : State) : (s.onPipe f).pwr = s.pwr := rfl
@[simp] theorem State.onPipe_rstc (f : Pipe → Pipe) (s : State) : (s.onPipe f).rstc = s.rstc := rfl
@[simp] theorem State.onPipe_tb (f : Pipe → Pipe) (s : State) : (s.onPipe f).tb = s.tb := rfl
@[simp] theorem State.onPipe_aon (f : Pipe → Pipe) (s : State) : (s.onPipe f).aon = s.aon := rfl
@[simp] theorem State.onPipe_cxp (f : Pipe → Pipe) (s : State) : (s.onPipe f).cxp = s.cxp := rfl
@[simp] theorem State.onPipe_sess (f : Pipe → Pipe) (s : State) : (s.onPipe f).sess = s.sess := rfl
@[simp] theorem State.onPipe_streams (f : Pipe → Pipe) (s : State) : (s.onPipe f).streams = s.streams := rfl
@[simp] theorem State.onPipe_rd (f : Pipe → Pipe) (s : State) : (s.onPipe f).rd = s.rd := rfl
@[simp] theorem State.onPipe_haul (f : Pipe → Pipe) (s : State) : (s.onPipe f).haul = s.haul := rfl
@[simp] theorem State.onPipe_pipe (f : Pipe → Pipe) (s : State) : (s.onPipe f).pipe = f s.pipe := rfl
@[simp] theorem State.onPipe_cal (f : Pipe → Pipe) (s : State) : (s.onPipe f).cal = s.cal := rfl
@[simp] theorem State.onPipe_act (f : Pipe → Pipe) (s : State) : (s.onPipe f).act = s.act := rfl
@[simp] theorem State.onPipe_trig (f : Pipe → Pipe) (s : State) : (s.onPipe f).trig = s.trig := rfl
@[simp] theorem State.onPipe_enc (f : Pipe → Pipe) (s : State) : (s.onPipe f).enc = s.enc := rfl
@[simp] theorem State.onPipe_gang (f : Pipe → Pipe) (s : State) : (s.onPipe f).gang = s.gang := rfl
@[simp] theorem State.onPipe_wdg (f : Pipe → Pipe) (s : State) : (s.onPipe f).wdg = s.wdg := rfl
@[simp] theorem State.onPipe_thm (f : Pipe → Pipe) (s : State) : (s.onPipe f).thm = s.thm := rfl
@[simp] theorem State.onPipe_psto (f : Pipe → Pipe) (s : State) : (s.onPipe f).psto = s.psto := rfl
@[simp] theorem State.onPipe_cfl (f : Pipe → Pipe) (s : State) : (s.onPipe f).cfl = s.cfl := rfl
@[simp] theorem State.onPipe_fuse (f : Pipe → Pipe) (s : State) : (s.onPipe f).fuse = s.fuse := rfl
@[simp] theorem State.onPipe_jtag (f : Pipe → Pipe) (s : State) : (s.onPipe f).jtag = s.jtag := rfl
@[simp] theorem State.onPipe_counters (f : Pipe → Pipe) (s : State) : (s.onPipe f).counters = s.counters := rfl
@[simp] theorem State.onCal_pending (f : CalState → CalState) (s : State) : (s.onCal f).pending = s.pending := rfl
@[simp] theorem State.onCal_freeCtr (f : CalState → CalState) (s : State) : (s.onCal f).freeCtr = s.freeCtr := rfl
@[simp] theorem State.onCal_pwr (f : CalState → CalState) (s : State) : (s.onCal f).pwr = s.pwr := rfl
@[simp] theorem State.onCal_rstc (f : CalState → CalState) (s : State) : (s.onCal f).rstc = s.rstc := rfl
@[simp] theorem State.onCal_tb (f : CalState → CalState) (s : State) : (s.onCal f).tb = s.tb := rfl
@[simp] theorem State.onCal_aon (f : CalState → CalState) (s : State) : (s.onCal f).aon = s.aon := rfl
@[simp] theorem State.onCal_cxp (f : CalState → CalState) (s : State) : (s.onCal f).cxp = s.cxp := rfl
@[simp] theorem State.onCal_sess (f : CalState → CalState) (s : State) : (s.onCal f).sess = s.sess := rfl
@[simp] theorem State.onCal_streams (f : CalState → CalState) (s : State) : (s.onCal f).streams = s.streams := rfl
@[simp] theorem State.onCal_rd (f : CalState → CalState) (s : State) : (s.onCal f).rd = s.rd := rfl
@[simp] theorem State.onCal_haul (f : CalState → CalState) (s : State) : (s.onCal f).haul = s.haul := rfl
@[simp] theorem State.onCal_pipe (f : CalState → CalState) (s : State) : (s.onCal f).pipe = s.pipe := rfl
@[simp] theorem State.onCal_cal (f : CalState → CalState) (s : State) : (s.onCal f).cal = f s.cal := rfl
@[simp] theorem State.onCal_act (f : CalState → CalState) (s : State) : (s.onCal f).act = s.act := rfl
@[simp] theorem State.onCal_trig (f : CalState → CalState) (s : State) : (s.onCal f).trig = s.trig := rfl
@[simp] theorem State.onCal_enc (f : CalState → CalState) (s : State) : (s.onCal f).enc = s.enc := rfl
@[simp] theorem State.onCal_gang (f : CalState → CalState) (s : State) : (s.onCal f).gang = s.gang := rfl
@[simp] theorem State.onCal_wdg (f : CalState → CalState) (s : State) : (s.onCal f).wdg = s.wdg := rfl
@[simp] theorem State.onCal_thm (f : CalState → CalState) (s : State) : (s.onCal f).thm = s.thm := rfl
@[simp] theorem State.onCal_psto (f : CalState → CalState) (s : State) : (s.onCal f).psto = s.psto := rfl
@[simp] theorem State.onCal_cfl (f : CalState → CalState) (s : State) : (s.onCal f).cfl = s.cfl := rfl
@[simp] theorem State.onCal_fuse (f : CalState → CalState) (s : State) : (s.onCal f).fuse = s.fuse := rfl
@[simp] theorem State.onCal_jtag (f : CalState → CalState) (s : State) : (s.onCal f).jtag = s.jtag := rfl
@[simp] theorem State.onCal_counters (f : CalState → CalState) (s : State) : (s.onCal f).counters = s.counters := rfl
@[simp] theorem State.onAct_pending (f : Act → Act) (s : State) : (s.onAct f).pending = s.pending := rfl
@[simp] theorem State.onAct_freeCtr (f : Act → Act) (s : State) : (s.onAct f).freeCtr = s.freeCtr := rfl
@[simp] theorem State.onAct_pwr (f : Act → Act) (s : State) : (s.onAct f).pwr = s.pwr := rfl
@[simp] theorem State.onAct_rstc (f : Act → Act) (s : State) : (s.onAct f).rstc = s.rstc := rfl
@[simp] theorem State.onAct_tb (f : Act → Act) (s : State) : (s.onAct f).tb = s.tb := rfl
@[simp] theorem State.onAct_aon (f : Act → Act) (s : State) : (s.onAct f).aon = s.aon := rfl
@[simp] theorem State.onAct_cxp (f : Act → Act) (s : State) : (s.onAct f).cxp = s.cxp := rfl
@[simp] theorem State.onAct_sess (f : Act → Act) (s : State) : (s.onAct f).sess = s.sess := rfl
@[simp] theorem State.onAct_streams (f : Act → Act) (s : State) : (s.onAct f).streams = s.streams := rfl
@[simp] theorem State.onAct_rd (f : Act → Act) (s : State) : (s.onAct f).rd = s.rd := rfl
@[simp] theorem State.onAct_haul (f : Act → Act) (s : State) : (s.onAct f).haul = s.haul := rfl
@[simp] theorem State.onAct_pipe (f : Act → Act) (s : State) : (s.onAct f).pipe = s.pipe := rfl
@[simp] theorem State.onAct_cal (f : Act → Act) (s : State) : (s.onAct f).cal = s.cal := rfl
@[simp] theorem State.onAct_act (f : Act → Act) (s : State) : (s.onAct f).act = f s.act := rfl
@[simp] theorem State.onAct_trig (f : Act → Act) (s : State) : (s.onAct f).trig = s.trig := rfl
@[simp] theorem State.onAct_enc (f : Act → Act) (s : State) : (s.onAct f).enc = s.enc := rfl
@[simp] theorem State.onAct_gang (f : Act → Act) (s : State) : (s.onAct f).gang = s.gang := rfl
@[simp] theorem State.onAct_wdg (f : Act → Act) (s : State) : (s.onAct f).wdg = s.wdg := rfl
@[simp] theorem State.onAct_thm (f : Act → Act) (s : State) : (s.onAct f).thm = s.thm := rfl
@[simp] theorem State.onAct_psto (f : Act → Act) (s : State) : (s.onAct f).psto = s.psto := rfl
@[simp] theorem State.onAct_cfl (f : Act → Act) (s : State) : (s.onAct f).cfl = s.cfl := rfl
@[simp] theorem State.onAct_fuse (f : Act → Act) (s : State) : (s.onAct f).fuse = s.fuse := rfl
@[simp] theorem State.onAct_jtag (f : Act → Act) (s : State) : (s.onAct f).jtag = s.jtag := rfl
@[simp] theorem State.onAct_counters (f : Act → Act) (s : State) : (s.onAct f).counters = s.counters := rfl
@[simp] theorem State.onTrig_pending (f : Trig → Trig) (s : State) : (s.onTrig f).pending = s.pending := rfl
@[simp] theorem State.onTrig_freeCtr (f : Trig → Trig) (s : State) : (s.onTrig f).freeCtr = s.freeCtr := rfl
@[simp] theorem State.onTrig_pwr (f : Trig → Trig) (s : State) : (s.onTrig f).pwr = s.pwr := rfl
@[simp] theorem State.onTrig_rstc (f : Trig → Trig) (s : State) : (s.onTrig f).rstc = s.rstc := rfl
@[simp] theorem State.onTrig_tb (f : Trig → Trig) (s : State) : (s.onTrig f).tb = s.tb := rfl
@[simp] theorem State.onTrig_aon (f : Trig → Trig) (s : State) : (s.onTrig f).aon = s.aon := rfl
@[simp] theorem State.onTrig_cxp (f : Trig → Trig) (s : State) : (s.onTrig f).cxp = s.cxp := rfl
@[simp] theorem State.onTrig_sess (f : Trig → Trig) (s : State) : (s.onTrig f).sess = s.sess := rfl
@[simp] theorem State.onTrig_streams (f : Trig → Trig) (s : State) : (s.onTrig f).streams = s.streams := rfl
@[simp] theorem State.onTrig_rd (f : Trig → Trig) (s : State) : (s.onTrig f).rd = s.rd := rfl
@[simp] theorem State.onTrig_haul (f : Trig → Trig) (s : State) : (s.onTrig f).haul = s.haul := rfl
@[simp] theorem State.onTrig_pipe (f : Trig → Trig) (s : State) : (s.onTrig f).pipe = s.pipe := rfl
@[simp] theorem State.onTrig_cal (f : Trig → Trig) (s : State) : (s.onTrig f).cal = s.cal := rfl
@[simp] theorem State.onTrig_act (f : Trig → Trig) (s : State) : (s.onTrig f).act = s.act := rfl
@[simp] theorem State.onTrig_trig (f : Trig → Trig) (s : State) : (s.onTrig f).trig = f s.trig := rfl
@[simp] theorem State.onTrig_enc (f : Trig → Trig) (s : State) : (s.onTrig f).enc = s.enc := rfl
@[simp] theorem State.onTrig_gang (f : Trig → Trig) (s : State) : (s.onTrig f).gang = s.gang := rfl
@[simp] theorem State.onTrig_wdg (f : Trig → Trig) (s : State) : (s.onTrig f).wdg = s.wdg := rfl
@[simp] theorem State.onTrig_thm (f : Trig → Trig) (s : State) : (s.onTrig f).thm = s.thm := rfl
@[simp] theorem State.onTrig_psto (f : Trig → Trig) (s : State) : (s.onTrig f).psto = s.psto := rfl
@[simp] theorem State.onTrig_cfl (f : Trig → Trig) (s : State) : (s.onTrig f).cfl = s.cfl := rfl
@[simp] theorem State.onTrig_fuse (f : Trig → Trig) (s : State) : (s.onTrig f).fuse = s.fuse := rfl
@[simp] theorem State.onTrig_jtag (f : Trig → Trig) (s : State) : (s.onTrig f).jtag = s.jtag := rfl
@[simp] theorem State.onTrig_counters (f : Trig → Trig) (s : State) : (s.onTrig f).counters = s.counters := rfl
@[simp] theorem State.onEnc_pending (f : Enc → Enc) (s : State) : (s.onEnc f).pending = s.pending := rfl
@[simp] theorem State.onEnc_freeCtr (f : Enc → Enc) (s : State) : (s.onEnc f).freeCtr = s.freeCtr := rfl
@[simp] theorem State.onEnc_pwr (f : Enc → Enc) (s : State) : (s.onEnc f).pwr = s.pwr := rfl
@[simp] theorem State.onEnc_rstc (f : Enc → Enc) (s : State) : (s.onEnc f).rstc = s.rstc := rfl
@[simp] theorem State.onEnc_tb (f : Enc → Enc) (s : State) : (s.onEnc f).tb = s.tb := rfl
@[simp] theorem State.onEnc_aon (f : Enc → Enc) (s : State) : (s.onEnc f).aon = s.aon := rfl
@[simp] theorem State.onEnc_cxp (f : Enc → Enc) (s : State) : (s.onEnc f).cxp = s.cxp := rfl
@[simp] theorem State.onEnc_sess (f : Enc → Enc) (s : State) : (s.onEnc f).sess = s.sess := rfl
@[simp] theorem State.onEnc_streams (f : Enc → Enc) (s : State) : (s.onEnc f).streams = s.streams := rfl
@[simp] theorem State.onEnc_rd (f : Enc → Enc) (s : State) : (s.onEnc f).rd = s.rd := rfl
@[simp] theorem State.onEnc_haul (f : Enc → Enc) (s : State) : (s.onEnc f).haul = s.haul := rfl
@[simp] theorem State.onEnc_pipe (f : Enc → Enc) (s : State) : (s.onEnc f).pipe = s.pipe := rfl
@[simp] theorem State.onEnc_cal (f : Enc → Enc) (s : State) : (s.onEnc f).cal = s.cal := rfl
@[simp] theorem State.onEnc_act (f : Enc → Enc) (s : State) : (s.onEnc f).act = s.act := rfl
@[simp] theorem State.onEnc_trig (f : Enc → Enc) (s : State) : (s.onEnc f).trig = s.trig := rfl
@[simp] theorem State.onEnc_enc (f : Enc → Enc) (s : State) : (s.onEnc f).enc = f s.enc := rfl
@[simp] theorem State.onEnc_gang (f : Enc → Enc) (s : State) : (s.onEnc f).gang = s.gang := rfl
@[simp] theorem State.onEnc_wdg (f : Enc → Enc) (s : State) : (s.onEnc f).wdg = s.wdg := rfl
@[simp] theorem State.onEnc_thm (f : Enc → Enc) (s : State) : (s.onEnc f).thm = s.thm := rfl
@[simp] theorem State.onEnc_psto (f : Enc → Enc) (s : State) : (s.onEnc f).psto = s.psto := rfl
@[simp] theorem State.onEnc_cfl (f : Enc → Enc) (s : State) : (s.onEnc f).cfl = s.cfl := rfl
@[simp] theorem State.onEnc_fuse (f : Enc → Enc) (s : State) : (s.onEnc f).fuse = s.fuse := rfl
@[simp] theorem State.onEnc_jtag (f : Enc → Enc) (s : State) : (s.onEnc f).jtag = s.jtag := rfl
@[simp] theorem State.onEnc_counters (f : Enc → Enc) (s : State) : (s.onEnc f).counters = s.counters := rfl
@[simp] theorem State.onGang_pending (f : Gang → Gang) (s : State) : (s.onGang f).pending = s.pending := rfl
@[simp] theorem State.onGang_freeCtr (f : Gang → Gang) (s : State) : (s.onGang f).freeCtr = s.freeCtr := rfl
@[simp] theorem State.onGang_pwr (f : Gang → Gang) (s : State) : (s.onGang f).pwr = s.pwr := rfl
@[simp] theorem State.onGang_rstc (f : Gang → Gang) (s : State) : (s.onGang f).rstc = s.rstc := rfl
@[simp] theorem State.onGang_tb (f : Gang → Gang) (s : State) : (s.onGang f).tb = s.tb := rfl
@[simp] theorem State.onGang_aon (f : Gang → Gang) (s : State) : (s.onGang f).aon = s.aon := rfl
@[simp] theorem State.onGang_cxp (f : Gang → Gang) (s : State) : (s.onGang f).cxp = s.cxp := rfl
@[simp] theorem State.onGang_sess (f : Gang → Gang) (s : State) : (s.onGang f).sess = s.sess := rfl
@[simp] theorem State.onGang_streams (f : Gang → Gang) (s : State) : (s.onGang f).streams = s.streams := rfl
@[simp] theorem State.onGang_rd (f : Gang → Gang) (s : State) : (s.onGang f).rd = s.rd := rfl
@[simp] theorem State.onGang_haul (f : Gang → Gang) (s : State) : (s.onGang f).haul = s.haul := rfl
@[simp] theorem State.onGang_pipe (f : Gang → Gang) (s : State) : (s.onGang f).pipe = s.pipe := rfl
@[simp] theorem State.onGang_cal (f : Gang → Gang) (s : State) : (s.onGang f).cal = s.cal := rfl
@[simp] theorem State.onGang_act (f : Gang → Gang) (s : State) : (s.onGang f).act = s.act := rfl
@[simp] theorem State.onGang_trig (f : Gang → Gang) (s : State) : (s.onGang f).trig = s.trig := rfl
@[simp] theorem State.onGang_enc (f : Gang → Gang) (s : State) : (s.onGang f).enc = s.enc := rfl
@[simp] theorem State.onGang_gang (f : Gang → Gang) (s : State) : (s.onGang f).gang = f s.gang := rfl
@[simp] theorem State.onGang_wdg (f : Gang → Gang) (s : State) : (s.onGang f).wdg = s.wdg := rfl
@[simp] theorem State.onGang_thm (f : Gang → Gang) (s : State) : (s.onGang f).thm = s.thm := rfl
@[simp] theorem State.onGang_psto (f : Gang → Gang) (s : State) : (s.onGang f).psto = s.psto := rfl
@[simp] theorem State.onGang_cfl (f : Gang → Gang) (s : State) : (s.onGang f).cfl = s.cfl := rfl
@[simp] theorem State.onGang_fuse (f : Gang → Gang) (s : State) : (s.onGang f).fuse = s.fuse := rfl
@[simp] theorem State.onGang_jtag (f : Gang → Gang) (s : State) : (s.onGang f).jtag = s.jtag := rfl
@[simp] theorem State.onGang_counters (f : Gang → Gang) (s : State) : (s.onGang f).counters = s.counters := rfl
@[simp] theorem State.onWdg_pending (f : Wdg → Wdg) (s : State) : (s.onWdg f).pending = s.pending := rfl
@[simp] theorem State.onWdg_freeCtr (f : Wdg → Wdg) (s : State) : (s.onWdg f).freeCtr = s.freeCtr := rfl
@[simp] theorem State.onWdg_pwr (f : Wdg → Wdg) (s : State) : (s.onWdg f).pwr = s.pwr := rfl
@[simp] theorem State.onWdg_rstc (f : Wdg → Wdg) (s : State) : (s.onWdg f).rstc = s.rstc := rfl
@[simp] theorem State.onWdg_tb (f : Wdg → Wdg) (s : State) : (s.onWdg f).tb = s.tb := rfl
@[simp] theorem State.onWdg_aon (f : Wdg → Wdg) (s : State) : (s.onWdg f).aon = s.aon := rfl
@[simp] theorem State.onWdg_cxp (f : Wdg → Wdg) (s : State) : (s.onWdg f).cxp = s.cxp := rfl
@[simp] theorem State.onWdg_sess (f : Wdg → Wdg) (s : State) : (s.onWdg f).sess = s.sess := rfl
@[simp] theorem State.onWdg_streams (f : Wdg → Wdg) (s : State) : (s.onWdg f).streams = s.streams := rfl
@[simp] theorem State.onWdg_rd (f : Wdg → Wdg) (s : State) : (s.onWdg f).rd = s.rd := rfl
@[simp] theorem State.onWdg_haul (f : Wdg → Wdg) (s : State) : (s.onWdg f).haul = s.haul := rfl
@[simp] theorem State.onWdg_pipe (f : Wdg → Wdg) (s : State) : (s.onWdg f).pipe = s.pipe := rfl
@[simp] theorem State.onWdg_cal (f : Wdg → Wdg) (s : State) : (s.onWdg f).cal = s.cal := rfl
@[simp] theorem State.onWdg_act (f : Wdg → Wdg) (s : State) : (s.onWdg f).act = s.act := rfl
@[simp] theorem State.onWdg_trig (f : Wdg → Wdg) (s : State) : (s.onWdg f).trig = s.trig := rfl
@[simp] theorem State.onWdg_enc (f : Wdg → Wdg) (s : State) : (s.onWdg f).enc = s.enc := rfl
@[simp] theorem State.onWdg_gang (f : Wdg → Wdg) (s : State) : (s.onWdg f).gang = s.gang := rfl
@[simp] theorem State.onWdg_wdg (f : Wdg → Wdg) (s : State) : (s.onWdg f).wdg = f s.wdg := rfl
@[simp] theorem State.onWdg_thm (f : Wdg → Wdg) (s : State) : (s.onWdg f).thm = s.thm := rfl
@[simp] theorem State.onWdg_psto (f : Wdg → Wdg) (s : State) : (s.onWdg f).psto = s.psto := rfl
@[simp] theorem State.onWdg_cfl (f : Wdg → Wdg) (s : State) : (s.onWdg f).cfl = s.cfl := rfl
@[simp] theorem State.onWdg_fuse (f : Wdg → Wdg) (s : State) : (s.onWdg f).fuse = s.fuse := rfl
@[simp] theorem State.onWdg_jtag (f : Wdg → Wdg) (s : State) : (s.onWdg f).jtag = s.jtag := rfl
@[simp] theorem State.onWdg_counters (f : Wdg → Wdg) (s : State) : (s.onWdg f).counters = s.counters := rfl
@[simp] theorem State.onThm_pending (f : Thm → Thm) (s : State) : (s.onThm f).pending = s.pending := rfl
@[simp] theorem State.onThm_freeCtr (f : Thm → Thm) (s : State) : (s.onThm f).freeCtr = s.freeCtr := rfl
@[simp] theorem State.onThm_pwr (f : Thm → Thm) (s : State) : (s.onThm f).pwr = s.pwr := rfl
@[simp] theorem State.onThm_rstc (f : Thm → Thm) (s : State) : (s.onThm f).rstc = s.rstc := rfl
@[simp] theorem State.onThm_tb (f : Thm → Thm) (s : State) : (s.onThm f).tb = s.tb := rfl
@[simp] theorem State.onThm_aon (f : Thm → Thm) (s : State) : (s.onThm f).aon = s.aon := rfl
@[simp] theorem State.onThm_cxp (f : Thm → Thm) (s : State) : (s.onThm f).cxp = s.cxp := rfl
@[simp] theorem State.onThm_sess (f : Thm → Thm) (s : State) : (s.onThm f).sess = s.sess := rfl
@[simp] theorem State.onThm_streams (f : Thm → Thm) (s : State) : (s.onThm f).streams = s.streams := rfl
@[simp] theorem State.onThm_rd (f : Thm → Thm) (s : State) : (s.onThm f).rd = s.rd := rfl
@[simp] theorem State.onThm_haul (f : Thm → Thm) (s : State) : (s.onThm f).haul = s.haul := rfl
@[simp] theorem State.onThm_pipe (f : Thm → Thm) (s : State) : (s.onThm f).pipe = s.pipe := rfl
@[simp] theorem State.onThm_cal (f : Thm → Thm) (s : State) : (s.onThm f).cal = s.cal := rfl
@[simp] theorem State.onThm_act (f : Thm → Thm) (s : State) : (s.onThm f).act = s.act := rfl
@[simp] theorem State.onThm_trig (f : Thm → Thm) (s : State) : (s.onThm f).trig = s.trig := rfl
@[simp] theorem State.onThm_enc (f : Thm → Thm) (s : State) : (s.onThm f).enc = s.enc := rfl
@[simp] theorem State.onThm_gang (f : Thm → Thm) (s : State) : (s.onThm f).gang = s.gang := rfl
@[simp] theorem State.onThm_wdg (f : Thm → Thm) (s : State) : (s.onThm f).wdg = s.wdg := rfl
@[simp] theorem State.onThm_thm (f : Thm → Thm) (s : State) : (s.onThm f).thm = f s.thm := rfl
@[simp] theorem State.onThm_psto (f : Thm → Thm) (s : State) : (s.onThm f).psto = s.psto := rfl
@[simp] theorem State.onThm_cfl (f : Thm → Thm) (s : State) : (s.onThm f).cfl = s.cfl := rfl
@[simp] theorem State.onThm_fuse (f : Thm → Thm) (s : State) : (s.onThm f).fuse = s.fuse := rfl
@[simp] theorem State.onThm_jtag (f : Thm → Thm) (s : State) : (s.onThm f).jtag = s.jtag := rfl
@[simp] theorem State.onThm_counters (f : Thm → Thm) (s : State) : (s.onThm f).counters = s.counters := rfl
@[simp] theorem State.onPsto_pending (f : Psto → Psto) (s : State) : (s.onPsto f).pending = s.pending := rfl
@[simp] theorem State.onPsto_freeCtr (f : Psto → Psto) (s : State) : (s.onPsto f).freeCtr = s.freeCtr := rfl
@[simp] theorem State.onPsto_pwr (f : Psto → Psto) (s : State) : (s.onPsto f).pwr = s.pwr := rfl
@[simp] theorem State.onPsto_rstc (f : Psto → Psto) (s : State) : (s.onPsto f).rstc = s.rstc := rfl
@[simp] theorem State.onPsto_tb (f : Psto → Psto) (s : State) : (s.onPsto f).tb = s.tb := rfl
@[simp] theorem State.onPsto_aon (f : Psto → Psto) (s : State) : (s.onPsto f).aon = s.aon := rfl
@[simp] theorem State.onPsto_cxp (f : Psto → Psto) (s : State) : (s.onPsto f).cxp = s.cxp := rfl
@[simp] theorem State.onPsto_sess (f : Psto → Psto) (s : State) : (s.onPsto f).sess = s.sess := rfl
@[simp] theorem State.onPsto_streams (f : Psto → Psto) (s : State) : (s.onPsto f).streams = s.streams := rfl
@[simp] theorem State.onPsto_rd (f : Psto → Psto) (s : State) : (s.onPsto f).rd = s.rd := rfl
@[simp] theorem State.onPsto_haul (f : Psto → Psto) (s : State) : (s.onPsto f).haul = s.haul := rfl
@[simp] theorem State.onPsto_pipe (f : Psto → Psto) (s : State) : (s.onPsto f).pipe = s.pipe := rfl
@[simp] theorem State.onPsto_cal (f : Psto → Psto) (s : State) : (s.onPsto f).cal = s.cal := rfl
@[simp] theorem State.onPsto_act (f : Psto → Psto) (s : State) : (s.onPsto f).act = s.act := rfl
@[simp] theorem State.onPsto_trig (f : Psto → Psto) (s : State) : (s.onPsto f).trig = s.trig := rfl
@[simp] theorem State.onPsto_enc (f : Psto → Psto) (s : State) : (s.onPsto f).enc = s.enc := rfl
@[simp] theorem State.onPsto_gang (f : Psto → Psto) (s : State) : (s.onPsto f).gang = s.gang := rfl
@[simp] theorem State.onPsto_wdg (f : Psto → Psto) (s : State) : (s.onPsto f).wdg = s.wdg := rfl
@[simp] theorem State.onPsto_thm (f : Psto → Psto) (s : State) : (s.onPsto f).thm = s.thm := rfl
@[simp] theorem State.onPsto_psto (f : Psto → Psto) (s : State) : (s.onPsto f).psto = f s.psto := rfl
@[simp] theorem State.onPsto_cfl (f : Psto → Psto) (s : State) : (s.onPsto f).cfl = s.cfl := rfl
@[simp] theorem State.onPsto_fuse (f : Psto → Psto) (s : State) : (s.onPsto f).fuse = s.fuse := rfl
@[simp] theorem State.onPsto_jtag (f : Psto → Psto) (s : State) : (s.onPsto f).jtag = s.jtag := rfl
@[simp] theorem State.onPsto_counters (f : Psto → Psto) (s : State) : (s.onPsto f).counters = s.counters := rfl
@[simp] theorem State.onCfl_pending (f : Cfl → Cfl) (s : State) : (s.onCfl f).pending = s.pending := rfl
@[simp] theorem State.onCfl_freeCtr (f : Cfl → Cfl) (s : State) : (s.onCfl f).freeCtr = s.freeCtr := rfl
@[simp] theorem State.onCfl_pwr (f : Cfl → Cfl) (s : State) : (s.onCfl f).pwr = s.pwr := rfl
@[simp] theorem State.onCfl_rstc (f : Cfl → Cfl) (s : State) : (s.onCfl f).rstc = s.rstc := rfl
@[simp] theorem State.onCfl_tb (f : Cfl → Cfl) (s : State) : (s.onCfl f).tb = s.tb := rfl
@[simp] theorem State.onCfl_aon (f : Cfl → Cfl) (s : State) : (s.onCfl f).aon = s.aon := rfl
@[simp] theorem State.onCfl_cxp (f : Cfl → Cfl) (s : State) : (s.onCfl f).cxp = s.cxp := rfl
@[simp] theorem State.onCfl_sess (f : Cfl → Cfl) (s : State) : (s.onCfl f).sess = s.sess := rfl
@[simp] theorem State.onCfl_streams (f : Cfl → Cfl) (s : State) : (s.onCfl f).streams = s.streams := rfl
@[simp] theorem State.onCfl_rd (f : Cfl → Cfl) (s : State) : (s.onCfl f).rd = s.rd := rfl
@[simp] theorem State.onCfl_haul (f : Cfl → Cfl) (s : State) : (s.onCfl f).haul = s.haul := rfl
@[simp] theorem State.onCfl_pipe (f : Cfl → Cfl) (s : State) : (s.onCfl f).pipe = s.pipe := rfl
@[simp] theorem State.onCfl_cal (f : Cfl → Cfl) (s : State) : (s.onCfl f).cal = s.cal := rfl
@[simp] theorem State.onCfl_act (f : Cfl → Cfl) (s : State) : (s.onCfl f).act = s.act := rfl
@[simp] theorem State.onCfl_trig (f : Cfl → Cfl) (s : State) : (s.onCfl f).trig = s.trig := rfl
@[simp] theorem State.onCfl_enc (f : Cfl → Cfl) (s : State) : (s.onCfl f).enc = s.enc := rfl
@[simp] theorem State.onCfl_gang (f : Cfl → Cfl) (s : State) : (s.onCfl f).gang = s.gang := rfl
@[simp] theorem State.onCfl_wdg (f : Cfl → Cfl) (s : State) : (s.onCfl f).wdg = s.wdg := rfl
@[simp] theorem State.onCfl_thm (f : Cfl → Cfl) (s : State) : (s.onCfl f).thm = s.thm := rfl
@[simp] theorem State.onCfl_psto (f : Cfl → Cfl) (s : State) : (s.onCfl f).psto = s.psto := rfl
@[simp] theorem State.onCfl_cfl (f : Cfl → Cfl) (s : State) : (s.onCfl f).cfl = f s.cfl := rfl
@[simp] theorem State.onCfl_fuse (f : Cfl → Cfl) (s : State) : (s.onCfl f).fuse = s.fuse := rfl
@[simp] theorem State.onCfl_jtag (f : Cfl → Cfl) (s : State) : (s.onCfl f).jtag = s.jtag := rfl
@[simp] theorem State.onCfl_counters (f : Cfl → Cfl) (s : State) : (s.onCfl f).counters = s.counters := rfl
@[simp] theorem State.onFuse_pending (f : Fuse → Fuse) (s : State) : (s.onFuse f).pending = s.pending := rfl
@[simp] theorem State.onFuse_freeCtr (f : Fuse → Fuse) (s : State) : (s.onFuse f).freeCtr = s.freeCtr := rfl
@[simp] theorem State.onFuse_pwr (f : Fuse → Fuse) (s : State) : (s.onFuse f).pwr = s.pwr := rfl
@[simp] theorem State.onFuse_rstc (f : Fuse → Fuse) (s : State) : (s.onFuse f).rstc = s.rstc := rfl
@[simp] theorem State.onFuse_tb (f : Fuse → Fuse) (s : State) : (s.onFuse f).tb = s.tb := rfl
@[simp] theorem State.onFuse_aon (f : Fuse → Fuse) (s : State) : (s.onFuse f).aon = s.aon := rfl
@[simp] theorem State.onFuse_cxp (f : Fuse → Fuse) (s : State) : (s.onFuse f).cxp = s.cxp := rfl
@[simp] theorem State.onFuse_sess (f : Fuse → Fuse) (s : State) : (s.onFuse f).sess = s.sess := rfl
@[simp] theorem State.onFuse_streams (f : Fuse → Fuse) (s : State) : (s.onFuse f).streams = s.streams := rfl
@[simp] theorem State.onFuse_rd (f : Fuse → Fuse) (s : State) : (s.onFuse f).rd = s.rd := rfl
@[simp] theorem State.onFuse_haul (f : Fuse → Fuse) (s : State) : (s.onFuse f).haul = s.haul := rfl
@[simp] theorem State.onFuse_pipe (f : Fuse → Fuse) (s : State) : (s.onFuse f).pipe = s.pipe := rfl
@[simp] theorem State.onFuse_cal (f : Fuse → Fuse) (s : State) : (s.onFuse f).cal = s.cal := rfl
@[simp] theorem State.onFuse_act (f : Fuse → Fuse) (s : State) : (s.onFuse f).act = s.act := rfl
@[simp] theorem State.onFuse_trig (f : Fuse → Fuse) (s : State) : (s.onFuse f).trig = s.trig := rfl
@[simp] theorem State.onFuse_enc (f : Fuse → Fuse) (s : State) : (s.onFuse f).enc = s.enc := rfl
@[simp] theorem State.onFuse_gang (f : Fuse → Fuse) (s : State) : (s.onFuse f).gang = s.gang := rfl
@[simp] theorem State.onFuse_wdg (f : Fuse → Fuse) (s : State) : (s.onFuse f).wdg = s.wdg := rfl
@[simp] theorem State.onFuse_thm (f : Fuse → Fuse) (s : State) : (s.onFuse f).thm = s.thm := rfl
@[simp] theorem State.onFuse_psto (f : Fuse → Fuse) (s : State) : (s.onFuse f).psto = s.psto := rfl
@[simp] theorem State.onFuse_cfl (f : Fuse → Fuse) (s : State) : (s.onFuse f).cfl = s.cfl := rfl
@[simp] theorem State.onFuse_fuse (f : Fuse → Fuse) (s : State) : (s.onFuse f).fuse = f s.fuse := rfl
@[simp] theorem State.onFuse_jtag (f : Fuse → Fuse) (s : State) : (s.onFuse f).jtag = s.jtag := rfl
@[simp] theorem State.onFuse_counters (f : Fuse → Fuse) (s : State) : (s.onFuse f).counters = s.counters := rfl
@[simp] theorem State.onJtag_pending (f : Jtag → Jtag) (s : State) : (s.onJtag f).pending = s.pending := rfl
@[simp] theorem State.onJtag_freeCtr (f : Jtag → Jtag) (s : State) : (s.onJtag f).freeCtr = s.freeCtr := rfl
@[simp] theorem State.onJtag_pwr (f : Jtag → Jtag) (s : State) : (s.onJtag f).pwr = s.pwr := rfl
@[simp] theorem State.onJtag_rstc (f : Jtag → Jtag) (s : State) : (s.onJtag f).rstc = s.rstc := rfl
@[simp] theorem State.onJtag_tb (f : Jtag → Jtag) (s : State) : (s.onJtag f).tb = s.tb := rfl
@[simp] theorem State.onJtag_aon (f : Jtag → Jtag) (s : State) : (s.onJtag f).aon = s.aon := rfl
@[simp] theorem State.onJtag_cxp (f : Jtag → Jtag) (s : State) : (s.onJtag f).cxp = s.cxp := rfl
@[simp] theorem State.onJtag_sess (f : Jtag → Jtag) (s : State) : (s.onJtag f).sess = s.sess := rfl
@[simp] theorem State.onJtag_streams (f : Jtag → Jtag) (s : State) : (s.onJtag f).streams = s.streams := rfl
@[simp] theorem State.onJtag_rd (f : Jtag → Jtag) (s : State) : (s.onJtag f).rd = s.rd := rfl
@[simp] theorem State.onJtag_haul (f : Jtag → Jtag) (s : State) : (s.onJtag f).haul = s.haul := rfl
@[simp] theorem State.onJtag_pipe (f : Jtag → Jtag) (s : State) : (s.onJtag f).pipe = s.pipe := rfl
@[simp] theorem State.onJtag_cal (f : Jtag → Jtag) (s : State) : (s.onJtag f).cal = s.cal := rfl
@[simp] theorem State.onJtag_act (f : Jtag → Jtag) (s : State) : (s.onJtag f).act = s.act := rfl
@[simp] theorem State.onJtag_trig (f : Jtag → Jtag) (s : State) : (s.onJtag f).trig = s.trig := rfl
@[simp] theorem State.onJtag_enc (f : Jtag → Jtag) (s : State) : (s.onJtag f).enc = s.enc := rfl
@[simp] theorem State.onJtag_gang (f : Jtag → Jtag) (s : State) : (s.onJtag f).gang = s.gang := rfl
@[simp] theorem State.onJtag_wdg (f : Jtag → Jtag) (s : State) : (s.onJtag f).wdg = s.wdg := rfl
@[simp] theorem State.onJtag_thm (f : Jtag → Jtag) (s : State) : (s.onJtag f).thm = s.thm := rfl
@[simp] theorem State.onJtag_psto (f : Jtag → Jtag) (s : State) : (s.onJtag f).psto = s.psto := rfl
@[simp] theorem State.onJtag_cfl (f : Jtag → Jtag) (s : State) : (s.onJtag f).cfl = s.cfl := rfl
@[simp] theorem State.onJtag_fuse (f : Jtag → Jtag) (s : State) : (s.onJtag f).fuse = s.fuse := rfl
@[simp] theorem State.onJtag_jtag (f : Jtag → Jtag) (s : State) : (s.onJtag f).jtag = f s.jtag := rfl
@[simp] theorem State.onJtag_counters (f : Jtag → Jtag) (s : State) : (s.onJtag f).counters = s.counters := rfl
@[simp] theorem State.onCounters_pending (f : List Nat → List Nat) (s : State) : (s.onCounters f).pending = s.pending := rfl
@[simp] theorem State.onCounters_freeCtr (f : List Nat → List Nat) (s : State) : (s.onCounters f).freeCtr = s.freeCtr := rfl
@[simp] theorem State.onCounters_pwr (f : List Nat → List Nat) (s : State) : (s.onCounters f).pwr = s.pwr := rfl
@[simp] theorem State.onCounters_rstc (f : List Nat → List Nat) (s : State) : (s.onCounters f).rstc = s.rstc := rfl
@[simp] theorem State.onCounters_tb (f : List Nat → List Nat) (s : State) : (s.onCounters f).tb = s.tb := rfl
@[simp] theorem State.onCounters_aon (f : List Nat → List Nat) (s : State) : (s.onCounters f).aon = s.aon := rfl
@[simp] theorem State.onCounters_cxp (f : List Nat → List Nat) (s : State) : (s.onCounters f).cxp = s.cxp := rfl
@[simp] theorem State.onCounters_sess (f : List Nat → List Nat) (s : State) : (s.onCounters f).sess = s.sess := rfl
@[simp] theorem State.onCounters_streams (f : List Nat → List Nat) (s : State) : (s.onCounters f).streams = s.streams := rfl
@[simp] theorem State.onCounters_rd (f : List Nat → List Nat) (s : State) : (s.onCounters f).rd = s.rd := rfl
@[simp] theorem State.onCounters_haul (f : List Nat → List Nat) (s : State) : (s.onCounters f).haul = s.haul := rfl
@[simp] theorem State.onCounters_pipe (f : List Nat → List Nat) (s : State) : (s.onCounters f).pipe = s.pipe := rfl
@[simp] theorem State.onCounters_cal (f : List Nat → List Nat) (s : State) : (s.onCounters f).cal = s.cal := rfl
@[simp] theorem State.onCounters_act (f : List Nat → List Nat) (s : State) : (s.onCounters f).act = s.act := rfl
@[simp] theorem State.onCounters_trig (f : List Nat → List Nat) (s : State) : (s.onCounters f).trig = s.trig := rfl
@[simp] theorem State.onCounters_enc (f : List Nat → List Nat) (s : State) : (s.onCounters f).enc = s.enc := rfl
@[simp] theorem State.onCounters_gang (f : List Nat → List Nat) (s : State) : (s.onCounters f).gang = s.gang := rfl
@[simp] theorem State.onCounters_wdg (f : List Nat → List Nat) (s : State) : (s.onCounters f).wdg = s.wdg := rfl
@[simp] theorem State.onCounters_thm (f : List Nat → List Nat) (s : State) : (s.onCounters f).thm = s.thm := rfl
@[simp] theorem State.onCounters_psto (f : List Nat → List Nat) (s : State) : (s.onCounters f).psto = s.psto := rfl
@[simp] theorem State.onCounters_cfl (f : List Nat → List Nat) (s : State) : (s.onCounters f).cfl = s.cfl := rfl
@[simp] theorem State.onCounters_fuse (f : List Nat → List Nat) (s : State) : (s.onCounters f).fuse = s.fuse := rfl
@[simp] theorem State.onCounters_jtag (f : List Nat → List Nat) (s : State) : (s.onCounters f).jtag = s.jtag := rfl
@[simp] theorem State.onCounters_counters (f : List Nat → List Nat) (s : State) : (s.onCounters f).counters = f s.counters := rfl

end Sys2Proof.Machine
end

