-- ==== Sys2Proof/Laws/Encoder.lean ====
section
/-!
SUPPORT. What a start, a fire and the answer of a command leave of the encoder: everything (R664 to R667). The frame of every
operation under them, each by the lemmas before it.
-/

namespace Sys2Proof.Machine

open Sys2Proof

@[simp] theorem ite_enc (c : Prop) [Decidable c] (a b : State) : (if c then a else b).enc = if c then a.enc else b.enc :=
  apply_ite _ _ _ _

@[simp] theorem foldl_enc {α : Type} (f : State → α → State) (h : ∀ s a, (f s a).enc = s.enc) (l : List α) (s : State) :
    (l.foldl f s).enc = s.enc := by
  induction l generalizing s with
  | nil => rfl
  | cons a l ih => rw [List.foldl_cons, ih, h]

@[simp] theorem State.atTick_enc (t : Nat) (s : State) : (State.atTick t s).enc = s.enc := by
  unfold State.atTick
  repeat' (first | (simp; done) | split | simp)

@[simp] theorem State.setMode_enc (m : ModState) (s : State) : (State.setMode m s).enc = s.enc := by
  unfold State.setMode
  repeat' (first | (simp; done) | split | simp)

@[simp] theorem State.raiseEv_enc (e : Event) (s : State) : (State.raiseEv e s).enc = s.enc := by
  unfold State.raiseEv
  repeat' (first | (simp; done) | split | simp)

@[simp] theorem State.raise_enc (code : Nat) (data : List Byte) (s : State) : (State.raise code data s).enc = s.enc := by
  unfold State.raise
  repeat' (first | (simp; done) | split | simp)

@[simp] theorem State.raiseTo_enc (session code : Nat) (data : List Byte) (s : State) : (State.raiseTo session code data s).enc = s.enc := by
  unfold State.raiseTo
  repeat' (first | (simp; done) | split | simp)

@[simp] theorem State.raiseMode_enc (s : State) : (State.raiseMode s).enc = s.enc := by
  unfold State.raiseMode
  repeat' (first | (simp; done) | split | simp)

@[simp] theorem State.enter_enc (m : ModState) (s : State) : (State.enter m s).enc = s.enc := by
  unfold State.enter
  repeat' (first | (simp; done) | split | simp)

@[simp] theorem State.count_enc (i : Nat) (s : State) : (State.count i s).enc = s.enc := by
  unfold State.count
  repeat' (first | (simp; done) | split | simp)

@[simp] theorem State.answer_enc (h : Hdr) (op st : Nat) (res : List Byte) (s : State) : (State.answer h op st res s).enc = s.enc := by
  unfold State.answer
  repeat' (first | (simp; done) | split | simp)

@[simp] theorem State.interim_enc (h : Hdr) (op : Nat) (cmd : Option Instr) (fst : FlightSt) (st : Nat) (res : List Byte) (s : State) : (State.interim h op cmd fst st res s).enc = s.enc := by
  unfold State.interim
  repeat' (first | (simp; done) | split | simp)

@[simp] theorem State.accept_enc (h : Hdr) (op : Nat) (s : State) : (State.accept h op s).enc = s.enc := by
  unfold State.accept
  repeat' (first | (simp; done) | split | simp)

@[simp] theorem State.answerOpen_enc (f : Flight) (st : Nat) (res : List Byte) (s : State) : (State.answerOpen f st res s).enc = s.enc := by
  unfold State.answerOpen
  repeat' (first | (simp; done) | split | simp)

@[simp] theorem State.complete_enc (session tag code st : Nat) (data : List Byte) (s : State) : (State.complete session tag code st data s).enc = s.enc := by
  unfold State.complete
  repeat' (first | (simp; done) | split | simp)

@[simp] theorem State.complete0_enc (session tag op st : Nat) (res : List Byte) (s : State) : (State.complete0 session tag op st res s).enc = s.enc := by
  unfold State.complete0
  repeat' (first | (simp; done) | split | simp)

@[simp] theorem State.mailboxAnswer_enc (session tag op cls : Nat) (urgent : Bool) (last st : Nat) (res : List Byte) (s : State) : (State.mailboxAnswer session tag op cls urgent last st res s).enc = s.enc := by
  unfold State.mailboxAnswer
  repeat' (first | (simp; done) | split | simp)

@[simp] theorem State.packetIn_enc (s : State) : (State.packetIn s).enc = s.enc := by
  unfold State.packetIn
  repeat' (first | (simp; done) | split | simp)

@[simp] theorem State.taken_enc (h : Hdr) (op : Nat) (s : State) : (State.taken h op s).enc = s.enc := by
  unfold State.taken
  repeat' (first | (simp; done) | split | simp)

@[simp] theorem State.enqueue_enc (h : Hdr) (op : Nat) (cmd : Instr) (s : State) : (State.enqueue h op cmd s).enc = s.enc := by
  unfold State.enqueue
  repeat' (first | (simp; done) | split | simp)

@[simp] theorem State.refuseBusy_enc (h : Hdr) (op : Nat) (s : State) : (State.refuseBusy h op s).enc = s.enc := by
  unfold State.refuseBusy
  repeat' (first | (simp; done) | split | simp)

@[simp] theorem State.throttledEvent_enc (i resource : Nat) (s : State) : (State.throttledEvent i resource s).enc = s.enc := by
  unfold State.throttledEvent
  repeat' (first | (simp; done) | split | simp)

@[simp] theorem State.setStreams_enc (l : List Counted) (s : State) : (State.setStreams l s).enc = s.enc := by
  unfold State.setStreams
  repeat' (first | (simp; done) | split | simp)

@[simp] theorem State.liftDecimation_enc (s : State) : (State.liftDecimation s).enc = s.enc := by
  unfold State.liftDecimation
  repeat' (first | (simp; done) | split | simp)

@[simp] theorem State.onStream_enc (i : Nat) (f : Stream → Stream) (s : State) : (State.onStream i f s).enc = s.enc := by
  unfold State.onStream
  repeat' (first | (simp; done) | split | simp)

@[simp] theorem State.sendStream_enc (i : Nat) (x : ImagePart) (s : State) : (State.sendStream i x s).enc = s.enc := by
  unfold State.sendStream
  repeat' (first | (simp; done) | split | simp)

@[simp] theorem State.imageHeader_enc (i : Nat) (s : State) : (State.imageHeader i s).enc = s.enc := by
  unfold State.imageHeader; simp

@[simp] theorem State.raiseDrop_enc (i cause frame : Nat) (s : State) : (State.raiseDrop i cause frame s).enc = s.enc := by
  unfold State.raiseDrop
  repeat' (first | (simp; done) | split | simp)

@[simp] theorem State.answerFrameEnd_enc (i : Nat) (s : State) : (State.answerFrameEnd i s).enc = s.enc := by
  unfold State.answerFrameEnd
  repeat' (first | (simp; done) | split | simp)

@[simp] theorem State.endSnap_enc (i st : Nat) (s : State) : (State.endSnap i st s).enc = s.enc := by
  unfold State.endSnap
  repeat' (first | (simp; done) | split | simp)

@[simp] theorem State.mirrorClosed_enc (s : State) : (State.mirrorClosed s).enc = s.enc := by
  unfold State.mirrorClosed
  repeat' (first | (simp; done) | split | simp)

@[simp] theorem State.rdArmed_enc (by_ : ArmedBy) (s : State) : (State.rdArmed by_ s).enc = s.enc := by
  unfold State.rdArmed
  simp

@[simp] theorem State.rateStep_enc (s : State) : (State.rateStep s).enc = s.enc := by
  unfold State.rateStep
  repeat' (first | (simp; done) | split | simp)

@[simp] theorem State.rdDisarm_enc (s : State) : (State.rdDisarm s).enc = s.enc := by
  unfold State.rdDisarm
  repeat' (first | (simp; done) | split | simp)

@[simp] theorem State.toIdle_enc (s : State) : (State.toIdle s).enc = s.enc := by
  unfold State.toIdle
  repeat' (first | (simp; done) | split | simp)

@[simp] theorem State.settle_enc (s : State) : (State.settle s).enc = s.enc := by
  unfold State.settle
  repeat' (first | (simp; done) | split | simp)

@[simp] theorem State.haltAtEnd_enc (i : Nat) (close : Bool) (s : State) : (State.haltAtEnd i close s).enc = s.enc := by
  unfold State.haltAtEnd
  repeat' (first | (simp; done) | split | simp)

@[simp] theorem State.haltAllAtEnd_enc (s : State) : (State.haltAllAtEnd s).enc = s.enc := by
  unfold State.haltAllAtEnd
  repeat' (first | (simp; done) | split | simp)

@[simp] theorem State.onChan_enc (i : Nat) (f : Chan → Chan) (s : State) : (State.onChan i f s).enc = s.enc := by
  unfold State.onChan
  repeat' (first | (simp; done) | split | simp)

@[simp] theorem State.onChisel_enc (q : Nat) (f : Chisel → Chisel) (s : State) : (State.onChisel q f s).enc = s.enc := by
  unfold State.onChisel
  repeat' (first | (simp; done) | split | simp)

@[simp] theorem State.actFaultEvent_enc (code fault : Nat) (s : State) : (State.actFaultEvent code fault s).enc = s.enc := by
  unfold State.actFaultEvent
  repeat' (first | (simp; done) | split | simp)

@[simp] theorem State.actDiag_enc (code kind value : Nat) (s : State) : (State.actDiag code kind value s).enc = s.enc := by
  unfold State.actDiag
  repeat' (first | (simp; done) | split | simp)

@[simp] theorem State.releaseSchedules_enc (p : Schedule → Bool) (t : Nat) (s : State) : (State.releaseSchedules p t s).enc = s.enc := by
  unfold State.releaseSchedules
  repeat' (first | (simp; done) | split | simp)

@[simp] theorem State.programFault_enc (q cause i : Nat) (s : State) : (State.programFault q cause i s).enc = s.enc := by
  unfold State.programFault
  repeat' (first | (simp; done) | split | simp)

@[simp] theorem State.chiselDrive_enc (q i path dir t : Nat) (s : State) : (State.chiselDrive q i path dir t s).enc = s.enc := by
  unfold State.chiselDrive
  repeat' (first | (simp; done) | split | simp)

@[simp] theorem State.chiselStep_enc (q t : Nat) (s : State) : (State.chiselStep q t s).enc = s.enc := by
  unfold State.chiselStep
  repeat' (first | (simp; done) | split | simp)

@[simp] theorem State.chiselRun_enc (q t n : Nat) (s : State) : (State.chiselRun q t n s).enc = s.enc := by
  induction n generalizing s with
  | zero => rfl
  | succ k ih => unfold State.chiselRun; split <;> simp [ih]

@[simp] theorem State.chiselStart_enc (q entry t : Nat) (s : State) : (State.chiselStart q entry t s).enc = s.enc := by
  unfold State.chiselStart
  repeat' (first | (simp; done) | split | simp)

@[simp] theorem State.moveEnds_enc (confirmed counted : Bool) (s : State) : (State.moveEnds confirmed counted s).enc = s.enc := by
  unfold State.moveEnds
  repeat' (first | (simp; done) | split | simp)

@[simp] theorem State.moveStart_enc (t : Nat) (s : State) : (State.moveStart t s).enc = s.enc := by
  unfold State.moveStart
  repeat' (first | (simp; done) | split | simp)

@[simp] theorem State.moveRequest_enc (dir : Nat) (asker : MoveBy) (t : Nat) (s : State) : (State.moveRequest dir asker t s).enc = s.enc := by
  unfold State.moveRequest
  repeat' (first | (simp; done) | split | simp)

@[simp] theorem State.onDrift_enc (f : Drift → Drift) (s : State) : (State.onDrift f s).enc = s.enc := by
  unfold State.onDrift
  repeat' (first | (simp; done) | split | simp)

@[simp] theorem State.driftSample_enc (s : State) : (State.driftSample s).enc = s.enc := by
  unfold State.driftSample
  repeat' (first | (simp; done) | split | simp)

@[simp] theorem State.calDone_enc (origin tag st : Nat) (data : List Byte) (s : State) : (State.calDone origin tag st data s).enc = s.enc := by
  unfold State.calDone
  repeat' (first | (simp; done) | split | simp)

@[simp] theorem State.calDisarm_enc (s : State) : (State.calDisarm s).enc = s.enc := by
  unfold State.calDisarm
  repeat' (first | (simp; done) | split | simp)

@[simp] theorem State.calRelease_enc (s : State) : (State.calRelease s).enc = s.enc := by
  unfold State.calRelease
  repeat' (first | (simp; done) | split | simp)

@[simp] theorem State.calAbandoned_enc (s : State) : (State.calAbandoned s).enc = s.enc := by
  unfold State.calAbandoned
  repeat' (first | (simp; done) | split | simp)

@[simp] theorem State.calEnds_enc (st : Nat) (opened : Bool) (s : State) : (State.calEnds st opened s).enc = s.enc := by
  unfold State.calEnds
  repeat' (first | (simp; done) | split | simp)

@[simp] theorem State.onCalRun_enc (f : Cal → Cal) (s : State) : (State.onCalRun f s).enc = s.enc := by
  unfold State.onCalRun
  repeat' (first | (simp; done) | split | simp)

@[simp] theorem State.calUnopened_enc (s : State) : (State.calUnopened s).enc = s.enc := by
  unfold State.calUnopened
  repeat' (first | (simp; done) | split | simp)

@[simp] theorem State.calOpen_enc (s : State) : (State.calOpen s).enc = s.enc := by
  unfold State.calOpen
  repeat' (first | (simp; done) | split | simp)

@[simp] theorem State.calFails_enc (bits : Nat) (s : State) : (State.calFails bits s).enc = s.enc := by
  unfold State.calFails
  repeat' (first | (simp; done) | split | simp)

@[simp] theorem State.calMove_enc (dir : Nat) (ph : CalPhase) (s : State) : (State.calMove dir ph s).enc = s.enc := by
  unfold State.calMove
  repeat' (first | (simp; done) | split | simp)

@[simp] theorem State.calReadout_enc (s : State) : (State.calReadout s).enc = s.enc := by
  unfold State.calReadout
  repeat' (first | (simp; done) | split | simp)

@[simp] theorem State.calStart_enc (gain : Bool) (origin tag sigma mean temp : Nat) (s : State) : (State.calStart gain origin tag sigma mean temp s).enc = s.enc := by
  unfold State.calStart
  repeat' (first | (simp; done) | split | simp)

@[simp] theorem State.recallStart_enc (h : Hdr) (set : Nat) (s : State) : (State.recallStart h set s).enc = s.enc := by
  unfold State.recallStart
  repeat' (first | (simp; done) | split | simp)

@[simp] theorem State.saveStart_enc (h : Hdr) (s : State) : (State.saveStart h s).enc = s.enc := by
  unfold State.saveStart
  extract_lets s1
  have h1 : s1.enc = s.enc := by simp [s1]
  split
  · rw [State.onCfl_enc, h1]
  · exact h1

@[simp] theorem State.editStore_enc (f : RecStore → RecStore) (s : State) : (State.editStore f s).enc = s.enc := by
  unfold State.editStore
  repeat' (first | (simp; done) | split | simp)

@[simp] theorem State.shutterStart_enc (h : Hdr) (dir : Nat) (s : State) : (State.shutterStart h dir s).enc = s.enc := by
  unfold State.shutterStart
  repeat' (first | (simp; done) | split | simp)

@[simp] theorem State.startCmd_enc (c : Instr) (s : State) : (State.startCmd c s).enc = s.enc := by
  unfold State.startCmd
  repeat' (first | (simp; done) | split | simp)

@[simp] theorem State.serveDeferred_enc (f : Flight) (s : State) : (State.serveDeferred f s).enc = s.enc := by
  unfold State.serveDeferred
  repeat' (first | (simp; done) | split | simp)

@[simp] theorem State.tryDeferred_enc (s : State) (f : Flight) : (State.tryDeferred s f).enc = s.enc := by
  unfold State.tryDeferred
  repeat' (first | (simp; done) | split | simp)

@[simp] theorem State.reevaluate_enc (s : State) : (State.reevaluate s).enc = s.enc := by
  unfold State.reevaluate
  repeat' (first | (simp; done) | split | simp)

@[simp] theorem State.disagree_enc (kind member : Nat) (value : Int) (s : State) : (State.disagree kind member value s).enc = s.enc := by
  unfold State.disagree
  repeat' (first | (simp; done) | split | simp)

@[simp] theorem State.joinEnds_enc (st reason : Nat) (s : State) : (State.joinEnds st reason s).enc = s.enc := by
  unfold State.joinEnds
  repeat' (first | (simp; done) | split | simp)

@[simp] theorem State.gangOut_enc (s : State) : (State.gangOut s).enc = s.enc := by
  unfold State.gangOut
  repeat' (first | (simp; done) | split | simp)

@[simp] theorem State.gangLeaves_enc (reason : Nat) (s : State) : (State.gangLeaves reason s).enc = s.enc := by
  unfold State.gangLeaves
  repeat' (first | (simp; done) | split | simp)

@[simp] theorem State.lagThrottled_enc (s : State) : (State.lagThrottled s).enc = s.enc := by
  unfold State.lagThrottled
  repeat' (first | (simp; done) | split | simp)

@[simp] theorem State.stopAtEnd_enc (s : State) : (State.stopAtEnd s).enc = s.enc := by
  unfold State.stopAtEnd
  repeat' (first | (simp; done) | split | simp)

@[simp] theorem State.levelRaised_enc (old : Nat) (s : State) : (State.levelRaised old s).enc = s.enc := by
  unfold State.levelRaised
  repeat' (first | (simp; done) | split | simp)

@[simp] theorem State.convDemand_enc (k : Nat) (s : State) : (State.convDemand k s).enc = s.enc := by
  unfold State.convDemand
  repeat' (first | (simp; done) | split | simp)

@[simp] theorem State.convFrameEnd_enc (s : State) : (State.convFrameEnd s).enc = s.enc := by
  unfold State.convFrameEnd
  repeat' (first | (simp; done) | split | simp)

@[simp] theorem State.streamHalts_enc (s : State) (i : Nat) : (State.streamHalts s i).enc = s.enc := by
  unfold State.streamHalts
  repeat' (first | (simp; done) | split | simp)

@[simp] theorem State.gangFrameEnd_enc (s : State) : (State.gangFrameEnd s).enc = s.enc := by
  unfold State.gangFrameEnd
  repeat' (first | (simp; done) | split | simp)

@[simp] theorem State.frameEnds_enc (s : State) : (State.frameEnds s).enc = s.enc := by
  unfold State.frameEnds
  repeat' (first | (simp; done) | split | simp)

@[simp] theorem State.cutStream_enc (number rows : Nat) (s : State) (i : Nat) : (State.cutStream number rows s i).enc = s.enc := by
  unfold State.cutStream
  repeat' (first | (simp; done) | split | simp)

@[simp] theorem State.cutFrame_enc (s : State) : (State.cutFrame s).enc = s.enc := by
  unfold State.cutFrame
  repeat' (first | (simp; done) | split | simp)

@[simp] theorem State.startEarly_enc (s : State) : (State.startEarly s).enc = s.enc := by
  unfold State.startEarly
  repeat' (first | (simp; done) | split | simp)

@[simp] theorem State.startTaken_enc (t s0 number : Nat) (s : State) : (State.startTaken t s0 number s).enc = s.enc := by
  unfold State.startTaken
  repeat' (first | (simp; done) | split | simp)

@[simp] theorem State.gangStarts_enc (t : Nat) (s : State) : (State.gangStarts t s).enc = s.enc := by
  unfold State.gangStarts
  repeat' (first | (simp; done) | split | simp)

@[simp] theorem State.acceptStart_enc (t : Nat) (s : State) : (State.acceptStart t s).enc = s.enc := by
  unfold State.acceptStart
  repeat' (first | (simp; done) | split | simp)

@[simp] theorem State.startRequest_enc (src t : Nat) (s : State) : (State.startRequest src t s).enc = s.enc := by
  unfold State.startRequest
  repeat' (first | (simp; done) | split | simp)

@[simp] theorem State.imagesBegin_enc (s : State) : (State.imagesBegin s).enc = s.enc := by
  unfold State.imagesBegin; simp

@[simp] theorem State.fireEntry_enc (t : Nat) (s : State) (p : Nat × AngleEntry) : (State.fireEntry t s p).enc = s.enc := by
  unfold State.fireEntry
  repeat' (first | (simp; done) | split | simp)

end Sys2Proof.Machine
end

