-- ==== Sys2Proof/Laws/Memory.lean ====
section
/-!
SUPPORT. Sparse bytes in canonical form: what a write, a run of writes and an erase leave, byte by byte.
-/

namespace Sys2Proof.Machine
open Sys2Proof

/-- A lower start is as good. -/
theorem cellsFrom_mono {lo lo' : Nat} (h : lo' ≤ lo) (m : List Host.Cell) (hm : cellsFrom lo m = true) : cellsFrom lo' m = true := by
  cases m with
  | nil => rfl
  | cons c m =>
    simp only [cellsFrom, Bool.and_eq_true, decide_eq_true_eq] at *
    exact ⟨⟨by omega, hm.1.2⟩, hm.2⟩

/-- Writing one byte, from any start. -/
theorem cellsFrom_cellSet (m : List Host.Cell) (x : Nat) (v : Byte) (lo : Nat) (hlo : lo ≤ x) (hm : cellsFrom lo m = true) :
    cellsFrom lo (cellSet m x v) = true := by
  induction m generalizing lo with
  | nil => unfold cellSet; split <;> simp_all [cellsFrom]
  | cons c m ih =>
    obtain ⟨a, b⟩ := c
    have hm' := hm
    simp only [cellsFrom, Bool.and_eq_true, decide_eq_true_eq] at hm
    obtain ⟨⟨h1, h2⟩, h3⟩ := hm
    unfold cellSet
    split
    · next hx =>
      split
      · exact hm'
      · next hv =>
        simp only [cellsFrom, Bool.and_eq_true, decide_eq_true_eq]
        exact ⟨⟨hlo, hv⟩, ⟨by omega, h2⟩, h3⟩
    · split
      · next hx1 hx =>
        subst hx
        split
        · exact cellsFrom_mono (by omega) m h3
        · next hv => simp only [cellsFrom, Bool.and_eq_true, decide_eq_true_eq]; exact ⟨⟨hlo, hv⟩, h3⟩
      · simp only [cellsFrom, Bool.and_eq_true, decide_eq_true_eq]
        exact ⟨⟨h1, h2⟩, ih (a + 1) (by omega) h3⟩

/-- Writing one byte keeps the canonical form. -/
theorem wf_cellSet (m : List Host.Cell) (x : Nat) (v : Byte) (h : Memory.wf m = true) : Memory.wf (cellSet m x v) = true :=
  cellsFrom_cellSet m x v 0 (Nat.zero_le x) h

/-- Writing bytes keeps the canonical form. -/
theorem wf_cellSetRun (bs : List Byte) (m : List Host.Cell) (x : Nat) (h : Memory.wf m = true) :
    Memory.wf (cellSetRun m x bs) = true := by
  induction bs generalizing m x with
  | nil => exact h
  | cons b bs ih => exact ih _ _ (wf_cellSet m x b h)

/-- Removing bytes, from any start. -/
theorem cellsFrom_filter (p : Host.Cell → Bool) (m : List Host.Cell) (lo : Nat) (h : cellsFrom lo m = true) :
    cellsFrom lo (m.filter p) = true := by
  induction m generalizing lo with
  | nil => rfl
  | cons c m ih =>
    obtain ⟨a, b⟩ := c
    simp only [cellsFrom, Bool.and_eq_true, decide_eq_true_eq] at h
    rw [List.filter_cons]
    split
    · simp only [cellsFrom, Bool.and_eq_true, decide_eq_true_eq]
      exact ⟨h.1, ih _ h.2⟩
    · exact cellsFrom_mono (by omega) _ (ih _ h.2)

/-- An erase keeps the canonical form. -/
theorem wf_cellErase (m : List Host.Cell) (lo n : Nat) (h : Memory.wf m = true) : Memory.wf (cellErase m lo n) = true :=
  cellsFrom_filter _ m 0 h

/-- Nothing is listed below the start. -/
theorem cellGet_below (m : List Host.Cell) (lo x : Nat) (h : cellsFrom lo m = true) (hx : x < lo) : cellGet m x = 0xFF#8 := by
  induction m generalizing lo with
  | nil => rfl
  | cons c m ih =>
    obtain ⟨a, b⟩ := c
    simp only [cellsFrom, Bool.and_eq_true, decide_eq_true_eq] at h
    unfold cellGet
    rw [if_neg (by omega)]
    exact ih (a + 1) h.2 (by omega)

/-- A byte read after a byte written, from any start. -/
theorem cellGet_cellSet_from (m : List Host.Cell) (x y : Nat) (v : Byte) (lo : Nat) (h : cellsFrom lo m = true) :
    cellGet (cellSet m x v) y = if y = x then v else cellGet m y := by
  induction m generalizing lo with
  | nil =>
    unfold cellSet
    split
    · next hv => by_cases hy : y = x <;> simp [cellGet, hy, hv]
    · by_cases hy : y = x
      · simp [cellGet, hy]
      · have : ¬ x = y := fun e => hy e.symm
        simp [cellGet, hy, this]
  | cons c m ih =>
    obtain ⟨a, b⟩ := c
    have hm := h
    simp only [cellsFrom, Bool.and_eq_true, decide_eq_true_eq] at h
    obtain ⟨⟨h1, h2⟩, h3⟩ := h
    unfold cellSet
    split
    · next hx =>
      have hb : cellGet ((a, b) :: m) x = 0xFF#8 := by
        unfold cellGet; rw [if_neg (by omega)]; exact cellGet_below m (a + 1) x h3 (by omega)
      split
      · next hv => by_cases hy : y = x
                   · subst hy; rw [hb, if_pos rfl, hv]
                   · rw [if_neg hy]
      · by_cases hy : y = x
        · subst hy; simp [cellGet]
        · rw [if_neg hy]; conv => lhs; unfold cellGet
          rw [if_neg (fun e => hy e.symm)]
    · split
      · next hx1 hx =>
        subst hx
        split
        · next hv =>
          by_cases hy : y = x
          · subst hy; rw [if_pos rfl, hv]; exact cellGet_below m (y + 1) y h3 (by omega)
          · rw [if_neg hy]; conv => rhs; unfold cellGet
            rw [if_neg (fun e => hy e.symm)]
        · by_cases hy : y = x
          · subst hy; simp [cellGet]
          · have : ¬ x = y := fun e => hy e.symm
            simp [cellGet, hy, this]
      · next hx1 hx =>
        unfold cellGet
        by_cases hay : a = y
        · have : ¬ y = x := by omega
          simp [hay, this]
        · simp only [hay, if_false]; exact ih (a + 1) h3

/-- A byte read after a byte written. -/
theorem cellGet_cellSet (m : List Host.Cell) (x y : Nat) (v : Byte) (h : Memory.wf m = true) :
    cellGet (cellSet m x v) y = if y = x then v else cellGet m y := cellGet_cellSet_from m x y v 0 h

/-- A byte read after a run of bytes written. -/
theorem cellGet_cellSetRun (bs : List Byte) (m : List Host.Cell) (x y : Nat) (h : Memory.wf m = true) :
    cellGet (cellSetRun m x bs) y = if x ≤ y ∧ y < x + bs.length then bs.getD (y - x) 0 else cellGet m y := by
  induction bs generalizing m x with
  | nil => rw [if_neg (by simp)]; rfl
  | cons b bs ih =>
    unfold cellSetRun
    rw [ih _ _ (wf_cellSet m x b h), cellGet_cellSet m x y b h]
    by_cases hy : y = x
    · subst hy; rw [if_neg (by omega)]; simp
    · by_cases hr : x + 1 ≤ y ∧ y < x + 1 + bs.length
      · have e : y - x = (y - (x + 1)) + 1 := by omega
        rw [if_pos hr, if_pos (by simp; omega), e]; rfl
      · rw [if_neg hr, if_neg hy, if_neg (by simp; omega)]

/-- Erased bytes read 0xFF; the others stand. -/
theorem cellGet_cellErase (m : List Host.Cell) (lo n y : Nat) (h : Memory.wf m = true) :
    cellGet (cellErase m lo n) y = if lo ≤ y ∧ y < lo + n then 0xFF#8 else cellGet m y := by
  have key : ∀ (k : Nat) (m : List Host.Cell), cellsFrom k m = true →
      cellGet (cellErase m lo n) y = if lo ≤ y ∧ y < lo + n then 0xFF#8 else cellGet m y := by
    intro k m
    induction m generalizing k with
    | nil => intro _; simp [cellErase, cellGet]
    | cons c m ih =>
      obtain ⟨a, b⟩ := c
      intro h
      simp only [cellsFrom, Bool.and_eq_true, decide_eq_true_eq] at h
      have hi := ih (a + 1) h.2
      unfold cellErase at hi ⊢
      rw [List.filter_cons]
      by_cases hay : a = y
      · subst hay
        by_cases hr : lo ≤ a ∧ a < lo + n
        · rw [if_neg (by simp; omega), hi]
          simp [hr]
        · rw [if_pos (by simp; omega), if_neg hr]; simp [cellGet]
      · have e : cellGet ((a, b) :: m) y = cellGet m y := by simp [cellGet, hay]
        rw [e]
        split
        · rw [← hi]; simp [cellGet, hay]
        · exact hi
  exact key 0 m h

end Sys2Proof.Machine
end

