-- ==== Sys2Proof/Laws/Kept.lean ====
section
/-!
SUPPORT. What every operation keeps: the queue of commands, the fuse words and the bytes of the user area. The operations
that write the user area or blow fuses keep the canonical form and the blown bits.
-/

namespace Sys2Proof.Machine

open Sys2Proof

/-- The queue, the fuse words and the user area. -/
structure Kept where
  pending : List Instr
  fuses : List (BitVec 32)
  area : List Host.Cell

/-- That part of a state. -/
def State.kept (s : State) : Kept := ⟨s.pending, s.fuse.words, s.psto.mem⟩

@[simp] theorem kept_mk (p fc pw rs tb ao cx se st rd ha pi ca ac tr en ga wd th ps cf fu jt co) :
    State.kept (State.mk p fc pw rs tb ao cx se st rd ha pi ca ac tr en ga wd th ps cf fu jt co) = ⟨p, fu.words, ps.mem⟩ := rfl
@[simp] theorem kept_fold (s : State) : Kept.mk s.pending s.fuse.words s.psto.mem = s.kept := rfl
@[simp] theorem kept_ite (c : Prop) [Decidable c] (a b : State) : (if c then a else b).kept = if c then a.kept else b.kept :=
  apply_ite _ _ _ _
@[simp] theorem foldl_kept {α : Type} (f : State → α → State) (h : ∀ s a, (f s a).kept = s.kept) (l : List α) (s : State) :
    (l.foldl f s).kept = s.kept := by
  induction l generalizing s with
  | nil => rfl
  | cons a l ih => rw [List.foldl_cons, ih, h]
theorem kept_pending {s t : State} (h : s.kept = t.kept) : s.pending = t.pending := congrArg Kept.pending h
theorem kept_fuses {s t : State} (h : s.kept = t.kept) : s.fuse.words = t.fuse.words := congrArg Kept.fuses h
theorem kept_area {s t : State} (h : s.kept = t.kept) : s.psto.mem = t.psto.mem := congrArg Kept.area h

@[simp] theorem Psto.place_mem (k i : Nat) (e : JEntry) (p : Psto) : (p.place k i e).mem = p.mem := rfl
@[simp] theorem Psto.append_mem (e : JEntry) (p : Psto) : (p.append e).mem = p.mem := rfl
@[simp] theorem Psto.wipeJournal_mem (k : Nat) (p : Psto) : (p.wipeJournal k).mem = p.mem := rfl
@[simp] theorem Psto.wipeRing_mem (k i : Nat) (p : Psto) : (p.wipeRing k i).mem = p.mem := rfl
@[simp] theorem Psto.putSlot_mem (k i : Nat) (l : List Byte) (p : Psto) : (p.putSlot k i l).mem = p.mem := rfl
@[simp] theorem Psto.carry_mem (k i : Nat) (l : List JEntry) (p : Psto) : (Psto.carry k i l p).mem = p.mem := by
  induction l generalizing i p with
  | nil => rfl
  | cons e es ih => exact ih (i + 1) (p.place k i e)
@[simp] theorem Psto.compacted_mem (p : Psto) : p.compacted.mem = p.mem := by unfold Psto.compacted; simp
@[simp] theorem Psto.rebuilt_mem (p : Psto) : p.rebuilt.mem = p.mem := rfl
@[simp] theorem Psto.ready_mem (p : Psto) : p.ready.mem = p.mem := by unfold Psto.ready; split; simp; split <;> simp
@[simp] theorem Psto.store_mem (e : JEntry) (p : Psto) : (p.store e).mem = p.mem := by unfold Psto.store; simp
@[simp] theorem Psto.countErrors_mem (a n : Nat) (p : Psto) : (p.countErrors a n).mem = p.mem := rfl
@[simp] theorem Psto.ringErase_mem (k : Nat) (p : Psto) : (p.ringErase k).mem = p.mem := by unfold Psto.ringErase; simp
@[simp] theorem Psto.ringWrite_mem (k : Nat) (l : List Byte) (p : Psto) : (p.ringWrite k l).mem = p.mem := by
  unfold Psto.ringWrite; dsimp only; split <;> simp
@[simp] theorem Psto.storeCounters_mem (l : List Nat) (p : Psto) : (p.storeCounters l).mem = p.mem := by unfold Psto.storeCounters; simp
@[simp] theorem Psto.systemClear_mem (p : Psto) : p.systemClear.mem = p.mem := rfl
@[simp] theorem Psto.cleared_mem (p : Psto) : p.cleared.mem = p.mem := rfl
@[simp] theorem Psto.suspend_mem (p : Psto) : p.suspend.mem = p.mem := rfl
@[simp] theorem Psto.eraseBegin_mem (k : Nat) (p : Psto) : (p.eraseBegin k).mem = p.mem := by unfold Psto.eraseBegin; simp
@[simp] theorem Psto.protectBy_mem (k : Nat) (p : Psto) : (p.protectBy k).mem = p.mem := by unfold Psto.protectBy; simp
@[simp] theorem Psto.scanned_mem (p : Psto) : p.scanned.mem = p.mem := by unfold Psto.scanned; dsimp only; split <;> simp

/-- What every command keeps: the rest of the queue, the blown fuse bits, the canonical form of the user area. -/
structure Keeps (s t : State) : Prop where
  pending : t.pending = s.pending
  fuses : ∀ w i, (s.fuse.words.getD w 0#32).getLsbD i = true → (t.fuse.words.getD w 0#32).getLsbD i = true
  area : Memory.wf s.psto.mem = true → Memory.wf t.psto.mem = true

theorem Keeps.of {s t : State} (h : t.kept = s.kept) : Keeps s t :=
  ⟨kept_pending h, fun w i => by rw [kept_fuses h]; exact id, by rw [kept_area h]; exact id⟩

theorem Keeps.trans {s t u : State} (h : Keeps s t) (g : Keeps t u) : Keeps s u :=
  ⟨g.pending.trans h.pending, fun w i hb => g.fuses w i (h.fuses w i hb), fun a => g.area (h.area a)⟩

theorem Keeps.refl (s : State) : Keeps s s := .of rfl

/-- A state that differs in what is kept by nothing from one that keeps. -/
theorem Keeps.thenKept {s t u : State} (h : Keeps s t) (g : u.kept = t.kept) : Keeps s u := h.trans (.of g)

/-- The same before. -/
theorem Keeps.from {s t u : State} (g : t.kept = s.kept) (h : Keeps t u) : Keeps s u := (Keeps.of g).trans h

@[simp] theorem State.onPwr_kept (f : Pwr → Pwr) (s : State) : (State.onPwr f s).kept = s.kept := by
  unfold State.onPwr
  simp

@[simp] theorem State.onRstc_kept (f : Rstc → Rstc) (s : State) : (State.onRstc f s).kept = s.kept := by
  unfold State.onRstc
  simp

@[simp] theorem State.onTb_kept (f : Tbase → Tbase) (s : State) : (State.onTb f s).kept = s.kept := by
  unfold State.onTb
  simp

@[simp] theorem State.onAon_kept (f : Aon → Aon) (s : State) : (State.onAon f s).kept = s.kept := by
  unfold State.onAon
  simp

@[simp] theorem State.onCxp_kept (f : Cxp → Cxp) (s : State) : (State.onCxp f s).kept = s.kept := by
  unfold State.onCxp
  simp

@[simp] theorem State.onSess_kept (f : Sess → Sess) (s : State) : (State.onSess f s).kept = s.kept := by
  unfold State.onSess
  simp

@[simp] theorem State.onStreams_kept (f : List Stream → List Stream) (s : State) : (State.onStreams f s).kept = s.kept := by
  unfold State.onStreams
  simp

@[simp] theorem State.onRd_kept (f : Rd → Rd) (s : State) : (State.onRd f s).kept = s.kept := by
  unfold State.onRd
  simp

@[simp] theorem State.onHaul_kept (f : Haul → Haul) (s : State) : (State.onHaul f s).kept = s.kept := by
  unfold State.onHaul
  simp

@[simp] theorem State.onPipe_kept (f : Pipe → Pipe) (s : State) : (State.onPipe f s).kept = s.kept := by
  unfold State.onPipe
  simp

@[simp] theorem State.onCal_kept (f : CalState → CalState) (s : State) : (State.onCal f s).kept = s.kept := by
  unfold State.onCal
  simp

@[simp] theorem State.onAct_kept (f : Act → Act) (s : State) : (State.onAct f s).kept = s.kept := by
  unfold State.onAct
  simp

@[simp] theorem State.onTrig_kept (f : Trig → Trig) (s : State) : (State.onTrig f s).kept = s.kept := by
  unfold State.onTrig
  simp

@[simp] theorem State.onEnc_kept (f : Enc → Enc) (s : State) : (State.onEnc f s).kept = s.kept := by
  unfold State.onEnc
  simp

@[simp] theorem State.onGang_kept (f : Gang → Gang) (s : State) : (State.onGang f s).kept = s.kept := by
  unfold State.onGang
  simp

@[simp] theorem State.onWdg_kept (f : Wdg → Wdg) (s : State) : (State.onWdg f s).kept = s.kept := by
  unfold State.onWdg
  simp

@[simp] theorem State.onThm_kept (f : Thm → Thm) (s : State) : (State.onThm f s).kept = s.kept := by
  unfold State.onThm
  simp

@[simp] theorem State.onPsto_kept (f : Psto → Psto) (s : State) : (s.onPsto f).kept = ⟨s.pending, s.fuse.words, (f s.psto).mem⟩ := rfl

@[simp] theorem State.onCfl_kept (f : Cfl → Cfl) (s : State) : (State.onCfl f s).kept = s.kept := by
  unfold State.onCfl
  simp

@[simp] theorem State.onFuse_kept (f : Fuse → Fuse) (s : State) : (s.onFuse f).kept = ⟨s.pending, (f s.fuse).words, s.psto.mem⟩ := rfl

@[simp] theorem State.onJtag_kept (f : Jtag → Jtag) (s : State) : (State.onJtag f s).kept = s.kept := by
  unfold State.onJtag
  simp

@[simp] theorem State.onCounters_kept (f : List Nat → List Nat) (s : State) : (State.onCounters f s).kept = s.kept := by
  unfold State.onCounters
  simp

@[simp] theorem State.atTick_kept (t : Nat) (s : State) : (State.atTick t s).kept = s.kept := by
  unfold State.atTick
  simp

@[simp] theorem State.setMode_kept (m : ModState) (s : State) : (State.setMode m s).kept = s.kept := by
  unfold State.setMode
  simp

@[simp] theorem State.raiseEv_kept (e : Event) (s : State) : (State.raiseEv e s).kept = s.kept := by
  unfold State.raiseEv
  simp

@[simp] theorem State.raise_kept (code : Nat) (data : List Byte) (s : State) : (State.raise code data s).kept = s.kept := by
  unfold State.raise
  simp

@[simp] theorem State.raiseTo_kept (session code : Nat) (data : List Byte) (s : State) : (State.raiseTo session code data s).kept = s.kept := by
  unfold State.raiseTo
  simp

@[simp] theorem State.raiseForced_kept (session code : Nat) (data : List Byte) (s : State) : (State.raiseForced session code data s).kept = s.kept := by
  unfold State.raiseForced
  simp

@[simp] theorem State.raiseMode_kept (s : State) : (State.raiseMode s).kept = s.kept := by
  unfold State.raiseMode
  simp

@[simp] theorem State.enter_kept (m : ModState) (s : State) : (State.enter m s).kept = s.kept := by
  unfold State.enter
  simp

@[simp] theorem State.logEntry_kept (code : Nat) (data : List Byte) (s : State) : (State.logEntry code data s).kept = s.kept := by
  unfold State.logEntry
  simp

@[simp] theorem State.logIf_kept (b : Bool) (code : Nat) (data : List Byte) (s : State) : (State.logIf b code data s).kept = s.kept := by
  unfold State.logIf
  simp

@[simp] theorem State.count_kept (i : Nat) (s : State) : (State.count i s).kept = s.kept := by
  unfold State.count
  simp

@[simp] theorem State.answer_kept (h : Hdr) (op st : Nat) (res : List Byte) (s : State) : (State.answer h op st res s).kept = s.kept := by
  unfold State.answer
  simp

@[simp] theorem State.interim_kept (h : Hdr) (op : Nat) (cmd : Option Instr) (fst : FlightSt) (st : Nat) (res : List Byte) (s : State) : (State.interim h op cmd fst st res s).kept = s.kept := by
  unfold State.interim
  simp

@[simp] theorem State.accept_kept (h : Hdr) (op : Nat) (s : State) : (State.accept h op s).kept = s.kept := by
  unfold State.accept
  simp

@[simp] theorem State.park_kept (h : Hdr) (op : Nat) (w : Wait) (s : State) : (State.park h op w s).kept = s.kept := by
  unfold State.park
  simp

@[simp] theorem State.answerOpen_kept (f : Flight) (st : Nat) (res : List Byte) (s : State) : (State.answerOpen f st res s).kept = s.kept := by
  unfold State.answerOpen
  simp

@[simp] theorem State.complete_kept (session tag code st : Nat) (data : List Byte) (s : State) : (State.complete session tag code st data s).kept = s.kept := by
  unfold State.complete
  repeat' (first | (simp; done) | split | simp)

@[simp] theorem State.complete0_kept (session tag op st : Nat) (res : List Byte) (s : State) : (State.complete0 session tag op st res s).kept = s.kept := by
  unfold State.complete0
  simp

@[simp] theorem State.mailboxAnswer_kept (session tag op cls : Nat) (urgent : Bool) (last st : Nat) (res : List Byte) (s : State) : (State.mailboxAnswer session tag op cls urgent last st res s).kept = s.kept := by
  unfold State.mailboxAnswer
  simp

@[simp] theorem State.packetIn_kept (s : State) : (State.packetIn s).kept = s.kept := by
  unfold State.packetIn
  simp

@[simp] theorem State.taken_kept (h : Hdr) (op : Nat) (s : State) : (State.taken h op s).kept = s.kept := by
  unfold State.taken
  simp

@[simp] theorem State.enqueue_kept (h : Hdr) (op : Nat) (cmd : Instr) (s : State) : (State.enqueue h op cmd s).kept = s.kept := by
  unfold State.enqueue
  simp

@[simp] theorem State.refuseBusy_kept (h : Hdr) (op : Nat) (s : State) : (State.refuseBusy h op s).kept = s.kept := by
  unfold State.refuseBusy
  simp

@[simp] theorem State.seen_kept (h : Hdr) (op : Nat) (s : State) : (State.seen h op s).kept = s.kept := by
  unfold State.seen
  simp

@[simp] theorem State.throttledEvent_kept (i resource : Nat) (s : State) : (State.throttledEvent i resource s).kept = s.kept := by
  unfold State.throttledEvent
  simp

@[simp] theorem State.setStreams_kept (l : List Counted) (s : State) : (State.setStreams l s).kept = s.kept := by
  unfold State.setStreams
  simp

@[simp] theorem State.liftDecimation_kept (s : State) : (State.liftDecimation s).kept = s.kept := by
  unfold State.liftDecimation
  simp

@[simp] theorem State.restoreDemand_kept (s : State) : (State.restoreDemand s).kept = s.kept := by
  unfold State.restoreDemand
  simp

@[simp] theorem State.onStream_kept (i : Nat) (f : Stream → Stream) (s : State) : (State.onStream i f s).kept = s.kept := by
  unfold State.onStream
  simp

@[simp] theorem State.sendStream_kept (i : Nat) (x : ImagePart) (s : State) : (State.sendStream i x s).kept = s.kept := by
  unfold State.sendStream
  repeat' (first | (simp; done) | split | simp)

@[simp] theorem State.imageHeader_kept (i : Nat) (s : State) : (State.imageHeader i s).kept = s.kept := by
  unfold State.imageHeader; simp

@[simp] theorem State.raiseDrop_kept (i cause frame : Nat) (s : State) : (State.raiseDrop i cause frame s).kept = s.kept := by
  unfold State.raiseDrop
  simp

@[simp] theorem State.answerFrameEnd_kept (i : Nat) (s : State) : (State.answerFrameEnd i s).kept = s.kept := by
  unfold State.answerFrameEnd
  simp

@[simp] theorem State.endSnap_kept (i st : Nat) (s : State) : (State.endSnap i st s).kept = s.kept := by
  unfold State.endSnap
  repeat' (first | (simp; done) | split | simp)

@[simp] theorem State.mirrorOpen_kept (s : State) : (State.mirrorOpen s).kept = s.kept := by
  unfold State.mirrorOpen
  simp

@[simp] theorem State.mirrorClosed_kept (s : State) : (State.mirrorClosed s).kept = s.kept := by
  unfold State.mirrorClosed
  simp

@[simp] theorem State.truncate_kept (st i : Nat) (s : State) : (State.truncate st i s).kept = s.kept := by
  unfold State.truncate
  simp

@[simp] theorem State.truncateAll_kept (st : Nat) (p : Stream → Bool) (s : State) : (State.truncateAll st p s).kept = s.kept := by
  unfold State.truncateAll
  simp

@[simp] theorem State.rdArmed_kept (by_ : ArmedBy) (s : State) : (State.rdArmed by_ s).kept = s.kept := by
  unfold State.rdArmed
  simp

@[simp] theorem State.rdArm_kept (by_ : ArmedBy) (s : State) : (State.rdArm by_ s).kept = s.kept := by
  unfold State.rdArm
  simp

@[simp] theorem State.rateStep_kept (s : State) : (State.rateStep s).kept = s.kept := by
  unfold State.rateStep
  simp

@[simp] theorem State.rdDisarm_kept (s : State) : (State.rdDisarm s).kept = s.kept := by
  unfold State.rdDisarm
  simp

@[simp] theorem State.toIdle_kept (s : State) : (State.toIdle s).kept = s.kept := by
  unfold State.toIdle
  simp

@[simp] theorem State.settle_kept (s : State) : (State.settle s).kept = s.kept := by
  unfold State.settle
  simp

@[simp] theorem State.stopReadout_kept (st : Nat) (s : State) : (State.stopReadout st s).kept = s.kept := by
  unfold State.stopReadout
  simp

@[simp] theorem State.haltAtEnd_kept (i : Nat) (close : Bool) (s : State) : (State.haltAtEnd i close s).kept = s.kept := by
  unfold State.haltAtEnd
  simp

@[simp] theorem State.haltAllAtEnd_kept (s : State) : (State.haltAllAtEnd s).kept = s.kept := by
  unfold State.haltAllAtEnd
  simp

@[simp] theorem State.onChan_kept (i : Nat) (f : Chan → Chan) (s : State) : (State.onChan i f s).kept = s.kept := by
  unfold State.onChan
  simp

@[simp] theorem State.onChisel_kept (q : Nat) (f : Chisel → Chisel) (s : State) : (State.onChisel q f s).kept = s.kept := by
  unfold State.onChisel
  simp

@[simp] theorem State.actFaultEvent_kept (code fault : Nat) (s : State) : (State.actFaultEvent code fault s).kept = s.kept := by
  unfold State.actFaultEvent
  simp

@[simp] theorem State.actDiag_kept (code kind value : Nat) (s : State) : (State.actDiag code kind value s).kept = s.kept := by
  unfold State.actDiag
  simp

@[simp] theorem State.scheduleEnd_kept (handle st : Nat) (s : State) : (State.scheduleEnd handle st s).kept = s.kept := by
  unfold State.scheduleEnd
  repeat' (first | (simp; done) | split | simp)

@[simp] theorem State.endSchedules_kept (p : Schedule → Bool) (st : Nat) (s : State) : (State.endSchedules p st s).kept = s.kept := by
  unfold State.endSchedules
  simp

@[simp] theorem State.releaseSchedules_kept (p : Schedule → Bool) (t : Nat) (s : State) : (State.releaseSchedules p t s).kept = s.kept := by
  unfold State.releaseSchedules
  simp

@[simp] theorem State.fireEnds_kept (i : Nat) (f : FireSrc) (st : Nat) (res : List Byte) (s : State) : (State.fireEnds i f st res s).kept = s.kept := by
  unfold State.fireEnds
  repeat' (first | (simp; done) | split | simp)

@[simp] theorem State.dropWaiting_kept (i st : Nat) (res : List Byte) (s : State) : (State.dropWaiting i st res s).kept = s.kept := by
  unfold State.dropWaiting
  repeat' (first | (simp; done) | split | simp)

@[simp] theorem State.programFault_kept (q cause i : Nat) (s : State) : (State.programFault q cause i s).kept = s.kept := by
  unfold State.programFault
  simp

@[simp] theorem State.chiselDrive_kept (q i path dir t : Nat) (s : State) : (State.chiselDrive q i path dir t s).kept = s.kept := by
  unfold State.chiselDrive
  repeat' (first | (simp; done) | split | simp)

@[simp] theorem State.chiselStep_kept (q t : Nat) (s : State) : (State.chiselStep q t s).kept = s.kept := by
  unfold State.chiselStep
  repeat' (first | (simp; done) | split | simp)

@[simp] theorem State.chiselRun_kept (q t n : Nat) (s : State) : (State.chiselRun q t n s).kept = s.kept := by
  induction n generalizing s with
  | zero => rfl
  | succ k ih => unfold State.chiselRun; split <;> simp [ih]

@[simp] theorem State.chiselStart_kept (q entry t : Nat) (s : State) : (State.chiselStart q entry t s).kept = s.kept := by
  unfold State.chiselStart
  simp

@[simp] theorem State.chiselResume_kept (q t : Nat) (f : Chisel → Chisel) (s : State) : (State.chiselResume q t f s).kept = s.kept := by
  unfold State.chiselResume
  simp

@[simp] theorem State.fire_kept (i kind hold t : Nat) (f : FireSrc) (s : State) : (State.fire i kind hold t f s).kept = s.kept := by
  unfold State.fire
  simp

@[simp] theorem State.disableChan_kept (i fault : Nat) (s : State) : (State.disableChan i fault s).kept = s.kept := by
  unfold State.disableChan
  simp

@[simp] theorem State.chanFault_kept (i fault : Nat) (s : State) : (State.chanFault i fault s).kept = s.kept := by
  unfold State.chanFault
  simp

@[simp] theorem State.bankFault_kept (bank fault : Nat) (s : State) : (State.bankFault bank fault s).kept = s.kept := by
  unfold State.bankFault
  simp

@[simp] theorem State.moveEnds_kept (confirmed counted : Bool) (s : State) : (State.moveEnds confirmed counted s).kept = s.kept := by
  unfold State.moveEnds
  repeat' (first | (simp; done) | split | simp)

@[simp] theorem State.moveStart_kept (t : Nat) (s : State) : (State.moveStart t s).kept = s.kept := by
  unfold State.moveStart
  repeat' (first | (simp; done) | split | simp)

@[simp] theorem State.moveRequest_kept (dir : Nat) (asker : MoveBy) (t : Nat) (s : State) : (State.moveRequest dir asker t s).kept = s.kept := by
  unfold State.moveRequest
  simp

@[simp] theorem State.actCut_kept (st t : Nat) (s : State) : (State.actCut st t s).kept = s.kept := by
  unfold State.actCut
  repeat' (first | (simp; done) | split | simp)

@[simp] theorem State.bgWait_kept (j : BgJob) (v : Option Nat) (s : State) : (State.bgWait j v s).kept = s.kept := by
  unfold State.bgWait
  simp

@[simp] theorem State.storeRing0_kept (s : State) : (State.storeRing0 s).kept = s.kept := by
  unfold State.storeRing0
  simp

@[simp] theorem State.storeRing2_kept (s : State) : (State.storeRing2 s).kept = s.kept := by
  unfold State.storeRing2
  simp

@[simp] theorem State.storeRing3_kept (s : State) : (State.storeRing3 s).kept = s.kept := by
  unfold State.storeRing3
  simp

@[simp] theorem State.recordsLoaded_kept (s : State) : (State.recordsLoaded s).kept = s.kept := rfl

@[simp] theorem State.select_kept (f : Cfl → Cfl) (s : State) : (State.select f s).kept = s.kept := by
  unfold State.select
  simp

@[simp] theorem State.fwWriteEnds_kept (st : Nat) (s : State) : (State.fwWriteEnds st s).kept = s.kept := by
  unfold State.fwWriteEnds
  repeat' (first | (simp; done) | split | simp)

@[simp] theorem State.fwVerifyEnds_kept (st : Nat) (s : State) : (State.fwVerifyEnds st s).kept = s.kept := by
  unfold State.fwVerifyEnds
  repeat' (first | (simp; done) | split | simp)

@[simp] theorem State.eraseAnswer_kept (st : Nat) (s : State) (j : EraseJob) : (State.eraseAnswer st s j).kept = s.kept := by
  unfold State.eraseAnswer
  simp

@[simp] theorem State.eraseEnds_kept (st : Nat) (s : State) : (State.eraseEnds st s).kept = s.kept := by
  unfold State.eraseEnds
  repeat' (first | (simp; done) | split | simp)

@[simp] theorem State.queuedEnd_kept (st : Nat) (s : State) : (State.queuedEnd st s).kept = s.kept := by
  unfold State.queuedEnd
  simp

@[simp] theorem State.erasesEnd_kept (st : Nat) (s : State) : (State.erasesEnd st s).kept = s.kept := by
  unfold State.erasesEnd
  simp

@[simp] theorem State.recallEnds_kept (named : Nat) (lost : List Nat) (s : State) : (State.recallEnds named lost s).kept = s.kept := by
  unfold State.recallEnds
  simp

@[simp] theorem State.charge_kept (s : State) : (State.charge s).kept = s.kept := by
  unfold State.charge
  simp

@[simp] theorem State.onDrift_kept (f : Drift → Drift) (s : State) : (State.onDrift f s).kept = s.kept := by
  unfold State.onDrift
  simp

@[simp] theorem State.driftSample_kept (s : State) : (State.driftSample s).kept = s.kept := by
  unfold State.driftSample
  simp

@[simp] theorem State.factorsRestored_kept (s : State) : (State.factorsRestored s).kept = s.kept := by
  unfold State.factorsRestored
  simp

@[simp] theorem State.fpaConverts_kept (s : State) : (State.fpaConverts s).kept = s.kept := by
  unfold State.fpaConverts
  simp

@[simp] theorem State.sensorPowered_kept (s : State) : (State.sensorPowered s).kept = s.kept := by
  unfold State.sensorPowered
  simp

@[simp] theorem idle_kept (s : State) : (idle s).kept = s.kept := by
  unfold idle
  dsimp only
  split <;> simp

@[simp] theorem State.refuseCapacity_kept (h : Hdr) (op : Nat) (q : Shortage) (s : State) : (State.refuseCapacity h op q s).kept = s.kept := by
  unfold State.refuseCapacity
  simp

@[simp] theorem State.calDone_kept (origin tag st : Nat) (data : List Byte) (s : State) : (State.calDone origin tag st data s).kept = s.kept := by
  unfold State.calDone
  simp

@[simp] theorem State.calDisarm_kept (s : State) : (State.calDisarm s).kept = s.kept := by
  unfold State.calDisarm
  simp

@[simp] theorem State.calRelease_kept (s : State) : (State.calRelease s).kept = s.kept := by
  unfold State.calRelease
  repeat' (first | (simp; done) | split | simp)

@[simp] theorem State.calAbandoned_kept (s : State) : (State.calAbandoned s).kept = s.kept := by
  unfold State.calAbandoned; simp

@[simp] theorem State.calEnds_kept (st : Nat) (opened : Bool) (s : State) : (State.calEnds st opened s).kept = s.kept := by
  unfold State.calEnds
  repeat' (first | (simp; done) | split | simp)

@[simp] theorem State.onCalRun_kept (f : Cal → Cal) (s : State) : (State.onCalRun f s).kept = s.kept := by
  unfold State.onCalRun
  simp

@[simp] theorem State.calUnopened_kept (s : State) : (State.calUnopened s).kept = s.kept := by
  unfold State.calUnopened; split <;> simp

@[simp] theorem State.calOpen_kept (s : State) : (State.calOpen s).kept = s.kept := by
  unfold State.calOpen; repeat' (first | (simp; done) | split | simp)

@[simp] theorem State.calFails_kept (bits : Nat) (s : State) : (State.calFails bits s).kept = s.kept := by
  unfold State.calFails; simp

@[simp] theorem State.calMove_kept (dir : Nat) (ph : CalPhase) (s : State) : (State.calMove dir ph s).kept = s.kept := by
  unfold State.calMove; repeat' (first | (simp; done) | split | simp)

@[simp] theorem State.calMoved_kept (confirmed : Bool) (s : State) : (State.calMoved confirmed s).kept = s.kept := by
  unfold State.calMoved
  repeat' (first | (simp; done) | split | simp)

@[simp] theorem State.calReadout_kept (s : State) : (State.calReadout s).kept = s.kept := by
  unfold State.calReadout; split <;> simp

@[simp] theorem State.calStart_kept (gain : Bool) (origin tag sigma mean temp : Nat) (s : State) : (State.calStart gain origin tag sigma mean temp s).kept = s.kept := by
  unfold State.calStart
  simp

@[simp] theorem State.captureChecks_kept (s : State) : (State.captureChecks s).kept = s.kept := by
  unfold State.captureChecks
  repeat' (first | (simp; done) | split | simp)

@[simp] theorem State.offsetUpdate_kept (s : State) : (State.offsetUpdate s).kept = s.kept := by
  unfold State.offsetUpdate
  repeat' (first | (simp; done) | split | simp)

@[simp] theorem State.gainUpdate_kept (s : State) : (State.gainUpdate s).kept = s.kept := by
  unfold State.gainUpdate
  repeat' (first | (simp; done) | split | simp)

@[simp] theorem State.adcCalEnds_kept (st adc : Nat) (s : State) : (State.adcCalEnds st adc s).kept = s.kept := by
  unfold State.adcCalEnds
  repeat' (first | (simp; done) | split | simp)

@[simp] theorem State.recallReply_kept (st : Nat) (s : State) : (State.recallReply st s).kept = s.kept := by
  unfold State.recallReply
  repeat' (first | (simp; done) | split | simp)

@[simp] theorem State.saveEnds_kept (st : Nat) (s : State) : (State.saveEnds st s).kept = s.kept := by
  unfold State.saveEnds
  repeat' (first | (simp; done) | split | simp)

@[simp] theorem State.recallStart_kept (h : Hdr) (set : Nat) (s : State) : (State.recallStart h set s).kept = s.kept := by
  unfold State.recallStart
  simp

@[simp] theorem State.saveStart_kept (h : Hdr) (s : State) : (State.saveStart h s).kept = s.kept := by
  unfold State.saveStart
  simp

@[simp] theorem State.editStore_kept (f : RecStore → RecStore) (s : State) : (State.editStore f s).kept = s.kept := by
  unfold State.editStore
  simp

@[simp] theorem State.shutterStart_kept (h : Hdr) (dir : Nat) (s : State) : (State.shutterStart h dir s).kept = s.kept := by
  unfold State.shutterStart
  simp

@[simp] theorem State.startCmd_kept (c : Instr) (s : State) : (State.startCmd c s).kept = s.kept := by
  unfold State.startCmd
  repeat' (first | (simp; done) | split | simp)

@[simp] theorem State.serveDeferred_kept (f : Flight) (s : State) : (State.serveDeferred f s).kept = s.kept := by
  unfold State.serveDeferred
  repeat' (first | (simp; done) | split | simp)

@[simp] theorem State.tryDeferred_kept (s : State) (f : Flight) : (State.tryDeferred s f).kept = s.kept := by
  unfold State.tryDeferred
  simp

@[simp] theorem State.reevaluate_kept (s : State) : (State.reevaluate s).kept = s.kept := by
  unfold State.reevaluate
  simp

@[simp] theorem State.shutterEnds_kept (confirmed counted : Bool) (s : State) : (State.shutterEnds confirmed counted s).kept = s.kept := by
  unfold State.shutterEnds
  repeat' (first | (simp; done) | split | simp)

@[simp] theorem State.abortDeferred_kept (s : State) : (State.abortDeferred s).kept = s.kept := by
  unfold State.abortDeferred
  simp

@[simp] theorem adcCalBody_kept (h : Hdr) (s : State) : (adcCalBody h s).kept = s.kept := by
  unfold adcCalBody
  simp

@[simp] theorem driftBody_kept (h : Hdr) (bound mode : Nat) (s : State) : (driftBody h bound mode s).kept = s.kept := by
  unfold driftBody
  simp

@[simp] theorem inhibitBody_kept (h : Hdr) (ms : Nat) (s : State) : (inhibitBody h ms s).kept = s.kept := by
  unfold inhibitBody
  simp

@[simp] theorem coeffReadBody_kept (h : Hdr) (first count : Nat) (s : State) : (coeffReadBody h first count s).kept = s.kept := by
  unfold coeffReadBody
  simp

@[simp] theorem State.factorsWritten_kept (s : State) : (State.factorsWritten s).kept = s.kept := by
  unfold State.factorsWritten
  simp

@[simp] theorem State.saveNext_kept (block : Nat) (s : State) : (State.saveNext block s).kept = s.kept := by
  unfold State.saveNext
  simp

@[simp] theorem State.saveFinish_kept (s : State) : (State.saveFinish s).kept = s.kept := by
  unfold State.saveFinish
  simp

@[simp] theorem State.disagree_kept (kind member : Nat) (value : Int) (s : State) : (State.disagree kind member value s).kept = s.kept := by
  unfold State.disagree
  simp

@[simp] theorem State.joinEnds_kept (st reason : Nat) (s : State) : (State.joinEnds st reason s).kept = s.kept := by
  unfold State.joinEnds
  repeat' (first | (simp; done) | split | simp)

@[simp] theorem State.gangOut_kept (s : State) : (State.gangOut s).kept = s.kept := by
  unfold State.gangOut
  simp

@[simp] theorem State.gangLeaves_kept (reason : Nat) (s : State) : (State.gangLeaves reason s).kept = s.kept := by
  unfold State.gangLeaves
  simp

@[simp] theorem State.lagThrottled_kept (s : State) : (State.lagThrottled s).kept = s.kept := by
  unfold State.lagThrottled
  simp

@[simp] theorem State.stopAtEnd_kept (s : State) : (State.stopAtEnd s).kept = s.kept := by
  unfold State.stopAtEnd
  simp

@[simp] theorem State.levelRaised_kept (old : Nat) (s : State) : (State.levelRaised old s).kept = s.kept := by
  unfold State.levelRaised
  simp

@[simp] theorem State.convDemand_kept (k : Nat) (s : State) : (State.convDemand k s).kept = s.kept := by
  unfold State.convDemand
  simp

@[simp] theorem State.convFrameEnd_kept (s : State) : (State.convFrameEnd s).kept = s.kept := by
  unfold State.convFrameEnd
  simp

@[simp] theorem openBody_kept (h : Hdr) (p : StreamOpenP) (s : State) : (openBody h p s).kept = s.kept := by
  unfold openBody
  repeat' (first | (simp; done) | split | simp)

@[simp] theorem closeBody_kept (h : Hdr) (i : Nat) (s : State) : (closeBody h i s).kept = s.kept := by
  unfold closeBody
  simp

@[simp] theorem haltBody_kept (h : Hdr) (i : Nat) (s : State) : (haltBody h i s).kept = s.kept := by
  unfold haltBody
  repeat' (first | (simp; done) | split | simp)

@[simp] theorem State.startStream_kept (i : Nat) (s : State) : (State.startStream i s).kept = s.kept := by
  unfold State.startStream
  simp

@[simp] theorem startBody_kept (h : Hdr) (i : Nat) (s : State) : (startBody h i s).kept = s.kept := by
  unfold startBody
  repeat' (first | (simp; done) | split | simp)

@[simp] theorem modifyBody_kept (h : Hdr) (p : StreamModifyP) (s : State) : (modifyBody h p s).kept = s.kept := by
  unfold modifyBody
  repeat' (first | (simp; done) | split | simp)

@[simp] theorem State.configure_kept (c : RdCfg) (l : List Counted) (s : State) : (State.configure c l s).kept = s.kept := by
  unfold State.configure
  simp

@[simp] theorem configBody_kept (h : Hdr) (p : ReadoutP) (s : State) : (configBody h p s).kept = s.kept := by
  unfold configBody
  repeat' (first | (simp; done) | split | simp)

@[simp] theorem armBody_kept (h : Hdr) (arm : Nat) (s : State) : (armBody h arm s).kept = s.kept := by
  unfold armBody
  repeat' (first | (simp; done) | split | simp)

@[simp] theorem snapBody_kept (h : Hdr) (i count : Nat) (s : State) : (snapBody h i count s).kept = s.kept := by
  unfold snapBody
  split <;> simp

@[simp] theorem pipeBody_kept (h : Hdr) (sharp bypass : Nat) (s : State) : (pipeBody h sharp bypass s).kept = s.kept := by
  unfold pipeBody
  repeat' (first | (simp; done) | split | simp)

@[simp] theorem radiometryBody_kept (h : Hdr) (eps tRefl : Nat) (s : State) : (radiometryBody h eps tRefl s).kept = s.kept := by
  unfold radiometryBody
  simp

@[simp] theorem qualityBody_kept (h : Hdr) (qmask : Nat) (s : State) : (qualityBody h qmask s).kept = s.kept := by
  unfold qualityBody
  simp

@[simp] theorem actConfigBody_kept (h : Hdr) (code : Nat) (c : ActCfg) (s : State) : (actConfigBody h code c s).kept = s.kept := by
  unfold actConfigBody
  simp

@[simp] theorem programBody_kept (h : Hdr) (q first : Nat) (words : List Nat) (s : State) : (programBody h q first words s).kept = s.kept := by
  unfold programBody
  simp

@[simp] theorem fireBody_kept (h : Hdr) (code kind hold : Nat) (s : State) : (fireBody h code kind hold s).kept = s.kept := by
  unfold fireBody
  simp

@[simp] theorem scheduleBody_kept (h : Hdr) (p : ScheduleP) (s : State) : (scheduleBody h p s).kept = s.kept := by
  unfold scheduleBody
  simp

@[simp] theorem State.abortChan_kept (s : State) (i : Nat) : (State.abortChan s i).kept = s.kept := by
  unfold State.abortChan
  simp

@[simp] theorem State.abortMove_kept (s : State) : (State.abortMove s).kept = s.kept := by
  unfold State.abortMove
  repeat' (first | (simp; done) | split | simp)

@[simp] theorem State.abort_kept (a b flags : Nat) (s : State) : (State.abort a b flags s).kept = s.kept := by
  unfold State.abort
  simp

@[simp] theorem abortBody_kept (h : Hdr) (a b flags : Nat) (s : State) : (abortBody h a b flags s).kept = s.kept := by
  unfold abortBody
  simp

@[simp] theorem State.chanOff_kept (i : Nat) (s : State) : (State.chanOff i s).kept = s.kept := by
  unfold State.chanOff
  simp

@[simp] theorem State.programMove_kept (s : State) : (State.programMove s).kept = s.kept := by
  unfold State.programMove
  simp

@[simp] theorem State.programGoes_kept (q t : Nat) (f : Chisel → Chisel) (s : State) : (State.programGoes q t f s).kept = s.kept := by
  unfold State.programGoes
  simp

@[simp] theorem State.moveOver_kept (i : Nat) (confirmed : Bool) (s : State) : (State.moveOver i confirmed s).kept = s.kept := by
  unfold State.moveOver
  simp

@[simp] theorem State.shutterFault_kept (i : Nat) (s : State) : (State.shutterFault i s).kept = s.kept := by
  unfold State.shutterFault
  repeat' (first | (simp; done) | split | simp)

@[simp] theorem State.endDriver_kept (i : Nat) (s : State) : (State.endDriver i s).kept = s.kept := by
  unfold State.endDriver
  simp

@[simp] theorem State.grant_kept (i t : Nat) (f : Fire) (s : State) : (State.grant i t f s).kept = s.kept := by
  unfold State.grant
  repeat' (first | (simp; done) | split | simp)

@[simp] theorem State.slotTimeout_kept (i : Nat) (s : State) : (State.slotTimeout i s).kept = s.kept := by
  unfold State.slotTimeout
  repeat' (first | (simp; done) | split | simp)

@[simp] theorem State.boostOver_kept (i : Nat) (s : State) : (State.boostOver i s).kept = s.kept := by
  unfold State.boostOver
  simp

@[simp] theorem State.peakReached_kept (i mA t : Nat) (s : State) : (State.peakReached i mA t s).kept = s.kept := by
  unfold State.peakReached
  simp

@[simp] theorem State.peakMissed_kept (i mA t : Nat) (s : State) : (State.peakMissed i mA t s).kept = s.kept := by
  unfold State.peakMissed
  simp

@[simp] theorem State.holdEntered_kept (i t : Nat) (s : State) : (State.holdEntered i t s).kept = s.kept := by
  unfold State.holdEntered
  simp

@[simp] theorem State.switchOff_kept (i t : Nat) (s : State) : (State.switchOff i t s).kept = s.kept := by
  unfold State.switchOff
  simp

@[simp] theorem State.motionDip_kept (i dipAt t : Nat) (s : State) : (State.motionDip i dipAt t s).kept = s.kept := by
  unfold State.motionDip
  repeat' (first | (simp; done) | split | simp)

@[simp] theorem State.dutyCut_kept (i duty : Nat) (s : State) : (State.dutyCut i duty s).kept = s.kept := by
  unfold State.dutyCut
  simp

@[simp] theorem State.supplyCut_kept (s : State) (i : Nat) : (State.supplyCut s i).kept = s.kept := by
  unfold State.supplyCut
  simp

@[simp] theorem State.scheduleFires_kept (x : Schedule) (t : Nat) (s : State) : (State.scheduleFires x t s).kept = s.kept := by
  unfold State.scheduleFires
  simp

@[simp] theorem State.resolveLogged_kept (marginOk : Bool) (s : State) : (State.resolveLogged marginOk s).kept = s.kept := by
  unfold State.resolveLogged
  repeat' (first | (simp; done) | split | simp)

@[simp] theorem State.voidLogged_kept (s : State) (v : Nat × Nat) : (State.voidLogged s v).kept = s.kept := by
  unfold State.voidLogged
  simp

@[simp] theorem State.scanEnds_kept (s : State) : (State.scanEnds s).kept = s.kept := by
  unfold State.scanEnds
  simp

@[simp] theorem State.systemClear_kept (s : State) : (State.systemClear s).kept = s.kept := by
  unfold State.systemClear
  simp

@[simp] theorem State.powerOnClear_kept (s0 : State) : (State.powerOnClear s0).kept = s0.kept := by
  unfold State.powerOnClear
  simp

@[simp] theorem State.countWdg_kept (cause : Nat) (s : State) : (State.countWdg cause s).kept = s.kept := by
  unfold State.countWdg
  simp

@[simp] theorem State.trialReverts_kept (s : State) : (State.trialReverts s).kept = s.kept := by
  unfold State.trialReverts
  simp

@[simp] theorem State.stepOpens_kept (k : Nat) (s : State) : (State.stepOpens k s).kept = s.kept := by
  unfold State.stepOpens
  simp

@[simp] theorem State.stepBegins_kept (k : Nat) (s : State) : (State.stepBegins k s).kept = s.kept := by
  unfold State.stepBegins
  simp

@[simp] theorem State.tryBegin_kept (s : State) : (State.tryBegin s).kept = s.kept := by
  unfold State.tryBegin
  simp

@[simp] theorem State.sensorWalk_kept (s : State) : (State.sensorWalk s).kept = s.kept := by
  unfold State.sensorWalk
  simp

@[simp] theorem State.orderDue_kept (o : Order) (waitVlink : Bool) (s : State) : (State.orderDue o waitVlink s).kept = s.kept := by
  unfold State.orderDue
  simp

@[simp] theorem State.powerOnReset_kept (cause : Nat) (s : State) : (State.powerOnReset cause s).kept = s.kept := by
  unfold State.powerOnReset
  simp

@[simp] theorem State.systemStart_kept (cause : Nat) (ledge waitVlink : Bool) (s : State) : (State.systemStart cause ledge waitVlink s).kept = s.kept := by
  unfold State.systemStart
  simp

@[simp] theorem State.systemReset_kept (cause : Nat) (ledge : Bool) (s : State) : (State.systemReset cause ledge s).kept = s.kept := by
  unfold State.systemReset
  simp

@[simp] theorem State.recallCut_kept (st : Nat) (s : State) : (State.recallCut st s).kept = s.kept := by
  unfold State.recallCut
  simp

@[simp] theorem State.snapCut_kept (s : State) (i : Nat) : (State.snapCut s i).kept = s.kept := by
  unfold State.snapCut
  simp

@[simp] theorem State.moveCut_kept (st : Nat) (s : State) : (State.moveCut st s).kept = s.kept := by
  unfold State.moveCut
  repeat' (first | (simp; done) | split | simp)

@[simp] theorem State.coreCuts_kept (s : State) : (State.coreCuts s).kept = s.kept := by
  unfold State.coreCuts
  simp

@[simp] theorem State.coreDo_kept (cause : Nat) (s : State) : (State.coreDo cause s).kept = s.kept := by
  unfold State.coreDo
  simp

@[simp] theorem State.coreReset_kept (cause : Nat) (s : State) : (State.coreReset cause s).kept = s.kept := by
  unfold State.coreReset
  simp

@[simp] theorem State.optionLoad_kept (straps : Nat) (s : State) : (State.optionLoad straps s).kept = s.kept := by
  unfold State.optionLoad
  repeat' (first | (simp; done) | split | simp)

@[simp] theorem State.pllLocked_kept (s : State) : (State.pllLocked s).kept = s.kept := by
  unfold State.pllLocked
  simp

@[simp] theorem State.coreReleased_kept (ledge : Bool) (rate : Nat) (s : State) : (State.coreReleased ledge rate s).kept = s.kept := by
  unfold State.coreReleased
  simp

@[simp] theorem State.bootRaise_kept (e : Event) (s : State) : (State.bootRaise e s).kept = s.kept := by
  unfold State.bootRaise
  simp

@[simp] theorem State.bootEvents_kept (count : Nat) (withMode : Bool) (s : State) : (State.bootEvents count withMode s).kept = s.kept := by
  unfold State.bootEvents
  simp

@[simp] theorem State.logStart_kept (count : Nat) (s : State) : (State.logStart count s).kept = s.kept := by
  unfold State.logStart
  simp

@[simp] theorem State.park0_kept (s : State) : (State.park0 s).kept = s.kept := by
  unfold State.park0
  repeat' (first | (simp; done) | split | simp)

@[simp] theorem State.enterLedge_kept (cause : Nat) (s : State) : (State.enterLedge cause s).kept = s.kept := by
  unfold State.enterLedge
  simp

@[simp] theorem State.stepNext_kept (k : Nat) (s : State) : (State.stepNext k s).kept = s.kept := by
  unfold State.stepNext
  simp

@[simp] theorem State.startCore_kept (image : Option Nat) (s0 : State) : (State.startCore image s0).kept = s0.kept := by
  unfold State.startCore
  dsimp only
  repeat' split
  all_goals simp

@[simp] theorem State.stepDone_kept (k : Nat) (s : State) : (State.stepDone k s).kept = s.kept := by
  unfold State.stepDone
  simp

@[simp] theorem State.diesOff_kept (s : State) : (State.diesOff s).kept = s.kept := by
  unfold State.diesOff
  simp

@[simp] theorem State.walkFrom_kept (w : Walk) (last : Nat) (s : State) : (State.walkFrom w last s).kept = s.kept := by
  unfold State.walkFrom
  simp

@[simp] theorem State.failedStart_kept (s : State) : (State.failedStart s).kept = s.kept := by
  unfold State.failedStart
  simp

@[simp] theorem State.startFails_kept (s : State) : (State.startFails s).kept = s.kept := by
  unfold State.startFails
  simp

@[simp] theorem State.wakeFailEvent_kept (s : State) : (State.wakeFailEvent s).kept = s.kept := by
  unfold State.wakeFailEvent
  simp

@[simp] theorem State.wakeFails_kept (s : State) : (State.wakeFails s).kept = s.kept := by
  unfold State.wakeFails
  simp

@[simp] theorem State.stepFails_kept (s : State) : (State.stepFails s).kept = s.kept := by
  unfold State.stepFails
  simp

@[simp] theorem State.hotAgain_kept (s : State) : (State.hotAgain s).kept = s.kept := by
  unfold State.hotAgain
  simp

@[simp] theorem State.recallStep_kept (lost : List Nat) (s : State) : (State.recallStep lost s).kept = s.kept := by
  unfold State.recallStep
  simp

@[simp] theorem State.offStores_kept (s : State) : (State.offStores s).kept = s.kept := by
  unfold State.offStores
  simp

@[simp] theorem State.unstep_kept (k : Nat) (s : State) : (State.unstep k s).kept = s.kept := by
  unfold State.unstep
  repeat' (first | (simp; done) | split | simp)

@[simp] theorem State.keepEntered_kept (s : State) : (State.keepEntered s).kept = s.kept := by
  unfold State.keepEntered
  simp

@[simp] theorem State.powerLost_kept (s : State) : (State.powerLost s).kept = s.kept := by
  unfold State.powerLost
  simp

@[simp] theorem State.walkEnds_kept (s : State) : (State.walkEnds s).kept = s.kept := by
  unfold State.walkEnds
  repeat' (first | (simp; done) | split | simp)

@[simp] theorem State.walkStepDone_kept (s : State) : (State.walkStepDone s).kept = s.kept := by
  unfold State.walkStepDone
  repeat' (first | (simp; done) | split | simp)

@[simp] theorem State.downRecord_kept (kind rail : Nat) (s : State) : (State.downRecord kind rail s).kept = s.kept := by
  unfold State.downRecord
  simp

@[simp] theorem State.rideEndEvent_kept (s : State) : (State.rideEndEvent s).kept = s.kept := by
  unfold State.rideEndEvent
  simp

@[simp] theorem State.rideReturned_kept (s : State) : (State.rideReturned s).kept = s.kept := by
  unfold State.rideReturned
  simp

@[simp] theorem State.sensorReleased_kept (s : State) : (State.sensorReleased s).kept = s.kept := by
  unfold State.sensorReleased
  simp

@[simp] theorem State.phaseLostAtTest_kept (level n : Nat) (s : State) (i : Nat) :
    (State.phaseLostAtTest level n s i).kept = s.kept := by
  unfold State.phaseLostAtTest
  simp

@[simp] theorem State.phasesTested_kept (phases : Nat) (s : State) : (State.phasesTested phases s).kept = s.kept := by
  unfold State.phasesTested
  simp

@[simp] theorem State.stepComplete_kept (i : StepInfo) (s : State) : (State.stepComplete i s).kept = s.kept := by
  unfold State.stepComplete
  repeat' (first | (simp; done) | split | simp)

@[simp] theorem State.retry_kept (s : State) : (State.retry s).kept = s.kept := by
  unfold State.retry
  simp

@[simp] theorem State.trialConfirms_kept (s : State) : (State.trialConfirms s).kept = s.kept := by
  unfold State.trialConfirms
  simp

@[simp] theorem State.bootLog_kept (s : State) : (State.bootLog s).kept = s.kept := by
  unfold State.bootLog
  simp

@[simp] theorem State.readoutReady_kept (s : State) : (State.readoutReady s).kept = s.kept := by
  unfold State.readoutReady
  simp

@[simp] theorem State.dogsReleased_kept (s : State) : (State.dogsReleased s).kept = s.kept := by
  unfold State.dogsReleased
  simp

@[simp] theorem State.unitsAnswered_kept (s : State) : (State.unitsAnswered s).kept = s.kept := by
  unfold State.unitsAnswered
  simp

@[simp] theorem State.ringAfter_kept (s : State) : (State.ringAfter s).kept = s.kept := by
  unfold State.ringAfter
  simp

@[simp] theorem State.outageEnds_kept (s : State) : (State.outageEnds s).kept = s.kept := by
  unfold State.outageEnds
  simp

@[simp] theorem State.wakeStarts_kept (aonTicks : Nat) (s : State) : (State.wakeStarts aonTicks s).kept = s.kept := by
  unfold State.wakeStarts
  simp

@[simp] theorem State.compUpdate_kept (bias cdie pdie : Int) (s : State) : (State.compUpdate bias cdie pdie s).kept = s.kept := by
  unfold State.compUpdate
  simp

@[simp] theorem State.fwBlockDone_kept (ok : Bool) (s : State) : (State.fwBlockDone ok s).kept = s.kept := by
  unfold State.fwBlockDone
  repeat' (first | (simp; done) | split | simp)

@[simp] theorem State.fwVerified_kept (s : State) : (State.fwVerified s).kept = s.kept := by
  unfold State.fwVerified
  repeat' (first | (simp; done) | split | simp)

@[simp] theorem State.fwSettled_kept (s : State) : (State.fwSettled s).kept = s.kept := by
  unfold State.fwSettled
  simp

@[simp] theorem fwWriteBody_kept (h : Hdr) (image offset : Nat) (bytes : List Byte) (s : State) : (fwWriteBody h image offset bytes s).kept = s.kept := by
  unfold fwWriteBody
  simp

@[simp] theorem fwActivateBody_kept (h : Hdr) (image later : Nat) (s : State) : (fwActivateBody h image later s).kept = s.kept := by
  unfold fwActivateBody
  simp

@[simp] theorem State.countsCleared_kept (s : State) : (State.countsCleared s).kept = s.kept := by
  unfold State.countsCleared
  simp

@[simp] theorem submit_kept (mbox n : Nat) (bs : List Byte) (t : Nat) (s : State) : (submit mbox n bs t s).kept = s.kept := by
  unfold submit
  repeat' (first | (simp; done) | split | simp)

@[simp] theorem State.supplyGone_kept (s : State) : (State.supplyGone s).kept = s.kept := by
  unfold State.supplyGone
  simp

@[simp] theorem State.vlink0Comes_kept (mv : Nat) (s : State) : (State.vlink0Comes mv s).kept = s.kept := by
  unfold State.vlink0Comes
  repeat' (first | (simp; done) | split | simp)

@[simp] theorem State.aonWait_kept (w : Waiting) (s : State) : (State.aonWait w s).kept = s.kept := by
  unfold State.aonWait
  simp

@[simp] theorem State.collapse_kept (rail : Nat) (s : State) : (State.collapse rail s).kept = s.kept := by
  unfold State.collapse
  simp

@[simp] theorem State.standbyAbandoned_kept (s : State) : (State.standbyAbandoned s).kept = s.kept := by
  unfold State.standbyAbandoned
  repeat' (first | (simp; done) | split | simp)

@[simp] theorem State.wakeAbandoned_kept (s : State) : (State.wakeAbandoned s).kept = s.kept := by
  unfold State.wakeAbandoned
  simp

@[simp] theorem State.flashCut_kept (s : State) : (State.flashCut s).kept = s.kept := by
  unfold State.flashCut
  repeat' (first | (simp; done) | split | simp)

@[simp] theorem State.regEnds_kept (st : Nat) (res : List Byte) (r : RegAccess) (s : State) : (State.regEnds st res r s).kept = s.kept := by
  unfold State.regEnds
  repeat' (first | (simp; done) | split | simp)

@[simp] theorem State.regsEnd_kept (st : Nat) (s : State) : (State.regsEnd st s).kept = s.kept := by
  unfold State.regsEnd
  simp

@[simp] theorem State.sensorUnitsCut_kept (s0 : State) : (State.sensorUnitsCut s0).kept = s0.kept := by
  unfold State.sensorUnitsCut
  repeat' (first | (simp; done) | split | simp)

@[simp] theorem State.rideUnits_kept (s : State) : (State.rideUnits s).kept = s.kept := by
  unfold State.rideUnits
  simp

@[simp] theorem State.rideExpires_kept (t : Nat) (s : State) : (State.rideExpires t s).kept = s.kept := by
  unfold State.rideExpires
  simp

@[simp] theorem State.rideEntered_kept (vhold t : Nat) (s0 : State) : (State.rideEntered vhold t s0).kept = s0.kept := by
  unfold State.rideEntered
  simp

@[simp] theorem State.rideReturns_kept (t : Nat) (s : State) : (State.rideReturns t s).kept = s.kept := by
  unfold State.rideReturns
  simp

@[simp] theorem State.phaseAct_kept (n : Nat) (s : State) : (State.phaseAct n s).kept = s.kept := by
  unfold State.phaseAct
  simp

@[simp] theorem State.tripped_kept (n : Nat) (s : State) : (State.tripped n s).kept = s.kept := by
  unfold State.tripped
  simp

@[simp] theorem State.onDog_kept (host : Bool) (f : Dog → Dog) (s : State) : (State.onDog host f s).kept = s.kept := by
  unfold State.onDog
  simp

@[simp] theorem State.violationRecord_kept (host : Bool) (kind pc t : Nat) (s : State) : (State.violationRecord host kind pc t s).kept = s.kept := by
  unfold State.violationRecord
  simp

@[simp] theorem State.violationReset_kept (rung cause : Nat) (s : State) : (State.violationReset rung cause s).kept = s.kept := by
  unfold State.violationReset
  simp

@[simp] theorem State.violationBefore_kept (host : Bool) (kind pc t : Nat) (s : State) : (State.violationBefore host kind pc t s).kept = s.kept := by
  unfold State.violationBefore
  simp

@[simp] theorem State.violate_kept (host : Bool) (kind pc t : Nat) (s : State) : (State.violate host kind pc t s).kept = s.kept := by
  unfold State.violate
  simp

@[simp] theorem keepaliveIdle_kept (h : Hdr) (key : Nat) (s : State) : (keepaliveIdle h key s).kept = s.kept := by
  unfold keepaliveIdle
  simp

@[simp] theorem keepaliveViolates_kept (h : Hdr) (kind : Nat) (s : State) : (keepaliveViolates h kind s).kept = s.kept := by
  unfold keepaliveViolates
  simp

@[simp] theorem keepaliveRuns_kept (h : Hdr) (key : Nat) (s : State) : (keepaliveRuns h key s).kept = s.kept := by
  unfold keepaliveRuns
  simp

@[simp] theorem keepaliveBody_kept (h : Hdr) (key : Nat) (s : State) : (keepaliveBody h key s).kept = s.kept := by
  unfold keepaliveBody
  simp

@[simp] theorem State.wdgApply_kept (period enable : Nat) (s : State) : (State.wdgApply period enable s).kept = s.kept := by
  unfold State.wdgApply
  simp

@[simp] theorem wdgConfigBody_kept (h : Hdr) (period enable : Nat) (s : State) : (wdgConfigBody h period enable s).kept = s.kept := by
  unfold wdgConfigBody
  simp

@[simp] theorem State.fwKey_kept (key t pc : Nat) (s : State) : (State.fwKey key t pc s).kept = s.kept := by
  unfold State.fwKey
  simp

@[simp] theorem sessionOpenBody_kept (h : Hdr) (clientId : Nat) (s : State) : (sessionOpenBody h clientId s).kept = s.kept := by
  unfold sessionOpenBody
  simp

@[simp] theorem State.longCancel_kept (session tag op : Nat) (s : State) : (State.longCancel session tag op s).kept = s.kept := by
  unfold State.longCancel
  repeat' (first | (simp; done) | split | simp)

@[simp] theorem State.longsCancelled_kept (session : Nat) (l : List (Nat × Nat)) (s : State) : (State.longsCancelled session l s).kept = s.kept := by
  unfold State.longsCancelled
  simp

@[simp] theorem State.closeSession_kept (i : Nat) (s : State) : (State.closeSession i s).kept = s.kept := by
  unfold State.closeSession
  simp

@[simp] theorem sessionCloseBody_kept (h : Hdr) (target : Nat) (s : State) : (sessionCloseBody h target s).kept = s.kept := by
  unfold sessionCloseBody
  simp

@[simp] theorem State.reclass_kept (old new : List Session) (s : State) : (State.reclass old new s).kept = s.kept := by
  unfold State.reclass
  simp

@[simp] theorem State.setPolicy_kept (tiers enable : Nat) (s : State) : (State.setPolicy tiers enable s).kept = s.kept := by
  unfold State.setPolicy
  simp

@[simp] theorem State.markOverflow_kept (e : Event) (s : State) : (State.markOverflow e s).kept = s.kept := by
  unfold State.markOverflow
  simp

@[simp] theorem State.flushHeld_kept (s : State) : (State.flushHeld s).kept = s.kept := by
  unfold State.flushHeld
  simp

@[simp] theorem subscribeBody_kept (h : Hdr) (mask : Nat) (s : State) : (subscribeBody h mask s).kept = s.kept := by
  unfold subscribeBody
  simp

@[simp] theorem replyFetchBody_kept (h : Hdr) (s : State) : (replyFetchBody h s).kept = s.kept := by
  unfold replyFetchBody
  repeat' (first | (simp; done) | split | simp)

@[simp] theorem cancelBody_kept (h : Hdr) (target tag : Nat) (s : State) : (cancelBody h target tag s).kept = s.kept := by
  unfold cancelBody
  repeat' (first | (simp; done) | split | simp)

@[simp] theorem modeSetBody_kept (h : Hdr) (mode : Nat) (s : State) : (modeSetBody h mode s).kept = s.kept := by
  unfold modeSetBody
  simp

@[simp] theorem sysResetBody_kept (h : Hdr) (level : Nat) (s : State) : (sysResetBody h level s).kept = s.kept := by
  unfold sysResetBody
  repeat' (first | (simp; done) | split | simp)

@[simp] theorem State.gangRowTime_kept (s : State) : (State.gangRowTime s).kept = s.kept := by
  unfold State.gangRowTime
  simp

@[simp] theorem State.unitEvent_kept (unit mode : Nat) (s : State) : (State.unitEvent unit mode s).kept = s.kept := by
  unfold State.unitEvent
  simp

@[simp] theorem State.unitReply_kept (unit : Nat) (s : State) : (State.unitReply unit s).kept = s.kept := by
  unfold State.unitReply
  simp

@[simp] theorem State.unitDone_kept (s : State) : (State.unitDone s).kept = s.kept := by
  unfold State.unitDone
  repeat' (first | (simp; done) | split | simp)

@[simp] theorem State.trainingEnds_kept (lanes latency : Nat) (s : State) : (State.trainingEnds lanes latency s).kept = s.kept := by
  unfold State.trainingEnds
  repeat' (first | (simp; done) | split | simp)

@[simp] theorem State.haulLost_kept (s : State) : (State.haulLost s).kept = s.kept := by
  unfold State.haulLost
  simp

@[simp] theorem State.laneLost_kept (s : State) : (State.laneLost s).kept = s.kept := by
  unfold State.laneLost
  simp

@[simp] theorem State.sensorCycled_kept (s : State) : (State.sensorCycled s).kept = s.kept := by
  unfold State.sensorCycled
  simp

@[simp] theorem State.bankFenced_kept (bank : Nat) (s : State) : (State.bankFenced bank s).kept = s.kept := by
  unfold State.bankFenced
  simp

@[simp] theorem State.shutFenced_kept (s : State) : (State.shutFenced s).kept = s.kept := by
  unfold State.shutFenced
  repeat' (first | (simp; done) | split | simp)

@[simp] theorem State.streamFenced_kept (i : Nat) (s : State) : (State.streamFenced i s).kept = s.kept := by
  unfold State.streamFenced
  simp

@[simp] theorem State.fence_kept (u : Nat) (s : State) : (State.fence u s).kept = s.kept := by
  unfold State.fence
  repeat' (first | (simp; done) | split | simp)

@[simp] theorem State.unitClear_kept (u : Nat) (s : State) : (State.unitClear u s).kept = s.kept := by
  unfold State.unitClear
  repeat' (first | (simp; done) | split | simp)

@[simp] theorem State.link0Lost_kept (st : Nat) (s : State) : (State.link0Lost st s).kept = s.kept := by
  unfold State.link0Lost
  simp

@[simp] theorem State.linkLost_kept (st n : Nat) (s : State) : (State.linkLost st n s).kept = s.kept := by
  unfold State.linkLost
  simp

@[simp] theorem State.linkDown_kept (st n : Nat) (s : State) : (State.linkDown st n s).kept = s.kept := by
  unfold State.linkDown
  simp

@[simp] theorem State.linkReset_kept (h : Hdr) (unit mode : Nat) (s : State) : (State.linkReset h unit mode s).kept = s.kept := by
  unfold State.linkReset
  simp

@[simp] theorem unitBody_kept (h : Hdr) (unit mode : Nat) (s : State) : (unitBody h unit mode s).kept = s.kept := by
  unfold unitBody
  simp

@[simp] theorem State.warnStep_kept (s : State) : (State.warnStep s).kept = s.kept := by
  unfold State.warnStep
  simp

@[simp] theorem State.phasesIdled_kept (s : State) : (State.phasesIdled s).kept = s.kept := by
  unfold State.phasesIdled
  simp

@[simp] theorem State.thermalRaised_kept (s : State) : (State.thermalRaised s).kept = s.kept := by
  unfold State.thermalRaised
  simp

@[simp] theorem State.raiseDue_kept (s : State) : (State.raiseDue s).kept = s.kept := by
  unfold State.raiseDue
  simp

@[simp] theorem State.thermalLowered_kept (s : State) : (State.thermalLowered s).kept = s.kept := by
  unfold State.thermalLowered
  simp

@[simp] theorem State.thermalSampled_kept (raw : List (Option Int)) (s : State) : (State.thermalSampled raw s).kept = s.kept := by
  unfold State.thermalSampled
  simp

@[simp] theorem State.setWarn_kept (level : Nat) (s : State) : (State.setWarn level s).kept = s.kept := by
  unfold State.setWarn
  simp

@[simp] theorem State.spend_kept (n : Nat) (s : State) : (State.spend n s).kept = s.kept := by
  unfold State.spend
  simp

@[simp] theorem State.setRide_kept (ms : Nat) (s : State) : (State.setRide ms s).kept = s.kept := by
  unfold State.setRide
  simp

@[simp] theorem State.acknowledge_kept (code : Nat) (s : State) : (State.acknowledge code s).kept = s.kept := by
  unfold State.acknowledge
  simp

@[simp] theorem State.discovered_kept (n : Nat) (s : State) : (State.discovered n s).kept = s.kept := by
  unfold State.discovered
  simp

/-! ## What writes the user area or blows fuses -/

/-- A write's bytes. -/
theorem Psto.write_mem (o : Nat) (bs : List Byte) (p : Psto) : (p.write o bs).mem = cellSetRun p.mem o bs := by
  unfold Psto.write; simp

/-- An erase's end removes the sector's bytes. -/
theorem Psto.eraseFinish_mem (p : Psto) : p.eraseFinish.mem = (p.eraseUser p.erasing).mem := by
  unfold Psto.eraseFinish; simp

theorem getD_modify_or (l : List (BitVec 32)) (k w i : Nat) (m : BitVec 32) (h : (l.getD w 0#32).getLsbD i = true) :
    ((l.modify k (fun x => x ||| m)).getD w 0#32).getLsbD i = true := by
  induction l generalizing k w with
  | nil => simp at h
  | cons a l ih =>
    cases k with
    | zero => cases w with
      | zero => simp at h ⊢; simp [h]
      | succ w => simpa using h
    | succ k => cases w with
      | zero => simpa using h
      | succ w => simpa using ih k w (by simpa using h)

/-- A meaning that goes through `live` answers its effect, and only inside the ratings. -/
theorem live_next {f : State → State} {s t : State} (h : live s f = .next t) : f s = t := by
  unfold live at h
  split at h
  · cases h
  · injection h

@[simp] theorem State.replay_kept (s : State) : (State.replay s).kept = s.kept := by
  unfold State.replay
  simp

@[simp] theorem State.streamHalts_kept (s : State) (i : Nat) : (State.streamHalts s i).kept = s.kept := by
  unfold State.streamHalts
  simp

@[simp] theorem State.gangFrameEnd_kept (s : State) : (State.gangFrameEnd s).kept = s.kept := by
  unfold State.gangFrameEnd
  simp

@[simp] theorem State.frameEnds_kept (s : State) : (State.frameEnds s).kept = s.kept := by
  unfold State.frameEnds
  simp

@[simp] theorem State.cutStream_kept (number rows : Nat) (s : State) (i : Nat) : (State.cutStream number rows s i).kept = s.kept := by
  unfold State.cutStream
  simp

@[simp] theorem State.cutFrame_kept (s : State) : (State.cutFrame s).kept = s.kept := by
  unfold State.cutFrame
  repeat' (first | (simp; done) | split | simp)

@[simp] theorem State.startEarly_kept (s : State) : (State.startEarly s).kept = s.kept := by
  unfold State.startEarly
  simp

@[simp] theorem State.startTaken_kept (t s0 number : Nat) (s : State) : (State.startTaken t s0 number s).kept = s.kept := by
  unfold State.startTaken
  simp

@[simp] theorem State.gangStarts_kept (t : Nat) (s : State) : (State.gangStarts t s).kept = s.kept := by
  unfold State.gangStarts
  simp

@[simp] theorem State.acceptStart_kept (t : Nat) (s : State) : (State.acceptStart t s).kept = s.kept := by
  unfold State.acceptStart
  simp

@[simp] theorem State.startRequest_kept (src t : Nat) (s : State) : (State.startRequest src t s).kept = s.kept := by
  unfold State.startRequest
  simp

@[simp] theorem State.sendGangMsg_kept (tb : Nat) (reply : Option Nat) (s : State) : (State.sendGangMsg tb reply s).kept = s.kept := by
  unfold State.sendGangMsg
  simp

@[simp] theorem State.tbAdjust_kept (ticks clocks : Nat) (s : State) : (State.tbAdjust ticks clocks s).kept = s.kept := by
  unfold State.tbAdjust
  simp

@[simp] theorem State.tbStep_kept (n : Nat) (s : State) : (State.tbStep n s).kept = s.kept := by
  unfold State.tbStep
  simp

@[simp] theorem State.setSlew_kept (v : Option Bool) (s : State) : (State.setSlew v s).kept = s.kept := by
  unfold State.setSlew
  simp

@[simp] theorem State.memberArms_kept (s : State) : (State.memberArms s).kept = s.kept := by
  unfold State.memberArms
  simp

@[simp] theorem State.memberDisarms_kept (s : State) : (State.memberDisarms s).kept = s.kept := by
  unfold State.memberDisarms
  simp

@[simp] theorem State.gangFollows_kept (st : Nat) (s : State) : (State.gangFollows st s).kept = s.kept := by
  unfold State.gangFollows
  simp

@[simp] theorem State.gangSettles_kept (s : State) : (State.gangSettles s).kept = s.kept := by
  unfold State.gangSettles
  simp

@[simp] theorem gangConfigBody_kept (h : Hdr) (members rule : Nat) (s : State) : (gangConfigBody h members rule s).kept = s.kept := by
  unfold gangConfigBody
  simp

@[simp] theorem gangJoinBody_kept (h : Hdr) (s : State) : (gangJoinBody h s).kept = s.kept := by
  unfold gangJoinBody
  simp

@[simp] theorem State.admitMember_kept (r : GangJoinReq) (s : State) : (State.admitMember r s).kept = s.kept := by
  unfold State.admitMember
  simp

@[simp] theorem State.admitted_kept (m : GangMsg) (s : State) : (State.admitted m s).kept = s.kept := by
  unfold State.admitted
  simp

@[simp] theorem State.joinAnswered_kept (m : GangMsg) (k : Nat) (s : State) : (State.joinAnswered m k s).kept = s.kept := by
  unfold State.joinAnswered
  simp

@[simp] theorem State.syncMeasured_kept (stampNs leaderTb : Nat) (s : State) : (State.syncMeasured stampNs leaderTb s).kept = s.kept := by
  unfold State.syncMeasured
  simp

@[simp] theorem State.leaderLost_kept (s : State) : (State.leaderLost s).kept = s.kept := by
  unfold State.leaderLost
  simp

@[simp] theorem State.configDiffers_kept (id hash : Nat) (s : State) : (State.configDiffers id hash s).kept = s.kept := by
  unfold State.configDiffers
  simp

@[simp] theorem State.timeItem_kept (s : State) : (State.timeItem s).kept = s.kept := by
  unfold State.timeItem
  simp

@[simp] theorem State.stateItem_kept (m : GangMsg) (s0 : State) : (State.stateItem m s0).kept = s0.kept := by
  unfold State.stateItem
  simp

@[simp] theorem State.rollCall_kept (m : GangMsg) (s : State) : (State.rollCall m s).kept = s.kept := by
  unfold State.rollCall
  simp

@[simp] theorem State.leaderMessage_kept (m : GangMsg) (s : State) : (State.leaderMessage m s).kept = s.kept := by
  unfold State.leaderMessage
  simp

@[simp] theorem State.memberMessage_kept (m : GangMsg) (s : State) : (State.memberMessage m s).kept = s.kept := by
  unfold State.memberMessage
  simp

@[simp] theorem State.gangStarted_kept (t : Nat) (s : State) : (State.gangStarted t s).kept = s.kept := by
  unfold State.gangStarted
  simp

@[simp] theorem State.slotBegins_kept (s : State) : (State.slotBegins s).kept = s.kept := by
  unfold State.slotBegins
  simp

@[simp] theorem State.imagesBegin_kept (s : State) : (State.imagesBegin s).kept = s.kept := by
  unfold State.imagesBegin; simp

@[simp] theorem State.openFrame_kept (v : SlotVals) (f : FrameInfo) (s : State) : (State.openFrame v f s).kept = s.kept := by
  unfold State.openFrame
  simp

@[simp] theorem State.fpaLatch_kept (code : Nat) (valid : Bool) (s : State) : (State.fpaLatch code valid s).kept = s.kept := by
  unfold State.fpaLatch
  simp

@[simp] theorem State.frameEnters_kept (f : FrameInfo) (s : State) : (State.frameEnters f s).kept = s.kept := by
  unfold State.frameEnters
  repeat' (first | (simp; done) | split | simp)

@[simp] theorem State.frameBegins_kept (s0 t number : Nat) (s : State) : (State.frameBegins s0 t number s).kept = s.kept := by
  unfold State.frameBegins
  simp

@[simp] theorem State.lanesTaken_kept (l : List (Nat × LaneRow × LaneTx)) (s : State) : (State.lanesTaken l s).kept = s.kept := by
  unfold State.lanesTaken
  simp

@[simp] theorem State.rowErrors_kept (r : List Nat) (s : State) : (State.rowErrors r s).kept = s.kept := by
  unfold State.rowErrors
  simp

@[simp] theorem State.rowRef_kept (a : Array Sample) (row : Nat) (s : State) : (State.rowRef a row s).2.kept = s.kept := by
  unfold State.rowRef
  repeat' split
  all_goals simp

@[simp] theorem State.streamRow_kept (row : Nat) (a : Array Pix) (b : Array Rep) (s : State) (i : Nat) : (State.streamRow row a b s i).kept = s.kept := by
  unfold State.streamRow
  simp

@[simp] theorem State.activeRow_kept (row : Nat) (corrected doubles : List Nat) (a : Array Sample) (s0 : State) : (State.activeRow row corrected doubles a s0).kept = s0.kept := by
  unfold State.activeRow
  simp

@[simp] theorem State.edgeRow_kept (phys : Nat) (a : Array Sample) (s : State) : (State.edgeRow phys a s).kept = s.kept := by
  unfold State.edgeRow
  simp

@[simp] theorem State.dropFrame_kept (i : Nat) (s : State) : (State.dropFrame i s).kept = s.kept := by
  unfold State.dropFrame
  simp

@[simp] theorem State.snapSent_kept (i : Nat) (s : State) : (State.snapSent i s).kept = s.kept := by
  unfold State.snapSent
  repeat' (first | (simp; done) | split | simp)

@[simp] theorem State.endFrame_kept (i : Nat) (s : State) : (State.endFrame i s).kept = s.kept := by
  unfold State.endFrame
  simp

@[simp] theorem State.closeStream_kept (noSpace : List Nat) (s : State) (i : Nat) : (State.closeStream noSpace s i).kept = s.kept := by
  unfold State.closeStream
  simp

@[simp] theorem State.trailersOut_kept (noSpace : List Nat) (s : State) : (State.trailersOut noSpace s).kept = s.kept := by
  unfold State.trailersOut
  simp

@[simp] theorem State.nextEnters_kept (s : State) : (State.nextEnters s).kept = s.kept := by
  unfold State.nextEnters
  repeat' (first | (simp; done) | split | simp)

@[simp] theorem State.closeFrame_kept (noSpace : List Nat) (s : State) : (State.closeFrame noSpace s).kept = s.kept := by
  unfold State.closeFrame
  simp

@[simp] theorem State.rowComplete_kept (r : RowIn) (l : List (Nat × LaneRow × LaneTx)) (s0 : State) :
    (State.rowComplete r l s0).kept = s0.kept := by
  unfold State.rowComplete
  simp

@[simp] theorem State.rowIn_kept (r : RowIn) (s : State) : (State.rowIn r s).kept = s.kept := by
  unfold State.rowIn
  dsimp only
  split <;> simp

@[simp] theorem State.reload_kept (n : Nat) (b : Bool) (s : State) : (State.reload n b s).kept = s.kept := by
  unfold State.reload
  simp

@[simp] theorem State.clearCauses_kept (v : Nat) (s : State) : (State.clearCauses v s).kept = s.kept := by
  unfold State.clearCauses
  simp

@[simp] theorem State.clearHdrErr_kept (s : State) : (State.clearHdrErr s).kept = s.kept := by
  unfold State.clearHdrErr
  simp

@[simp] theorem State.clearCrcErr_kept (s : State) : (State.clearCrcErr s).kept = s.kept := by
  unfold State.clearCrcErr
  simp

@[simp] theorem State.clearPipeEcc_kept (s : State) : (State.clearPipeEcc s).kept = s.kept := by
  unfold State.clearPipeEcc
  simp

@[simp] theorem State.clearPstoEcc_kept (s : State) : (State.clearPstoEcc s).kept = s.kept := by
  unfold State.clearPstoEcc
  simp

@[simp] theorem State.clearDiscards_kept (s : State) : (State.clearDiscards s).kept = s.kept := by
  unfold State.clearDiscards
  simp

@[simp] theorem State.clearEarly_kept (s : State) : (State.clearEarly s).kept = s.kept := by
  unfold State.clearEarly
  simp

@[simp] theorem State.clearEncErr_kept (s : State) : (State.clearEncErr s).kept = s.kept := by
  unfold State.clearEncErr
  simp

@[simp] theorem State.setTelem_kept (first v : Nat) (s : State) : (State.setTelem first v s).kept = s.kept := by
  unfold State.setTelem
  simp

@[simp] theorem State.fuseSel_kept (v : Nat) (s : State) : (State.fuseSel v s).kept = s.kept := by
  unfold State.fuseSel
  simp

@[simp] theorem State.tapLocked_kept (s : State) : s.tapLocked.kept = s.kept := by
  unfold State.tapLocked
  split <;> simp

@[simp] theorem State.regIssue_kept (h : Option Hdr) (a left : Nat) (w : Option Nat) (s : State) : (State.regIssue h a left w s).kept = s.kept := by
  unfold State.regIssue
  simp

@[simp] theorem State.regDone_kept (r : RegAccess) (got : List Nat) (s : State) : (State.regDone r got s).kept = s.kept := by
  unfold State.regDone
  repeat' (first | (simp; done) | split | simp)

@[simp] theorem State.regMissing_kept (r : RegAccess) (s : State) : (State.regMissing r s).kept = s.kept := by
  unfold State.regMissing
  repeat' (first | (simp; done) | split | simp)

@[simp] theorem State.regsSettled_kept (s : State) : (State.regsSettled s).kept = s.kept := by
  unfold State.regsSettled
  repeat' (first | (simp; done) | split | simp)

@[simp] theorem State.fpaArrived_kept (s : State) : (State.fpaArrived s).kept = s.kept := by
  unfold State.fpaArrived
  simp

@[simp] theorem State.respArrives_kept (tag status data : Nat) (s : State) : (State.respArrives tag status data s).kept = s.kept := by
  unfold State.respArrives
  simp

@[simp] theorem State.latchNow_kept (l : List Nat) (s : State) : (State.latchNow l s).kept = s.kept := by
  unfold State.latchNow
  simp

@[simp] theorem regReadBody_kept (h : Hdr) (a n : Nat) (s : State) : (regReadBody h a n s).kept = s.kept := by
  unfold regReadBody
  simp

@[simp] theorem fuseReadBody_kept (h : Hdr) (first count : Nat) (s : State) : (fuseReadBody h first count s).kept = s.kept := by
  unfold fuseReadBody
  simp

@[simp] theorem State.benchAnswer_kept (status refusal : Nat) (data : Option Nat) (s : State) : (State.benchAnswer status refusal data s).kept = s.kept := by
  unfold State.benchAnswer
  simp

@[simp] theorem State.benchRead_kept (a : Nat) (s : State) : (State.benchRead a s).kept = s.kept := by
  unfold State.benchRead
  repeat' (first | (simp; done) | split | simp)

@[simp] theorem State.tap_kept (ir : Nat) (dr : BitVec 32) (s : State) : (State.tap ir dr s).kept = s.kept := by
  unfold State.tap
  simp

@[simp] theorem State.tapOut_kept (ir : Nat) (s : State) : (State.tapOut ir s).kept = s.kept := by
  unfold State.tapOut
  simp

@[simp] theorem State.logCleared_kept (s : State) : (State.logCleared s).kept = s.kept := by
  unfold State.logCleared
  simp

@[simp] theorem State.saveWake_kept (s : State) : (State.saveWake s).kept = s.kept := by
  unfold State.saveWake
  repeat' (first | (simp; done) | split | simp)

@[simp] theorem State.fireEntry_kept (t : Nat) (s : State) (p : Nat × AngleEntry) : (State.fireEntry t s p).kept = s.kept := by
  unfold State.fireEntry
  simp

@[simp] theorem State.encStep_kept (lineA : Bool) (t : Nat) (s : State) : (State.encStep lineA t s).kept = s.kept := by
  unfold State.encStep
  simp

/-- Erasing a user sector keeps the canonical form. -/
theorem Psto.wf_eraseUser (k : Nat) (p : Psto) (h : Memory.wf p.mem = true) : Memory.wf (p.eraseUser k).mem = true :=
  wf_cellErase _ _ _ h

/-- Writing user bytes keeps the canonical form. -/
theorem Psto.wf_write (o : Nat) (bs : List Byte) (p : Psto) (h : Memory.wf p.mem = true) : Memory.wf (p.write o bs).mem = true := by
  rw [Psto.write_mem]; exact wf_cellSetRun _ _ _ h

/-- Erasing any sector keeps the canonical form. -/
theorem Psto.wf_eraseSector (k : Nat) (p : Psto) (h : Memory.wf p.mem = true) : Memory.wf (p.eraseSector k).mem = true := by
  unfold Psto.eraseSector
  split
  · exact h
  · split
    · exact h
    · exact Psto.wf_eraseUser k p h

/-- Resolving an erase keeps the canonical form. -/
theorem Psto.wf_resolve (b : Bool) (p : Psto) (h : Memory.wf p.mem = true) : Memory.wf (p.resolve b).mem = true := by
  unfold Psto.resolve
  split
  · exact h
  · dsimp only
    split <;> simp only [Psto.store_mem, Psto.append_mem] <;> exact Psto.wf_eraseSector _ _ h

/-- A change of the parameter store alone. -/
theorem onPsto_keeps (f : Psto → Psto) (s : State) (h : Memory.wf s.psto.mem = true → Memory.wf (f s.psto).mem = true) :
    Keeps s (s.onPsto f) := ⟨rfl, fun _ _ => id, h⟩

theorem State.bgRun_keeps (j : BgJob) (s : State) : Keeps s (s.bgRun j) := by
  cases j with
  | resolve ok => exact .from (State.resolveLogged_kept ok s) (onPsto_keeps _ _ (Psto.wf_resolve ok _))
  | runMarker => exact .of (by simp [State.bgRun])
  | counters => exact .of (by simp [State.bgRun])
  | ring0 => exact .of (by simp [State.bgRun])
  | ring2 => exact .of (by simp [State.bgRun])
  | ringErase k => exact .of (by simp [State.bgRun])
  | rebuild => exact .of (by simp [State.bgRun])
  | compaction => exact .of (by simp [State.bgRun])
  | log => exact .of (by simp [State.bgRun])

theorem State.background_keeps (j : BgJob) (s : State) : Keeps s (s.background j) := by
  unfold State.background
  split
  · exact .of (by simp)
  · split
    · exact State.bgRun_keeps j s
    · exact .of (by simp)

/-- A fold of operations that keep. -/
theorem foldl_keeps {α : Type} (f : State → α → State) (h : ∀ s a, Keeps s (f s a)) (l : List α) (s : State) :
    Keeps s (l.foldl f s) := by
  induction l generalizing s with
  | nil => exact .refl s
  | cons a l ih => exact (h s a).trans (ih _)

theorem State.bgRetry_keeps (s : State) : Keeps s s.bgRetry := by
  unfold State.bgRetry
  split
  · exact .refl s
  · exact .from (t := s.onPsto (fun p => { p with bg := p.bg.filter (fun w => !bgDue s.pwr.vhold w) })) rfl
      (foldl_keeps (fun t (w : BgJob × Option Nat) => t.background w.1) (fun t w => State.background_keeps w.1 t) _ _)

theorem State.eraseNext_keeps (n : Nat) (s : State) : Keeps s (s.eraseNext n) := by
  induction n generalizing s with
  | zero => exact .refl s
  | succ n ih =>
    unfold State.eraseNext
    split
    · split
      · exact .refl s
      · refine Keeps.from ?_ (ih _)
        rfl
    · split
      · exact .from (by simp) (ih _)
      · split
        · exact .from (by simp) (ih _)
        · split
          · exact .of (by simp)
          · exact .from (by simp) (ih _)

theorem State.eraseGo_keeps (s : State) : Keeps s s.eraseGo := State.eraseNext_keeps _ s

theorem State.sectorErased_keeps (s : State) : Keeps s s.sectorErased := by
  have h : Keeps s (s.onPsto Psto.eraseFinish) :=
    onPsto_keeps _ _ (fun h => by rw [Psto.eraseFinish_mem]; exact Psto.wf_eraseUser _ _ h)
  unfold State.sectorErased
  dsimp only
  split
  · exact h.thenKept (by simp)
  · exact h.trans (State.eraseGo_keeps _)

theorem pstoEraseBody_keeps (h : Hdr) (a n : Nat) (s : State) : Keeps s (pstoEraseBody h a n s) := by
  unfold pstoEraseBody
  dsimp only
  split
  · exact .of (by simp)
  · exact .from (t := (s.accept h 0x42).onPsto (fun p => { p with job := some (eraseJob h a n) })) (by simp)
      (State.eraseGo_keeps _)

theorem State.postBoot_keeps (s : State) : Keeps s s.postBoot := by
  unfold State.postBoot
  have key : ∀ (a t : State) (b : Bool), Keeps s a → t.kept = (a.background .runMarker).kept →
      Keeps s (if b then t.background .counters else t) := by
    intro a t b h g
    have k : Keeps s t := (h.trans (State.background_keeps .runMarker a)).thenKept g
    split
    · exact k.trans (State.background_keeps _ _)
    · exact k
  dsimp only
  split
  · refine Keeps.thenKept (?_ : Keeps s _) (State.bootEvents_kept _ _ _)
    refine key _ _ _ (.of ?_) rfl
    simp
  · refine Keeps.thenKept (?_ : Keeps s _) ((State.bootEvents_kept _ _ _).trans (State.setMode_kept _ _))
    refine key _ _ _ (.of ?_) rfl
    repeat' split
    all_goals simp

theorem State.blow_keeps (mask : Nat) (s : State) : Keeps s (s.blow mask) := by
  unfold State.blow
  split
  · exact .refl s
  · next w _ =>
    refine Keeps.thenKept (t := s.onFuse (fun f => { f with
      words := f.words.modify w (fun x => x ||| BitVec.ofNat 32 mask), armed := none })) ?_
      ((State.logEntry_kept _ _ _).trans (State.tapLocked_kept _))
    exact ⟨rfl, fun _ _ h => getD_modify_or _ _ _ _ _ h, id⟩

/-- A register write that takes effect. -/
theorem State.regWrite_keeps (a v : Nat) (s t : State) (h : s.regWrite a v = .ok t) : Keeps s t := by
  unfold State.regWrite at h
  split at h
  all_goals first
    | (injection h with e; subst e; refine .of ?_; simp; done)
    | (injection h with e; subst e; exact State.blow_keeps _ _)
    | (unfold State.pipeWrite at h; dsimp only at h; split at h <;> first | (injection h; done) | (injection h with e; subst e; exact .of (by simp)))
    | (split at h
       · unfold State.sensWrite at h
         dsimp only at h
         repeat' split at h
         all_goals first | (injection h; done) | (injection h with e; subst e; exact .of (by simp))
       · injection h with e; subst e; exact .refl _)

theorem State.regAnswered_keeps (r : RegAccess) (d : Nat) (s : State) : Keeps s (s.regAnswered r d) := by
  unfold State.regAnswered
  split
  · split
    · next t h => exact (State.regWrite_keeps _ _ _ _ h).thenKept (by simp)
    · exact .of (by simp)
  · exact .of (by repeat' (first | (simp; done) | split | simp))

theorem regWriteBody_keeps (h : Hdr) (a v : Nat) (s : State) : Keeps s (regWriteBody h a v s) := by
  unfold regWriteBody
  repeat' split
  all_goals first
    | (refine .of ?_; simp; done)
    | (next t h => exact (State.regWrite_keeps _ _ _ _ h).thenKept (by simp))

theorem State.benchWrite_keeps (a v : Nat) (s : State) : Keeps s (s.benchWrite a v) := by
  unfold State.benchWrite
  repeat' split
  all_goals first
    | (refine .of ?_; simp; done)
    | (next t h => exact (State.regWrite_keeps _ _ _ _ h).thenKept (by simp))

/-- A command as it comes in keeps what its body keeps. -/
theorem serveAs_keeps (i : Intake) (h : Hdr) (op : Nat) (cmd : Instr) (gate : State → Gate) (body : State → State) (s : State)
    (hb : ∀ t, Keeps t (body t)) : Keeps s (serveAs i h op cmd gate body s) := by
  unfold serveAs
  split
  · exact .of (by simp)
  · exact .of (by simp)
  · exact .of (by simp)
  · exact .of (by simp)
  · split
    · exact .of (by simp)
    · exact .from (by simp) (hb _)

/-- An NCP row keeps what its body keeps. -/
theorem serve_keeps (h : Hdr) (op : Nat) (cmd : Instr) (gate : State → Gate) (body : State → State) (s : State)
    (hb : ∀ t, Keeps t (body t)) : Keeps s (serve h op cmd gate body s) :=
  .from (State.atTick_kept _ _) (serveAs_keeps _ h op cmd gate body _ hb)

/-- So does a row that the mailbox hardware answers at once. -/
theorem serveNow_keeps (h : Hdr) (op : Nat) (cmd : Instr) (gate : State → Gate) (body : State → State) (s : State)
    (hb : ∀ t, Keeps t (body t)) : Keeps s (serveNow h op cmd gate body s) :=
  .from (State.atTick_kept _ _) (serveAs_keeps _ h op cmd gate body _ hb)

/-- Admission keeps what the start keeps. -/
theorem State.admit_keeps (h : Hdr) (op wait : Nat) (cmd : Instr) (rs : List Nat) (start : State → State) (s : State)
    (hb : ∀ t, Keeps t (start t)) : Keeps s (s.admitExclusive h op wait cmd rs start) := by
  unfold State.admitExclusive
  split
  · exact hb s
  · split
    · exact .of (by simp)
    · exact .of (by simp)

/-- Admission of a calibration keeps what its start keeps. -/
theorem State.admitCal_keeps (h : Hdr) (op wait : Nat) (cmd : Instr) (s : State)
    (hb : ∀ t, Keeps t (State.startCmd cmd t)) : Keeps s (s.admitCal h op wait cmd) := by
  unfold State.admitCal
  split
  · exact .of (by simp)
  · exact State.admit_keeps h op wait cmd _ _ s hb

/-- An event of the core keeps what its effect keeps. -/
theorem onCore_keeps (f : State → State) (s : State) (h : ∀ t, Keeps t (f t)) : Keeps s (onCore f s) := by
  unfold onCore
  split
  · exact h s
  · exact .refl s

end Sys2Proof.Machine
end

