-- ==== Sys2Proof/Laws/Serve.lean ====
section
/-!
SUPPORT. What the wrappers of every meaning answer: `live`, `serve`, `serveNow` and `onCore`.
-/

namespace Sys2Proof.Laws

open Sys2Proof Sys2Proof.Machine Sys2Proof.Safety

/-- Inside the ratings a meaning answers its effect. -/
theorem live_in (s : State) (f : State → State) (h : s.jtag.tainted = false) : live s f = .next (f s) := by
  unfold live; rw [h]; rfl

/-- Outside them it stops. -/
theorem live_out (s : State) (f : State → State) (h : s.jtag.tainted = true) : live s f = .fault .outsideRatings := by
  unfold live; rw [h]; rfl

/-- An event of the core, when the core serves. -/
theorem onCore_up (s : State) (f : State → State) (h : s.coreServes = true) : onCore f s = f s := by
  unfold onCore; rw [if_pos h]

/-- The effect of an event of the core inside the ratings. -/
theorem live_core (s : State) (f : State → State) (h : coreActs s = true) : live s (onCore f) = .next (f s) := by
  unfold coreActs at h
  rw [Bool.and_eq_true, Bool.not_eq_true'] at h
  rw [live_in s _ h.1, onCore_up s f h.2]

/-- A command that runs has its body's effect. -/
theorem serve_runs (h : Hdr) (op : Nat) (cmd : Instr) (gate : State → Gate) (body : State → State) (s : State)
    (r : runs h op gate s = true) : live s (serve h op cmd gate body) = .next (body (acting h op s)) := by
  unfold runs at r
  simp only [Bool.and_eq_true, Bool.not_eq_true', decide_eq_true_eq, Option.isNone_iff_eq_none] at r
  obtain ⟨⟨r1, r2⟩, r3⟩ := r
  unfold acting at r3
  rw [live_in s _ r1]
  unfold serve
  rw [r2]
  simp only [serveAs, r3, acting]

/-- So has one that the mailbox hardware answers at once. -/
theorem serveNow_runs (h : Hdr) (op : Nat) (cmd : Instr) (gate : State → Gate) (body : State → State) (s : State)
    (r : runsNow h op gate s = true) : live s (serveNow h op cmd gate body) = .next (body (acting h op s)) := by
  unfold runsNow at r
  simp only [Bool.and_eq_true, Bool.not_eq_true', decide_eq_true_eq, Option.isNone_iff_eq_none] at r
  obtain ⟨⟨r1, r2⟩, r3⟩ := r
  unfold acting at r3
  rw [live_in s _ r1]
  unfold serveNow
  rw [r2]
  simp only [serveAs, r3, acting]

/-- What a served command answers, whatever comes of it. -/
theorem serve_cases (h : Hdr) (op : Nat) (cmd : Instr) (gate : State → Gate) (body : State → State) (s : State)
    (r : inRatings s) :
    live s (serve h op cmd gate body) = .next (serveAs (intake h op (s.atTick h.tick)) h op cmd gate body (s.atTick h.tick)) :=
  live_in s _ r

/-- A command that only the module's state turns away is answered with that status, and nothing else happens. -/
theorem serve_turned (h : Hdr) (op : Nat) (cmd : Instr) (gate : State → Gate) (body : State → State) (s : State) (st : Nat)
    (r : inRatings s) (i : intake h op (s.atTick h.tick) = .take false)
    (k : reachesState h op (gate (acting h op s)) (acting h op s) = true)
    (g : (match stateGate op (acting h op s) with
      | some x => some x
      | none => (gate (acting h op s)).state) = some st) :
    live s (serve h op cmd gate body) = .next ((acting h op s).answer h op st []) := by
  rw [serve_cases _ _ _ _ _ _ r, i]
  unfold serveAs
  unfold reachesState at k
  simp only [Bool.and_eq_true, decide_eq_true_eq, Bool.not_eq_true', Option.isNone_iff_eq_none, ne_eq, Bool.or_eq_true] at k
  obtain ⟨⟨⟨⟨⟨k1, k2⟩, k3⟩, k4⟩, k5⟩, k6⟩ := k
  unfold acting at k3 k4 k5 k6 g ⊢
  have v : verdict h op false (gate ((s.atTick h.tick).taken h op)) ((s.atTick h.tick).taken h op) = some (st, []) := by
    unfold verdict
    have c1 : (decide (h.cls = 3) || false || (h.urgent && !urgentPath op)) = false := by simp [k1, k2]
    rw [if_neg (by rw [c1]; decide)]
    have c2 : ¬ ((!(((s.atTick h.tick).taken h op).sess.get h.session).opened && !(decide (op = 0x00) || decide (op = 0x01))) = true) := by
      intro c
      simp only [Bool.and_eq_true, Bool.not_eq_true', Bool.or_eq_false_iff, decide_eq_false_iff_not] at c
      rcases k3 with (k3 | k3) | k3
      · rw [k3] at c; exact absurd c.1 (by decide)
      · exact c.2.1 k3
      · exact c.2.2 k3
    rw [if_neg c2, k4]
    dsimp only
    rw [if_neg (by omega), k6]
    dsimp only
    revert g
    cases stateGate op ((s.atTick h.tick).taken h op) with
    | some x => intro g; cases g; rfl
    | none =>
      intro g
      have e : (gate ((s.atTick h.tick).taken h op)).state = some st := g
      rw [e]
      rfl
  dsimp only
  rw [v]

/-- What a row that is served shows of its gate and its effect. -/
theorem served_as (c : Instr) (h : Hdr) (op : Nat) (gate : State → Gate) (body : State → State) (n : op ≠ 0x0E)
    (k : ∀ s, exec c s = live s (serve h op c gate body)) (g : ∀ a, (gate a).tier = requiredTier h op c) :
    ∃ (gate : State → Gate) (body : State → State), (∀ a, (gate a).tier = requiredTier h op c) ∧
      ∀ s, inRatings s → exec c s = .next (serveAs (cameIn h op s) h op c gate body (s.atTick h.tick)) := by
  refine ⟨gate, body, g, fun s r => ?_⟩
  unfold cameIn
  rw [k, live_in s _ r, if_neg n]
  rfl

/-- Every served command is one of these: it comes in, its gate asks the tier of R561, and its checks come before its effect. -/
theorem served_serveAs (c : Instr) (h : Hdr) (op : Nat) (e : served c = some (h, op)) :
    ∃ (gate : State → Gate) (body : State → State), (∀ a, (gate a).tier = requiredTier h op c) ∧
      ∀ s, inRatings s → exec c s = .next (serveAs (cameIn h op s) h op c gate body (s.atTick h.tick)) := by
  cases c
  case ping =>
    cases e
    apply served_as
    · decide
    · intro s; unfold exec; dsimp only; unfold execPing; rfl
    · intro a; rfl
  case sessionOpen =>
    cases e
    apply served_as
    · decide
    · intro s; unfold exec; dsimp only; unfold execSessionOpen; rfl
    · intro a; rfl
  case sessionClose =>
    cases e
    apply served_as
    · decide
    · intro s; unfold exec; dsimp only; unfold execSessionClose; rfl
    · intro a; rfl
  case sessionPolicy =>
    cases e
    apply served_as
    · decide
    · intro s; unfold exec; dsimp only; unfold execSessionPolicy; rfl
    · intro a; rfl
  case claim =>
    cases e
    apply served_as
    · decide
    · intro s; unfold exec; dsimp only; unfold execClaim; rfl
    · intro a; rfl
  case release =>
    cases e
    apply served_as
    · decide
    · intro s; unfold exec; dsimp only; unfold execRelease; rfl
    · intro a; rfl
  case statusGet =>
    cases e
    apply served_as
    · decide
    · intro s; unfold exec; dsimp only; unfold execStatusGet; rfl
    · intro a; rfl
  case eventSubscribe =>
    cases e
    apply served_as
    · decide
    · intro s; unfold exec; dsimp only; unfold execEventSubscribe; rfl
    · intro a; rfl
  case replyFetch =>
    cases e
    apply served_as
    · decide
    · intro s; unfold exec; dsimp only; unfold execReplyFetch; rfl
    · intro a; rfl
  case cancel =>
    cases e
    apply served_as
    · decide
    · intro s; unfold exec; dsimp only; unfold execCancel; rfl
    · intro a; rfl
  case modeSet =>
    cases e
    apply served_as
    · decide
    · intro s; unfold exec; dsimp only; unfold execModeSet; rfl
    · intro a; rfl
  case sysReset =>
    cases e
    apply served_as
    · decide
    · intro s; unfold exec; dsimp only; unfold execSysReset; rfl
    · intro a; rfl
  case unitReset =>
    cases e
    apply served_as
    · decide
    · intro s; unfold exec; dsimp only; unfold execUnitReset; rfl
    · intro a; rfl
  case timeGet =>
    cases e
    apply served_as
    · decide
    · intro s; unfold exec; dsimp only; unfold execTimeGet; rfl
    · intro a; rfl
  case hostKeepalive => cases e; exact ⟨_, _, fun a => rfl, fun s r => (by unfold exec; dsimp only; unfold execHostKeepalive; exact live_in s _ r)⟩
  case wdgConfig =>
    cases e
    apply served_as
    · decide
    · intro s; unfold exec; dsimp only; unfold execWdgConfig; rfl
    · intro a; rfl
  case streamOpen =>
    cases e
    apply served_as
    · decide
    · intro s; unfold exec; dsimp only; unfold execStreamOpen; rfl
    · intro a; rfl
  case streamClose =>
    cases e
    apply served_as
    · decide
    · intro s; unfold exec; dsimp only; unfold execStreamClose; rfl
    · intro a; rfl
  case streamStart =>
    cases e
    apply served_as
    · decide
    · intro s; unfold exec; dsimp only; unfold execStreamStart; rfl
    · intro a; rfl
  case streamHalt =>
    cases e
    apply served_as
    · decide
    · intro s; unfold exec; dsimp only; unfold execStreamHalt; rfl
    · intro a; unfold haltGate; split <;> rfl
  case streamModify =>
    cases e
    apply served_as
    · decide
    · intro s; unfold exec; dsimp only; unfold execStreamModify; rfl
    · intro a; rfl
  case readoutConfig =>
    cases e
    apply served_as
    · decide
    · intro s; unfold exec; dsimp only; unfold execReadoutConfig; rfl
    · intro a; rfl
  case readoutArm =>
    cases e
    apply served_as
    · decide
    · intro s; unfold exec; dsimp only; unfold execReadoutArm; rfl
    · intro a; rfl
  case frameSnap =>
    cases e
    apply served_as
    · decide
    · intro s; unfold exec; dsimp only; unfold execFrameSnap; rfl
    · intro a; rfl
  case pipeConfig =>
    cases e
    apply served_as
    · decide
    · intro s; unfold exec; dsimp only; unfold execPipeConfig; rfl
    · intro a; rfl
  case radiometrySet =>
    cases e
    apply served_as
    · decide
    · intro s; unfold exec; dsimp only; unfold execRadiometrySet; rfl
    · intro a; rfl
  case qualityConfig =>
    cases e
    apply served_as
    · decide
    · intro s; unfold exec; dsimp only; unfold execQualityConfig; rfl
    · intro a; rfl
  case adcCal =>
    cases e
    apply served_as
    · decide
    · intro s; unfold exec; dsimp only; unfold execAdcCal; rfl
    · intro a; rfl
  case shutterCal =>
    cases e
    apply served_as
    · decide
    · intro s; unfold exec; dsimp only; unfold execShutterCal; rfl
    · intro a; rfl
  case gainCal =>
    cases e
    apply served_as
    · decide
    · intro s; unfold exec; dsimp only; unfold execGainCal; rfl
    · intro a; rfl
  case driftConfig =>
    cases e
    apply served_as
    · decide
    · intro s; unfold exec; dsimp only; unfold execDriftConfig; rfl
    · intro a; rfl
  case shutterInhibit =>
    cases e
    apply served_as
    · decide
    · intro s; unfold exec; dsimp only; unfold execShutterInhibit; rfl
    · intro a; rfl
  case defectEdit =>
    cases e
    apply served_as
    · decide
    · intro s; unfold exec; dsimp only; unfold execDefectEdit; rfl
    · intro a; rfl
  case calsetSelect =>
    cases e
    apply served_as
    · decide
    · intro s; unfold exec; dsimp only; unfold execCalsetSelect; rfl
    · intro a; rfl
  case calsetSave =>
    cases e
    apply served_as
    · decide
    · intro s; unfold exec; dsimp only; unfold execCalsetSave; rfl
    · intro a; rfl
  case coeffRead =>
    cases e
    apply served_as
    · decide
    · intro s; unfold exec; dsimp only; unfold execCoeffRead; rfl
    · intro a; rfl
  case coeffWrite =>
    cases e
    apply served_as
    · decide
    · intro s; unfold exec; dsimp only; unfold execCoeffWrite; rfl
    · intro a; rfl
  case actConfig =>
    cases e
    apply served_as
    · decide
    · intro s; unfold exec; dsimp only; unfold execActConfig; rfl
    · intro a; rfl
  case actProgramLoad =>
    cases e
    apply served_as
    · decide
    · intro s; unfold exec; dsimp only; unfold execActProgramLoad; rfl
    · intro a; rfl
  case actFire =>
    cases e
    apply served_as
    · decide
    · intro s; unfold exec; dsimp only; unfold execActFire; rfl
    · intro a; rfl
  case actSchedule =>
    cases e
    apply served_as
    · decide
    · intro s; unfold exec; dsimp only; unfold execActSchedule; rfl
    · intro a; rfl
  case actAbort =>
    cases e
    apply served_as
    · decide
    · intro s; unfold exec; dsimp only; unfold execActAbort; rfl
    · intro a; rfl
  case actDiagGet =>
    cases e
    apply served_as
    · decide
    · intro s; unfold exec; dsimp only; unfold execActDiagGet; rfl
    · intro a; rfl
  case shutterMove =>
    cases e
    apply served_as
    · decide
    · intro s; unfold exec; dsimp only; unfold execShutterMove; rfl
    · intro a; rfl
  case pstoRead =>
    cases e
    apply served_as
    · decide
    · intro s; unfold exec; dsimp only; unfold execPstoRead; rfl
    · intro a; rfl
  case pstoWrite =>
    cases e
    apply served_as
    · decide
    · intro s; unfold exec; dsimp only; unfold execPstoWrite; rfl
    · intro a; rfl
  case pstoErase =>
    cases e
    apply served_as
    · decide
    · intro s; unfold exec; dsimp only; unfold execPstoErase; rfl
    · intro a; rfl
  case pstoProtect =>
    cases e
    apply served_as
    · decide
    · intro s; unfold exec; dsimp only; unfold execPstoProtect; rfl
    · intro a; rfl
  case counterGet =>
    cases e
    apply served_as
    · decide
    · intro s; unfold exec; dsimp only; unfold execCounterGet; rfl
    · intro a; rfl
  case logRead =>
    cases e
    apply served_as
    · decide
    · intro s; unfold exec; dsimp only; unfold execLogRead; rfl
    · intro a; rfl
  case logClear =>
    cases e
    apply served_as
    · decide
    · intro s; unfold exec; dsimp only; unfold execLogClear; rfl
    · intro a; rfl
  case trigConfig =>
    cases e
    apply served_as
    · decide
    · intro s; unfold exec; dsimp only; unfold execTrigConfig; rfl
    · intro a; rfl
  case encConfig =>
    cases e
    apply served_as
    · decide
    · intro s; unfold exec; dsimp only; unfold execEncConfig; rfl
    · intro a; rfl
  case angleTableLoad =>
    cases e
    apply served_as
    · decide
    · intro s; unfold exec; dsimp only; unfold execAngleTableLoad; rfl
    · intro a; rfl
  case gangConfig =>
    cases e
    apply served_as
    · decide
    · intro s; unfold exec; dsimp only; unfold execGangConfig; rfl
    · intro a; rfl
  case gangJoin =>
    cases e
    apply served_as
    · decide
    · intro s; unfold exec; dsimp only; unfold execGangJoin; rfl
    · intro a; rfl
  case gangLeave =>
    cases e
    apply served_as
    · decide
    · intro s; unfold exec; dsimp only; unfold execGangLeave; rfl
    · intro a; rfl
  case gangStatus =>
    cases e
    apply served_as
    · decide
    · intro s; unfold exec; dsimp only; unfold execGangStatus; rfl
    · intro a; rfl
  case thermalGet =>
    cases e
    apply served_as
    · decide
    · intro s; unfold exec; dsimp only; unfold execThermalGet; rfl
    · intro a; rfl
  case thermalConfig =>
    cases e
    apply served_as
    · decide
    · intro s; unfold exec; dsimp only; unfold execThermalConfig; rfl
    · intro a; rfl
  case powerGet =>
    cases e
    apply served_as
    · decide
    · intro s; unfold exec; dsimp only; unfold execPowerGet; rfl
    · intro a; rfl
  case rideConfig =>
    cases e
    apply served_as
    · decide
    · intro s; unfold exec; dsimp only; unfold execRideConfig; rfl
    · intro a; rfl
  case fwInfo =>
    cases e
    apply served_as
    · decide
    · intro s; unfold exec; dsimp only; unfold execFwInfo; rfl
    · intro a; rfl
  case fwWrite =>
    cases e
    apply served_as
    · decide
    · intro s; unfold exec; dsimp only; unfold execFwWrite; rfl
    · intro a; rfl
  case fwVerify =>
    cases e
    apply served_as
    · decide
    · intro s; unfold exec; dsimp only; unfold execFwVerify; rfl
    · intro a; rfl
  case fwActivate =>
    cases e
    apply served_as
    · decide
    · intro s; unfold exec; dsimp only; unfold execFwActivate; rfl
    · intro a; rfl
  case regRead =>
    cases e
    apply served_as
    · decide
    · intro s; unfold exec; dsimp only; unfold execRegRead; rfl
    · intro a; rfl
  case regWrite =>
    cases e
    apply served_as
    · decide
    · intro s; unfold exec; dsimp only; unfold execRegWrite; rfl
    · intro a; rfl
  case ledgeExit =>
    cases e
    apply served_as
    · decide
    · intro s; unfold exec; dsimp only; unfold execLedgeExit; rfl
    · intro a; rfl
  case fuseRead =>
    cases e
    apply served_as
    · decide
    · intro s; unfold exec; dsimp only; unfold execFuseRead; rfl
    · intro a; rfl
  case sensRegisterWrite =>
    cases e
    apply served_as
    · decide
    · intro s; unfold exec; dsimp only; unfold execSensRegisterWrite; rfl
    · intro a; rfl
  case sessTierWrite =>
    cases e
    apply served_as
    · decide
    · intro s; unfold exec; dsimp only; unfold execSessTierWrite; rfl
    · intro a; rfl
  case wdgHostCtrlWrite =>
    cases e
    apply served_as
    · decide
    · intro s; unfold exec; dsimp only; unfold execWdgHostCtrlWrite; rfl
    · intro a; rfl
  case thmConfigWrite =>
    cases e
    apply served_as
    · decide
    · intro s; unfold exec; dsimp only; unfold execThmConfigWrite; rfl
    · intro a; rfl
  case pwrRideTimerWrite =>
    cases e
    apply served_as
    · decide
    · intro s; unfold exec; dsimp only; unfold execPwrRideTimerWrite; rfl
    · intro a; rfl
  case sessTelemWrite =>
    cases e
    apply served_as
    · decide
    · intro s; unfold exec; dsimp only; unfold execSessTelemWrite; rfl
    · intro a; rfl
  case fuseBlowSelWrite =>
    cases e
    apply served_as
    · decide
    · intro s; unfold exec; dsimp only; unfold execFuseBlowSelWrite; rfl
    · intro a; rfl
  case fuseBlowWrite =>
    cases e
    apply served_as
    · decide
    · intro s; unfold exec; dsimp only; unfold execFuseBlowWrite; rfl
    · intro a; rfl
  case tbaseNowLoRead =>
    cases e
    apply served_as
    · decide
    · intro s; unfold exec; dsimp only; unfold execTbaseNowLoRead; rfl
    · intro a; rfl
  case causeStickyClear =>
    cases e
    apply served_as
    · decide
    · intro s; unfold exec; dsimp only; unfold execCauseStickyClear; rfl
    · intro a; rfl
  case haulHdrErrClear =>
    cases e
    apply served_as
    · decide
    · intro s; unfold exec; dsimp only; unfold execHaulHdrErrClear; rfl
    · intro a; rfl
  case haulCrcErrClear =>
    cases e
    apply served_as
    · decide
    · intro s; unfold exec; dsimp only; unfold execHaulCrcErrClear; rfl
    · intro a; rfl
  case pipeEccClear =>
    cases e
    apply served_as
    · decide
    · intro s; unfold exec; dsimp only; unfold execPipeEccClear; rfl
    · intro a; rfl
  case pstoEccClear =>
    cases e
    apply served_as
    · decide
    · intro s; unfold exec; dsimp only; unfold execPstoEccClear; rfl
    · intro a; rfl
  case cxpDiscardsClear =>
    cases e
    apply served_as
    · decide
    · intro s; unfold exec; dsimp only; unfold execCxpDiscardsClear; rfl
    · intro a; rfl
  case trigEarlyClear =>
    cases e
    apply served_as
    · decide
    · intro s; unfold exec; dsimp only; unfold execTrigEarlyClear; rfl
    · intro a; rfl
  case encErrCountClear =>
    cases e
    apply served_as
    · decide
    · intro s; unfold exec; dsimp only; unfold execEncErrCountClear; rfl
    · intro a; rfl
  all_goals cases e

end Sys2Proof.Laws
end

