-- ==== Sys2Proof/Machine/Control.lean ====
section
/-!
DEFINITION. What the host reads in the control space of link 0 (spec/10_coaxpress_attachment.md R494, R498, R500 to R503, R507, R512).
No command of the table reads it: these are functions of the state.
-/

namespace Sys2Proof.Machine

open Sys2Proof

/-! ## Bootstrap registers (R494, R495, R498) -/

/-- A bootstrap register that the spec gives a value. -/
inductive BootReg where
  | vendorName | modelName | serialNumber | version
  | connectionConfig | connectionConfigDefault
  | controlPacketSizeMax | streamPacketSizeMax
  | widthAddress | heightAddress | pixelFormatAddress | acquisitionStartAddress | acquisitionStopAddress
  deriving DecidableEq, Repr

/-- What a bootstrap register holds. -/
inductive BootVal where
  | text (v : String)
  | num (v : Nat)
  /-- A rate code and a number of links. -/
  | links (rate n : Nat)
  deriving DecidableEq, Repr

/-- A firmware version as it is written (R498): major.minor.patch. -/
def versionText (v : Nat × Nat × Nat) : String := v.1.repr ++ "." ++ v.2.1.repr ++ "." ++ v.2.2.repr

/-- Twelve decimal digits (R2, R498). -/
def serialText (n : Nat) : String :=
  String.ofList ((List.range 12).map (fun k => Char.ofNat (48 + n / 10 ^ (11 - k) % 10)))

/-- The mirror registers stand one after the other, four bytes each. DEDUCED (log entry 165): R502 gives their order and 32 bytes. -/
def mirrorAddress (k : Nat) : Nat := 0x30000 + 4 * k

/-- The bootstrap registers (R494, R498). -/
def State.bootReg (s : State) : BootReg → BootVal
  | .vendorName => .text "Moistora Microsystems"
  | .modelName => .text "UZ-1296-GE"
  | .serialNumber => .text (serialText s.psto.opt.serial)
  | .version => .text (if s.pwr.mode = .ledge then "LEDGE" else versionText (s.cfl.image s.cfl.running).header.version)
  | .connectionConfig => .links s.cxp.cfgRate (s.cxp.links.filter (·.configured)).length
  | .connectionConfigDefault => .links 0xC 4
  | .controlPacketSizeMax => .num 1024
  | .streamPacketSizeMax => .num s.cxp.packetMax
  | .widthAddress => .num (mirrorAddress 0)
  | .heightAddress => .num (mirrorAddress 1)
  | .pixelFormatAddress => .num (mirrorAddress 2)
  | .acquisitionStartAddress => .num (mirrorAddress 3)
  | .acquisitionStopAddress => .num (mirrorAddress 4)

/-! ## Mailboxes (R502, R503, R512) -/

/-- MBOX_STATUS (R503). -/
def State.mboxStatus (m : Nat) (s : State) : Nat :=
  s.sess.free * 0x10000 + s.sess.inflight m * 0x10 + (s.sess.get m).last

/-- The packet of the oldest reply held for poll (R512). -/
def State.polledReply (m : Nat) (s : State) : List Byte :=
  match s.sess.heldReplies m with
  | f :: _ => (f.reply.map Reply.packet).getD []
  | [] => []

/-- REPLY_STATUS (R502). -/
def State.replyStatus (m : Nat) (s : State) : Nat := (s.polledReply m).length * 0x10000 + (s.sess.heldReplies m).length

/-- One byte of a 32-bit word, the least significant first (R8). -/
def wordByte (v k : Nat) : Byte := BitVec.ofNat 8 (v / 256 ^ k)

/-- One byte of a mailbox. The spec gives REPLY_POP no value on a read: a free value (log entry 165). -/
def State.mailboxRead (m a : Nat) (s : State) : Option Byte :=
  if a < 0x414 then some 0
  else if a < 0x418 then some (wordByte (s.mboxStatus m) (a - 0x414))
  else if a < 0x800 then none
  else if a < 0x900 then some ((s.polledReply m).getD (a - 0x800) 0)
  else if a < 0x904 then some (wordByte (s.replyStatus m) (a - 0x900))
  else if a < 0x908 then some (BitVec.ofNat 8 (Config.freeValue a).toNat)
  else none

/-! ## Mirrors and description file (R500, R501) -/

/-- One byte of the mirrors: width, height and pixel format of stream 0; the acquisition mirrors read as free values, for which the spec
gives none (log entry 165). -/
def State.mirrorRead (k : Nat) (s : State) : Byte :=
  match k / 4 with
  | 0 => wordByte s.cxp.width (k % 4)
  | 1 => wordByte s.cxp.height (k % 4)
  | 2 => wordByte s.cxp.pixfmt (k % 4)
  | _ => BitVec.ofNat 8 (Config.freeValue k).toNat

/-- One byte of the description file, zero past its end: at most 32 KiB (R501). -/
def descriptionRead (k : Nat) : Byte := if k < Config.descriptionLength then Config.descriptionByte k else 0

/-! ## The control space (R502, R507) -/

/-- One byte of the control space at an address; none is the address error acknowledgement (R507). The addresses of the bootstrap
registers are the standard's: a byte there reads as a free value, the registers' values are `State.bootReg` (log entry 165). -/
def State.controlRead (a : Nat) (s : State) : Option Byte :=
  if a < 0x4000 then some (BitVec.ofNat 8 (Config.freeValue a).toNat)
  else if 0x10000 ≤ a && a < 0x20000 then s.mailboxRead ((a - 0x10000) / 0x1000) (a % 0x1000)
  else if 0x20000 ≤ a && a < 0x28000 then some (descriptionRead (a - 0x20000))
  else if 0x30000 ≤ a && a < 0x30020 then some (s.mirrorRead (a - 0x30000))
  else none

/-- The acknowledgement of a control read of one byte while link 0 is up (R492, R507, R508). -/
def State.readAck (a : Nat) (s : State) : Option Nat :=
  if s.cxp.up0 then some (if (s.controlRead a).isSome then 0 else 3) else none

end Sys2Proof.Machine
end

