-- ==== Sys2Proof/Machine/Domains.lean ====
section
/-!
DEFINITION. The power domains of the three dies and when each is on (spec/01_architecture.md R20, R31 to R35). They are functions of the
state: nothing but the state decides them.
-/

namespace Sys2Proof.Machine

open Sys2Proof

/-- The 138 power domains, by die and group (R31). -/
inductive Domain where
  | adc (n : Fin 36) | integrator (n : Fin 36) | rowDriver (n : Fin 4) | bias | haulTx | rowSequencer | sTemp
  | coeffBank (n : Fin 25) | streamBank (n : Fin 12) | lane (n : Fin 2) | phy (n : Fin 4) | haulRx | formatters | core | mailboxes | timing
  | storage | base
  | aon | buck | auxRegulators | holdUp | feeder | actA | actB | shutter
  deriving DecidableEq, Repr

/-- All of them (R31). -/
def Domain.all : List Domain :=
  (List.finRange 36).map .adc ++ (List.finRange 36).map .integrator ++ (List.finRange 4).map .rowDriver
    ++ [.bias, .haulTx, .rowSequencer, .sTemp]
    ++ (List.finRange 25).map .coeffBank ++ (List.finRange 12).map .streamBank ++ (List.finRange 2).map .lane ++ (List.finRange 4).map .phy
    ++ [.haulRx, .formatters, .core, .mailboxes, .timing, .storage, .base]
    ++ [.aon, .buck, .auxRegulators, .holdUp, .feeder, .actA, .actB, .shutter]

/-- How a domain stands (R35). -/
inductive DomainPower where
  | off | retention | on
  deriving DecidableEq, Repr

/-- On under a condition. -/
def onIf (b : Bool) : DomainPower := if b then .on else .off

/-- Bytes of a stream-buffer bank: 6 MiB in 12 banks (R20). -/
def streamBankBytes : Nat := 6 * 2 ^ 20 / 12

/-- Bytes that the open streams need: two frames of each with their trailers (R20, R33; DESIGN CHOICE, log entry 171). -/
def State.streamBytes (s : State) : Nat := ((s.streams.filter (·.opened)).map (fun x => 2 * x.frameBytes s.rd.count)).sum

/-- An open stream needs a stream-buffer bank (R33). -/
def State.bankNeeded (s : State) (n : Nat) : Bool := n * streamBankBytes < s.streamBytes

/-- The C die is released: its system domains, or its core in Ride-through and Ledge (R115). -/
def State.cdieUp (s : State) : Bool := 9 ≤ s.rstc.rails

/-- A domain of the C die that Ledge keeps (R35). -/
def Domain.inLedge : Domain → Bool
  | .base => true
  | .core => true
  | .storage => true
  | .mailboxes => true
  | _ => false

/-- The parking move of Ledge is under way (R35, R150). -/
def State.parkingNow (s : State) : Bool :=
  match s.act.move with
  | some { asker := .parking, .. } => true
  | _ => false

/-- A domain of the C die outside Keep and Keep-warm: PHYs, banks and lanes as the configuration needs them, the others once released (R32,
R33, R35). -/
def State.cdieDomain (s : State) (d : Domain) : DomainPower :=
  match d with
  | .base => onIf (2 ≤ s.rstc.rails)
  | .core => onIf s.rstc.coreUp
  | .phy n => onIf (s.cdieUp && (s.cxp.links.getD n Link.off).powered)
  | .streamBank n => onIf (s.cdieUp && s.pwr.mode ≠ .ledge && s.bankNeeded n)
  | _ => onIf (s.cdieUp && (s.pwr.mode ≠ .ledge || d.inLedge))

/-- How a domain stands (R31 to R35): the S die by its rails; the C die by the state; on the P die the actuator banks by what is loaded for
them, the rest by the state. -/
def State.domain (s : State) (d : Domain) : DomainPower :=
  let m := s.pwr.mode
  let standby := m = .keepWarm || m = .keep
  match d with
  | .adc _ => onIf (12 ≤ s.rstc.rails)
  | .integrator _ => onIf (12 ≤ s.rstc.rails)
  | .rowDriver _ => onIf (12 ≤ s.rstc.rails)
  | .bias => onIf (12 ≤ s.rstc.rails)
  | .haulTx => onIf (12 ≤ s.rstc.rails)
  | .rowSequencer => onIf (12 ≤ s.rstc.rails)
  | .sTemp => onIf (12 ≤ s.rstc.rails)
  | .aon => onIf (1 ≤ s.rstc.rails)
  | .buck => onIf (6 ≤ s.rstc.rails && !standby)
  | .auxRegulators => onIf (2 ≤ s.rstc.rails && m ≠ .keep && m ≠ .ride)
  | .holdUp => onIf (s.cdieUp && !standby && m ≠ .ledge)
  | .feeder => onIf (s.cdieUp && !standby && (m ≠ .ledge || s.parkingNow))
  | .actA => onIf (s.cdieUp && (m = .run || m = .idle) && s.act.bankOn 0)
  | .actB => onIf (s.cdieUp && (m = .run || m = .idle) && s.act.bankOn 1)
  | .shutter => onIf (s.cdieUp && (m = .run || m = .idle || (m = .ledge && s.parkingNow)))
  | .coeffBank _ => if m = .keepWarm then .retention else if m = .keep then .off else s.cdieDomain d
  | .mailboxes => if m = .keepWarm then .retention else if m = .keep then .off else s.cdieDomain d
  | _ => if standby then .off else s.cdieDomain d

end Sys2Proof.Machine
end

