-- ==== Sys2Proof/Tests/Slice0.lean ====
section
/-!
SUPPORT. The model's own tests: the well-formedness checks on terms they refuse, and for every statement with hypotheses a state
and operands that meet them, each clause for itself. The states are small changes of one that has started and stands in Idle.
-/

namespace Sys2Proof.Tests

open Sys2Proof Sys2Proof.Machine Sys2Proof.Safety

set_option maxRecDepth 8192

/-- A header of a session with TAG 1, class 2, a pushed reply, at tick 0. -/
def hdr (session : Nat) : Hdr :=
  { session := session, tag := 1, cls := 2, urgent := false, push := true, tick := 0, res := none }

/-- A session open. -/
def openUp (x : Session) : Session := { x with opened := true }

/-- A module that has started: Idle, link 0 up, the core released after BOOT_OK, sessions 0 and 1 open, recall and scan done,
the readout disarmed, the supplies and the hold-up capacitor charged. -/
def up : State :=
  { State.reset with
    pwr := { Pwr.reset with mode := .idle, vlink1 := 24000, vhold := 24000, vshr := 24000, cmeas := 10000, cmeasValid := true }
    rstc := { Rstc.reset with step := 15, bootOk := true, order := .none, coreUp := true, rails := 15, padsDriven := true }
    tb := { Tbase.reset with running := true }
    cxp := { Cxp.reset with links := List.replicate 4 { powered := true, up := true, rate := 1, configured := true } }
    sess := { Sess.reset with list := (Sess.reset.list.modify 0 openUp).modify 1 openUp }
    rd := { Rd.reset with state := .disarmed }
    haul := { Haul.reset with state := 2, lanesUp := 15, released := true }
    psto := { Psto.reset with scan := 2 }
    cfl := { Cfl.reset with result := 2 } }

/-- How many items a command sends from that state. -/
def sends (c : Instr) : Nat :=
  match exec c up with
  | .next t => t.cxp.tx.length
  | _ => 0

/-- An in-flight FW_VERIFY of session 0 with TAG 9. -/
def flight (st : FlightSt) : Flight :=
  { hdr := { hdr 0 with tag := 9 }, opcode := 0x72, cls := 2, slot := false, cmd := none, st := st,
    reply := some { session := 0, tag := 9, opcode := 0x72, cls := 2, urgent := false, push := false, status := 0, result := [] },
    replay := false, sentAt := 0 }

/-- The same module with that command in flight. -/
def flying (st : FlightSt) : State := { up with sess := { up.sess with flights := [flight st] } }

/-- The same with its verification in progress. -/
def verifying (s : State) : State := { s with cfl := { s.cfl with fwVerify := some (0, 9, 0) } }

/-- A watchdog that is enabled, in its opening period, with a pending KEY_A. -/
def guarding (d : Dog) (k : Option (Nat × Nat)) : Dog := { d with enabled := true, opening := true, keyA := k }

/-- The module in Run, both watchdogs running since a tick, with a pending KEY_A. -/
def watched (start : Nat) (k : Option (Nat × Nat)) : State :=
  { up with
    pwr := { up.pwr with mode := .run }
    wdg := { Wdg.reset with host := { guarding (Dog.reset 1000000) k with start := start }, fw := { guarding (Dog.reset 500000) k with start := start } } }

/-- Admission answers a list. -/
def admits {α : Type} : Except Shortage α → Bool
  | .ok _ => true
  | .error _ => false

/-- An URGENT header. -/
def urgentHdr (session : Nat) : Hdr := { hdr session with urgent := true }

/-- A stream over 320 columns on link 0. -/
def openP : StreamOpenP := { wait := 0, stream := 15, pixfmt := 1, route := 1, colStart := 0, colCount := 320 }

/-- A modification of every field. -/
def modifyP : StreamModifyP :=
  { wait := 60000, stream := 15, present := 7, pixfmt := 3, route := 3, colStart := 1272, colCount := 8 }

/-- The module with the four links configured at the highest rate. -/
def linked : State := { up with cxp := { up.cxp with cfgRate := 12 } }

/-- A stream of session 0, open and halted. -/
def someStream : Stream := { Stream.reset with opened := true, cls := 1, pixfmt := 1, route := 1, colCount := 320, admitSeq := 1 }

/-- Stream 15 open and halted. -/
def halted : State := { linked with streams := linked.streams.set 15 someStream }

/-- Stream 15 running in Run, a frame of it in transfer or not. -/
def streaming (inFrame : Bool) : State :=
  { linked with
    pwr := { linked.pwr with mode := .run }
    rd := { linked.rd with state := .running, armedBy := .streamStart, frameOpen := inFrame }
    streams := linked.streams.set 15 { someStream with running := true, inFrame := inFrame } }

/-- A configuration that changes every field. -/
def readoutP : ReadoutP :=
  { wait := 0, present := 31, gain := 2, rt := 400, int := 200, start := 992, count := 32, period := 23000 }

/-- Stream 15 halted while the readout runs. -/
def snappable : State := { streaming false with streams := linked.streams.set 15 someStream }

/-- A save in flight holds the calibration port. -/
def saving : State :=
  { up with cfl := { up.cfl with save := some { session := 1, tag := 7, block := 0, waiting := false, retried := false } } }

/-- A save at a block. -/
def savingAt (block : Nat) (waiting retried : Bool) : State :=
  { up with cfl := { up.cfl with
      save := some { session := 1, tag := 7, block := block, waiting := waiting, retried := retried } } }

/-- A calibration in a phase. -/
def someCal (phase : CalPhase) (frames : Nat) : Cal :=
  { gain := false, start := 0, origin := 0, tag := 9, sigma := 0, mean := 0, temp := 0, phase := phase, frames := frames,
    firstFrame := 0, lastFrame := 15, firstCapture := true, tiles := [], fpaCodes := [], dtEffs := [], failed := 0, tileFail := 0,
    worstTile := 0, worstSigma := 0, worstMean := 0, temporal := 0, rateMax := 0, updated := 0, excluded := 0, driftErr := 0,
    status := 0 }

/-- The module with that calibration in flight. -/
def calibrating (phase : CalPhase) (frames : Nat) : State :=
  { up with cal := { up.cal with cal := some (someCal phase frames) } }

/-- The drift bound is exceeded in AUTO mode. -/
def autoState : State := { up with cal := { up.cal with drift := { up.cal.drift with auto := true, exceeded := true } } }

/-- A bank channel's configuration inside R707. -/
def bankCfg : ActCfg :=
  { mode := 1, retrigger := 0, iPeak := 4000, iHold := 1000, band := 200, minPeak := 100, maxPeak := 5000, dipStart := 0,
    dipEnd := 0, peakDelay := 0, dutyLimit := 500, dutyWindow := 1000, defHold := 1000 }

/-- A channel in that configuration, off or in hold. -/
def bankChan (mode : Nat) (phase : ChPhase) : Chan :=
  { Chan.reset with cfg := { bankCfg with mode := mode }, phase := phase, offAt := 100000 }

/-- The first channel of bank B in peak and hold. -/
def firing (phase : ChPhase) : State :=
  { up with pwr := { up.pwr with mode := .run }, act := { up.act with chans := up.act.chans.set 4 (bankChan 1 phase) } }

/-- The first channel of bank B under its program. -/
def programmed : State :=
  { up with act := { up.act with
      chans := up.act.chans.set 4 (bankChan 2 .off), chisels := up.act.chisels.set 1 { Chisel.reset with loaded := true } } }

/-- A scheduled fire at the earliest instant. -/
def scheduleP : ScheduleP := { wait := 0, ch := 0x10, kind := 0, ref := 0, value := 2000, offset := 0, hold := 0 }

/-- The first channel of bank B replaced. -/
def withChan (c : Chan) (s : State) : State := { s with act := { s.act with chans := s.act.chans.set 4 c } }

/-- That channel with a fire that waits for the slot. -/
def waitingFire (src : FireSrc) : State :=
  withChan { bankChan 1 .off with waiting := some { src := src, hold := 1000, asked := 0, restart := false } } (firing .off)

/-- A command's fire waits. -/
def slotted : State := waitingFire (.command 0 9)

/-- A scheduled fire waits. -/
def scheduled : State := waitingFire (.schedule 3)

/-- A boost in which the dip's window is open. -/
def dipping : State :=
  withChan { bankChan 1 .boost with cfg := { bankCfg with dipStart := 10, dipEnd := 50 }, pathOn := true } (firing .boost)

/-- A fire scheduled for tick 2,000. -/
def someSchedule : Schedule :=
  { handle := 3, session := 0, ch := 4, kind := 0, ref := 0, value := 2000, offset := 0, hold := 0, fireAt := some 2000 }

/-- The module with it. -/
def armedFire : State := { firing .off with act := { (firing .off).act with schedules := [someSchedule] } }

/-- A program of bank B that waits, the encoder tracking. -/
def waitingFor (w : ChWait) : State :=
  { programmed with
    act := { programmed.act with chisels := programmed.act.chisels.set 1 { Chisel.reset with loaded := true, run := true, wait := w } }
    enc := { programmed.enc with state := 0 } }

/-- A shutter move under way by its program, or one that waits for VSHR. -/
def moving (dir : Nat) (wait : Bool) : State :=
  { up with act := { up.act with
      move := some { dir := dir, asker := .command 0 9, asked := 0 }
      vshrWait := wait
      chisels := up.act.chisels.set 2 { Chisel.reset with loaded := true, run := !wait } } }

/-- A sector of the user area is being erased for session 1. -/
def erasing : State :=
  { up with psto := { up.psto with
      erasing := 20, busy := true, job := some { session := 1, tag := 5, sector := 20, left := 1, done := 0 } } }

/-- A log entry is buffered. -/
def logged : State :=
  { up with cfl := { up.cfl with
      logBuf := [{ seq := 0, code := 1, source := 0, tb := 0, epoch := 0, data := List.replicate 8 0, crcOk := true }] } }

/-- The module in Ledge. -/
def ledge : State := { up with pwr := { up.pwr with mode := .ledge }, cfl := { up.cfl with running := 255 } }

/-- An FW_WRITE of image 1 is in flight. -/
def writing (tag : Nat) : State := { up with cfl := { up.cfl with fwWrite := some (0, 9 + tag, 1) } }

/-- An FW_VERIFY of image 1, which holds nothing, is in flight. -/
def verifyingOther (s : State) : State := { s with cfl := { s.cfl with fwVerify := some (0, 9, 1) } }

/-- Both images verified. -/
def twoImages : State := { up with cfl := { up.cfl with images := [Image.shipped, Image.shipped] } }

/-- A read of one word of the S die, in flight over the link. -/
def someAccess (tag : Nat) : RegAccess :=
  { tag := tag, hdr := some (hdr 0), first := 0x50001000, addr := 0x50001000, left := 1, got := [], write := none, late := false }

/-- Four accesses over the link. -/
def linkReads : State := { up with haul := { up.haul with pendingRegs := (List.range 4).map someAccess } }

/-- A PING of session 0 with one byte, as its packet. -/
def pingPacket : List Byte := commandPacket (hdr 0) 0 [7#8]

/-- A reply held for a poll. -/
def heldFlight : Flight := { flight .held with hdr := { hdr 0 with tag := 9, push := false } }

/-- The module with that reply held. -/
def holding : State := { up with sess := { up.sess with flights := [heldFlight] } }

/-- Link 1 has lost its lock. -/
def linkDropped : State :=
  { up with cxp := { up.cxp with links := up.cxp.links.modify 1 (fun l => { l with up := false }) } }

/-- Session 1 has telemetry. -/
def telling : State := { up with sess := { up.sess with list := up.sess.list.modify 1 (fun x => { x with telem := 7 }) } }

/-- A trigger configuration of every pad. -/
def trigP : TrigP :=
  { pads := 15, dirs := 8, source := 1, mode := 1, edge := 1, filter := 32, func0 := 4, func1 := 4, func2 := 4, func3 := 4,
    gpio := 255, gpioDir := 255, gpioOut := 255 }

/-- A quadrature encoder of 4,000 counts per revolution. -/
def encP : EncP := { mode := 2, invert := 0, clearZ := 0, cpr := 4000, preset := 3999 }

/-- That encoder in a state, with a reference and a loss that is due. -/
def turning (st : Nat) : State :=
  { up with enc := { up.enc with cfg := encP, position := 3999, zref := some 3999, state := st, lostDue := true } }

/-- A gang of two in IDLE, led by this module (1) or by the other (2). -/
def ganged (k : Nat) : State :=
  { up with
    trig := { up.trig with gangId := 0 }
    gang := { up.gang with state := 1, leader := k - 1, present := 3, agree := 3, expected := 3 } }

/-- A module that is joining. -/
def joiner (j : GangJoining) : State := { up with gang := { up.gang with joining := j } }

/-- A member of a gang in a state, slewing. -/
def member (st : Nat) : State := { ganged 2 with gang := { (ganged 2).gang with state := st, slew := some true } }

/-- A leader in RUNNING whose readout is armed. -/
def runningGang : State :=
  { ganged 1 with
    gang := { (ganged 1).gang with state := 3 }
    rd := { up.rd with state := .running, armedBy := .readoutArm } }

/-- The module waits for something with only its AON domain up. -/
def waitingOn (w : Waiting) : State :=
  { up with
    pwr := { up.pwr with mode := if w = .thermal then .off else .bringUp, vlink0 := 24000 }
    rstc := { up.rstc with waiting := w, rails := 1, coreUp := false } }

/-- An order at a step. -/
def starting (o : Order) (k : Nat) : State :=
  { up with
    pwr := { up.pwr with mode := if o = .rideReturn then .ride else .bringUp }
    rstc := { up.rstc with order := o, step := k, rails := k - 1, bootOk := false } }

/-- The module in Keep-warm. -/
def asleep : State := { up with pwr := { up.pwr with mode := .keepWarm }, rstc := { up.rstc with rails := 8, wakeArmed := true } }

/-- A walk at a step. -/
def walkingAt (k : Nat) : State := { up with pwr := { up.pwr with walk := .powerDown, walkStep := k } }

/-- Sensor 6 has a reading. -/
def warmed : State :=
  { up with thm := { up.thm with readings := List.replicate 9 (some 1600), invalid := 0 } }

/-- The module in Ride-through. -/
def riding : State :=
  { up with pwr := { up.pwr with mode := .ride, rideFrom := .idle, rideDue := 20000000 }, rstc := { up.rstc with order := .none } }

/-- Three phases in service. -/
def phasedOut (step : Nat) : State := { up with pwr := { up.pwr with healthy := 7, convStep := step } }

/-- Without power. -/
def unpowered : State := { up with pwr := { up.pwr with mode := .off } }

/-- A training of a kind. -/
def training (kind : Nat) : State :=
  { up with
    rstc := { up.rstc with order := .powerOn, step := 14, bootOk := false }
    haul := { up.haul with state := 1, training := kind, lanesUp := 0 } }

/-- The last record waits for its reload. -/
def queued : State := { up with pipe := { up.pipe with queue := [(1310719, true)] } }

/-- The same with the last block of its set bad. -/
def spoilt : State :=
  { queued with cfl := { queued.cfl with sets := queued.cfl.sets.map (fun x => { x with badBlocks := [199] }) } }

/-! ## Well-formedness: what each check refuses -/

/-- A row of the array with nothing to report. -/
def someRow : RowIn := { row := 0, vd := [], lineErrs := [], corrected := [], doubles := [], noSpace := [], tick := 0 }

/-- A message of a gang member. -/
def someMsg : GangMsg :=
  { id := 7, leader := false, tb := 0, counter := 0, state := 1, present := 1, agree := 1, hash := 0, compat := 0, delay := 0,
    reply := none }

/-- An operand that a command accepts at 1 is refused at 2^64. -/
def checked (f : Nat → Instr) : Bool := (f 1).wf && !(f (2 ^ 64)).wf

theorem test_wf_operands_first :
  [fun v => .sessionOpen (hdr 0) v, fun v => .sessionClose (hdr 0) v, fun v => .sessionPolicy (hdr 0) v 1,
   fun v => .sessionPolicy (hdr 0) 1 v, fun v => .claim (hdr 0) v, fun v => .release (hdr 0) v 1,
   fun v => .release (hdr 0) 1 v, fun v => .eventSubscribe (hdr 0) v, fun v => .cancel (hdr 0) v 1,
   fun v => .cancel (hdr 0) 1 v, fun v => .modeSet (hdr 0) v, fun v => .sysReset (hdr 0) v, fun v => .unitReset (hdr 0) v 1,
   fun v => .unitReset (hdr 0) 1 v, fun v => .hostKeepalive (hdr 0) v, fun v => .wdgConfig (hdr 0) v 1,
   fun v => .wdgConfig (hdr 0) 1 v, fun v => .streamClose (hdr 0) v, fun v => .streamStart (hdr 0) v 1,
   fun v => .streamStart (hdr 0) 1 v, fun v => .streamHalt (hdr 0) v, fun v => .readoutArm (hdr 0) v 1,
   fun v => .readoutArm (hdr 0) 1 v, fun v => .frameSnap (hdr 0) v 1, fun v => .frameSnap (hdr 0) 1 v,
   fun v => .pipeConfig (hdr 0) v 1 1, fun v => .pipeConfig (hdr 0) 1 v 1, fun v => .pipeConfig (hdr 0) 1 1 v,
   fun v => .radiometrySet (hdr 0) v 1, fun v => .radiometrySet (hdr 0) 1 v].all checked = true := by decide

theorem test_wf_operands_second :
  [fun v => .qualityConfig (hdr 0) v, fun v => .shutterCal (hdr 0) v 1 1 1, fun v => .shutterCal (hdr 0) 1 v 1 1,
   fun v => .shutterCal (hdr 0) 1 1 v 1, fun v => .shutterCal (hdr 0) 1 1 1 v, fun v => .gainCal (hdr 0) v 1 1 1,
   fun v => .gainCal (hdr 0) 1 v 1 1, fun v => .gainCal (hdr 0) 1 1 v 1, fun v => .gainCal (hdr 0) 1 1 1 v,
   fun v => .driftConfig (hdr 0) v 1, fun v => .driftConfig (hdr 0) 1 v, fun v => .shutterInhibit (hdr 0) v,
   fun v => .defectEdit (hdr 0) v [], fun v => .calsetSelect (hdr 0) v 1, fun v => .calsetSelect (hdr 0) 1 v,
   fun v => .calsetSave (hdr 0) v, fun v => .coeffRead (hdr 0) v 1, fun v => .coeffRead (hdr 0) 1 v,
   fun v => .coeffWrite (hdr 0) v 1 [], fun v => .coeffWrite (hdr 0) 1 v [], fun v => .actConfig (hdr 0) v bankCfg,
   fun v => .actProgramLoad (hdr 0) v 1 [], fun v => .actProgramLoad (hdr 0) 1 v [], fun v => .actFire (hdr 0) v 1 1 1,
   fun v => .actFire (hdr 0) 1 v 1 1, fun v => .actFire (hdr 0) 1 1 v 1, fun v => .actFire (hdr 0) 1 1 1 v,
   fun v => .actAbort (hdr 0) v 1 1, fun v => .actAbort (hdr 0) 1 v 1, fun v => .actAbort (hdr 0) 1 1 v].all checked = true := by decide

theorem test_wf_operands_third :
  [fun v => .actDiagGet (hdr 0) v, fun v => .shutterMove (hdr 0) v 1, fun v => .shutterMove (hdr 0) 1 v,
   fun v => .pstoRead (hdr 0) v 1, fun v => .pstoRead (hdr 0) 1 v, fun v => .pstoWrite (hdr 0) v [],
   fun v => .pstoErase (hdr 0) v 1, fun v => .pstoErase (hdr 0) 1 v, fun v => .pstoProtect (hdr 0) v,
   fun v => .logRead (hdr 0) v 1, fun v => .logRead (hdr 0) 1 v, fun v => .angleTableLoad (hdr 0) v [],
   fun v => .gangConfig (hdr 0) v 1, fun v => .gangConfig (hdr 0) 1 v, fun v => .thermalConfig (hdr 0) v,
   fun v => .rideConfig (hdr 0) v, fun v => .fwWrite (hdr 0) v 1 [], fun v => .fwWrite (hdr 0) 1 v [],
   fun v => .fwVerify (hdr 0) v, fun v => .fwActivate (hdr 0) v 1, fun v => .fwActivate (hdr 0) 1 v,
   fun v => .regRead (hdr 0) v 1, fun v => .regRead (hdr 0) 1 v, fun v => .regWrite (hdr 0) v 1,
   fun v => .regWrite (hdr 0) 1 v, fun v => .fuseRead (hdr 0) v 1, fun v => .fuseRead (hdr 0) 1 v, fun v => .doorbell v 1 [] 1,
   fun v => .doorbell 1 v [] 1, fun v => .doorbell 1 1 [] v].all checked = true := by decide

theorem test_wf_operands_fourth :
  [fun v => .replyPop v, fun v => .connectionConfig 1 v, fun v => .acquisitionMirrorWrite v 1,
   fun v => .acquisitionMirrorWrite 1 v, fun v => .discovery v, fun v => .triggerPacket true v,
   fun v => .unsupportedPacket v 1, fun v => .hostHeartbeat v 1 1, fun v => .hostHeartbeat 1 v 1,
   fun v => .hostHeartbeat 1 1 v, fun v => .heartbeatSend v, fun v => .cxpLinkLost v, fun v => .cxpLinkRelock v,
   fun v => .sensRegisterWrite (hdr 0) v 1, fun v => .sensRegisterWrite (hdr 0) 1 v, fun v => .sessTierWrite (hdr 0) v 1,
   fun v => .sessTierWrite (hdr 0) 1 v, fun v => .wdgHostCtrlWrite (hdr 0) v, fun v => .thmConfigWrite (hdr 0) v,
   fun v => .pwrRideTimerWrite (hdr 0) v, fun v => .sessTelemWrite (hdr 0) v 1, fun v => .sessTelemWrite (hdr 0) 1 v,
   fun v => .fuseBlowSelWrite (hdr 0) v, fun v => .fuseBlowWrite (hdr 0) v, fun v => .causeStickyClear (hdr 0) v,
   fun v => .haulHdrErrClear (hdr 0) v, fun v => .haulCrcErrClear (hdr 0) v, fun v => .pipeEccClear (hdr 0) v,
   fun v => .pstoEccClear (hdr 0) v, fun v => .cxpDiscardsClear (hdr 0) v].all checked = true := by decide

theorem test_wf_operands_fifth :
  [fun v => .trigEarlyClear (hdr 0) v, fun v => .encErrCountClear (hdr 0) v, fun v => .fwKeyWrite v 1 1,
   fun v => .fwKeyWrite 1 v 1, fun v => .fwKeyWrite 1 1 v, fun v => .benchRead v, fun v => .benchWrite v 1,
   fun v => .benchWrite 1 v, fun v => .vlink0Qualified v, fun v => .powerdownStepLimitExpiry v, fun v => .railCollapse v,
   fun v => .vlink1Rise v, fun v => .linkSupplyLost v, fun v => .rideThroughEntry v 1, fun v => .rideThroughEntry 1 v,
   fun v => .vlinkReturn v 1 1 1, fun v => .vlinkReturn 1 v 1 1, fun v => .vlinkReturn 1 1 v 1, fun v => .vlinkReturn 1 1 1 v,
   fun v => .rideRetryExpiry v 1, fun v => .rideRetryExpiry 1 v, fun v => .rideEnergyReserve v 1,
   fun v => .rideEnergyReserve 1 v, fun v => .holdupMeasurementStart v 1, fun v => .phaseFault v 1, fun v => .phaseFault 1 v,
   fun v => .thermalTrip v, fun v => .thermalSample (List.replicate 9 none) v, fun v => .thermalRaiseTimer v,
   fun v => .thermalLowerTimer v].all checked = true := by decide

theorem test_wf_operands_sixth :
  [fun v => .aonTrim v, fun v => .vshrReady v 1, fun v => .vshrReady 1 v, fun v => .frameS0 v 1 true,
   fun v => .frameS0 1 v true, fun v => .trigEdge v true 1, fun v => .trigEdge 1 true v, fun v => .haulRegResp v 1 1,
   fun v => .haulRegResp 1 v 1, fun v => .haulRegResp 1 1 v, fun v => .laneBlockLockLoss v, fun v => .haulTrainingEnd [{ lane := v, lock := true, train := 0, rows := 240, headerErrors := 0, crcErrors := 0 }] 1,
   fun v => .actEventReport v 1 1, fun v => .actEventReport 1 v 1, fun v => .actEventReport 1 1 v, fun v => .calSettleExpiry v,
   fun v => .autoShutterCal v, fun v => .deferredWaitExpiry v 1, fun v => .deferredWaitExpiry 1 v,
   fun v => .actSlotGrant v 100 1, fun v => .actSlotGrant 1 100 v, fun v => .actPeakDelayExpiry v,
   fun v => .actPeakReached v 1 1, fun v => .actPeakReached 1 1 v, fun v => .actMaxTimeToPeak v 1 1,
   fun v => .actMaxTimeToPeak 1 1 v, fun v => .actHoldEntered v 1, fun v => .actHoldEntered 1 v, fun v => .actDecayTimeout v 1,
   fun v => .actDecayTimeout 1 v].all checked = true := by decide

theorem test_wf_operands_seventh :
  [fun v => .actHoldBandCrossing v true 1, fun v => .actHoldBandCrossing 1 true v, fun v => .actSwitchOffTime v 1,
   fun v => .actSwitchOffTime 1 v, fun v => .actTurnOffEnd v 1, fun v => .actTurnOffEnd 1 v, fun v => .actMotionDip v 1 1,
   fun v => .actMotionDip 1 1 v, fun v => .actDutyLimitReached v 1 1, fun v => .actDutyLimitReached 1 1 v,
   fun v => .actSenseFail v 1, fun v => .actSenseFail 1 v, fun v => .actShort v 1, fun v => .actShort 1 v,
   fun v => .actHsSenseFail v 1, fun v => .actHsSenseFail 1 v, fun v => .actBankOvercurrent v 1,
   fun v => .actBankOvercurrent 1 v, fun v => .actSupplyLow v 1 1, fun v => .actSupplyLow 1 1 v,
   fun v => .scheduledFireInstant v 1, fun v => .scheduledFireInstant 1 v, fun v => .chiselWaitEnd v 1,
   fun v => .chiselWaitEnd 1 v, fun v => .chiselWaitfEnd v 1, fun v => .chiselWaitfEnd 1 v, fun v => .chiselWaitaEnd v 1,
   fun v => .chiselWaitaEnd 1 v, fun v => .chiselWaitiEnd v 1, fun v => .chiselWaitiEnd 1 v].all checked = true := by decide

theorem test_wf_operands_eighth :
  [fun v => .chiselWaitiTimeout v 1, fun v => .chiselWaitiTimeout 1 v, fun v => .chiselInstructionLimit v 1,
   fun v => .chiselInstructionLimit 1 v, fun v => .shutterProgramTimeout v, fun v => .encLegalTransition true v,
   fun v => .encIllegalTransition v, fun v => .encIndex v, fun v => .gangCycle v, fun v => .gangSyncReceived 1 v,
   fun v => .gangStartPulse v, fun v => .gangAckMissing v, fun v => .wdgExpiry true v, fun v => .backgroundStoreRetry v,
   fun v => .ringSectorErase v, fun v => .telemetryPeriod v, fun v => .gangAckReceived v 1, fun v => .gangFreeRunStart v,
   fun v => .inFlightEnd v 1, fun v => .inFlightEnd 1 v, fun v => .wdgFwCtrlWrite v 1 1, fun v => .wdgFwCtrlWrite 1 v 1,
   fun v => .wdgFwCtrlWrite 1 1 v].all checked = true := by decide

theorem test_wf_streams_and_readout :
  [fun v => .streamOpen (hdr 0) { openP with wait := v }, fun v => .streamOpen (hdr 0) { openP with stream := v },
   fun v => .streamOpen (hdr 0) { openP with pixfmt := v }, fun v => .streamOpen (hdr 0) { openP with route := v },
   fun v => .streamOpen (hdr 0) { openP with colStart := v }, fun v => .streamOpen (hdr 0) { openP with colCount := v },
   fun v => .streamModify (hdr 0) { modifyP with wait := v }, fun v => .streamModify (hdr 0) { modifyP with stream := v },
   fun v => .streamModify (hdr 0) { modifyP with present := v }, fun v => .streamModify (hdr 0) { modifyP with pixfmt := v },
   fun v => .streamModify (hdr 0) { modifyP with route := v }, fun v => .streamModify (hdr 0) { modifyP with colStart := v },
   fun v => .streamModify (hdr 0) { modifyP with colCount := v }, fun v => .readoutConfig (hdr 0) { readoutP with wait := v },
   fun v => .readoutConfig (hdr 0) { readoutP with present := v }, fun v => .readoutConfig (hdr 0) { readoutP with gain := v },
   fun v => .readoutConfig (hdr 0) { readoutP with rt := v }, fun v => .readoutConfig (hdr 0) { readoutP with int := v },
   fun v => .readoutConfig (hdr 0) { readoutP with start := v }, fun v => .readoutConfig (hdr 0) { readoutP with count := v },
   fun v => .readoutConfig (hdr 0) { readoutP with period := v }].all checked = true := by decide

theorem test_wf_actuators :
  [fun v => .actConfig (hdr 0) 0 { bankCfg with mode := v }, fun v => .actConfig (hdr 0) 0 { bankCfg with retrigger := v },
   fun v => .actConfig (hdr 0) 0 { bankCfg with iPeak := v }, fun v => .actConfig (hdr 0) 0 { bankCfg with iHold := v },
   fun v => .actConfig (hdr 0) 0 { bankCfg with band := v }, fun v => .actConfig (hdr 0) 0 { bankCfg with minPeak := v },
   fun v => .actConfig (hdr 0) 0 { bankCfg with maxPeak := v }, fun v => .actConfig (hdr 0) 0 { bankCfg with dipStart := v },
   fun v => .actConfig (hdr 0) 0 { bankCfg with dipEnd := v }, fun v => .actConfig (hdr 0) 0 { bankCfg with peakDelay := v },
   fun v => .actConfig (hdr 0) 0 { bankCfg with dutyLimit := v },
   fun v => .actConfig (hdr 0) 0 { bankCfg with dutyWindow := v }, fun v => .actConfig (hdr 0) 0 { bankCfg with defHold := v },
   fun v => .actSchedule (hdr 0) { scheduleP with wait := v }, fun v => .actSchedule (hdr 0) { scheduleP with ch := v },
   fun v => .actSchedule (hdr 0) { scheduleP with kind := v }, fun v => .actSchedule (hdr 0) { scheduleP with ref := v },
   fun v => .actSchedule (hdr 0) { scheduleP with value := v }, fun v => .actSchedule (hdr 0) { scheduleP with offset := v },
   fun v => .actSchedule (hdr 0) { scheduleP with hold := v }].all checked = true := by decide

theorem test_wf_triggers :
  [fun v => .trigConfig (hdr 0) { trigP with pads := v }, fun v => .trigConfig (hdr 0) { trigP with dirs := v },
   fun v => .trigConfig (hdr 0) { trigP with source := v }, fun v => .trigConfig (hdr 0) { trigP with mode := v },
   fun v => .trigConfig (hdr 0) { trigP with edge := v }, fun v => .trigConfig (hdr 0) { trigP with filter := v },
   fun v => .trigConfig (hdr 0) { trigP with func0 := v }, fun v => .trigConfig (hdr 0) { trigP with func1 := v },
   fun v => .trigConfig (hdr 0) { trigP with func2 := v }, fun v => .trigConfig (hdr 0) { trigP with func3 := v },
   fun v => .trigConfig (hdr 0) { trigP with gpio := v }, fun v => .trigConfig (hdr 0) { trigP with gpioDir := v },
   fun v => .trigConfig (hdr 0) { trigP with gpioOut := v }, fun v => .encConfig (hdr 0) { encP with mode := v },
   fun v => .encConfig (hdr 0) { encP with invert := v }, fun v => .encConfig (hdr 0) { encP with clearZ := v },
   fun v => .encConfig (hdr 0) { encP with cpr := v }, fun v => .encConfig (hdr 0) { encP with preset := v }].all checked = true := by decide

theorem test_wf_records :
  [fun v => .statusGet { hdr 0 with session := v }, fun v => .statusGet { hdr 0 with tag := v },
   fun v => .statusGet { hdr 0 with cls := v }, fun v => .statusGet { hdr 0 with tick := v },
   fun v => .defectEdit (hdr 0) 0 [{ index := v, zero := 0, set := 0, clear := 0 }],
   fun v => .defectEdit (hdr 0) 0 [{ index := 0, zero := v, set := 0, clear := 0 }],
   fun v => .defectEdit (hdr 0) 0 [{ index := 0, zero := 0, set := v, clear := 0 }],
   fun v => .defectEdit (hdr 0) 0 [{ index := 0, zero := 0, set := 0, clear := v }],
   fun v => .angleTableLoad (hdr 0) 0 [{ position := v, action := 0, handle := 0 }],
   fun v => .angleTableLoad (hdr 0) 0 [{ position := 0, action := v, handle := 0 }],
   fun v => .angleTableLoad (hdr 0) 0 [{ position := 0, action := 0, handle := v }],
   fun v => .haulRowReceived { someRow with row := v }, fun v => .haulRowReceived { someRow with lineErrs := [(v, 0, 1)] },
   fun v => .haulRowReceived { someRow with corrected := [v] }, fun v => .haulRowReceived { someRow with noSpace := [v] },
   fun v => .gangMessage { someMsg with id := v }, fun v => .gangJoinRequest { id := v, compat := 0, tb := 0, delay := 0 },
   fun v => .releaseStepComplete { phases := v, straps := 0, temps := [], lost := [] },
   fun v => .releaseStepComplete { phases := 0, straps := v, temps := [], lost := [] }, fun v => .adcCalEnd (some v),
   fun v => .calsetRecallDone [v], fun v => .crcWalk [v], fun v => .actProgramLoad (hdr 0) 0 0 [v]].all checked = true := by decide

theorem test_wf_lengths :
    [ (Instr.ping (hdr 0) (List.replicate 245 0)), .pstoWrite (hdr 0) 0 (List.replicate 1017 0), .fwWrite (hdr 0) 0 0 (List.replicate 1017 0),
      .defectEdit (hdr 0) 0 (List.replicate 256 { index := 0, zero := 0, set := 0, clear := 0 }),
      .coeffWrite (hdr 0) 0 0 (List.replicate 102 0), .thermalSample (List.replicate 8 none) 0,
      .seedingEnd (List.replicate 35 0) (List.replicate 36 0), .seedingEnd (List.replicate 36 0) (List.replicate 37 0),
      .connectionConfig 0 5, .thermalTrip 0, .thermalTrip 9, .actEventReport 9 0 0, .gangAckMissing 8, .discovery 4, .haulTrainingEnd [{ lane := 4, lock := true, train := 0, rows := 240, headerErrors := 0, crcErrors := 0 }] 0,
      .trigEdge 4 true 0, .actSupplyLow 2 0 0, .ringSectorErase 4 ].all (fun c => !c.wf) = true := by decide

/-! ## Worked cases of the spec -/

/-- Chapter 00, cases 1 and 4: a little-endian code, and byte 2 of a command. -/
theorem test_formats :
    ofLe [0x40#8, 0x7A#8] = 31296 ∧ hdrOf [0xC5#8, 0x02#8, 0x93#8] 0 =
      { session := 3, tag := 0, cls := 1, urgent := false, push := true, tick := 0, res := none } := by decide

/-- Chapter 01, cases 4 and 5: bytes of a CORR16 and a QUAL4 frame with the trailer. -/
theorem test_frame_bytes :
    ({ someStream with pixfmt := 1, colCount := 1280 } : Stream).frameBytes 1024 = 2621952
      ∧ ({ someStream with pixfmt := 3, colCount := 1280 } : Stream).frameBytes 1024 = 655872 := by decide

/-- Chapter 04, case 1: energy in µJ and Ride-through time in ms at 3,788 µF and 23.6 V. -/
theorem test_ride_time :
    ({ up.pwr with cmeas := 3788, vhold := 23600 } : Pwr).energy / 100 = 7821
      ∧ ({ up.pwr with cmeas := 3788, vhold := 23600 } : Pwr).rideTime = 1104 := by decide

/-- Chapter 05, cases 1 and 3: updates of the correction, and S_0 in resynchronise mode. -/
theorem test_time :
    ({ up.tb with corr := 340, firstComp := false } : Tbase).compensate true 362 =
        { up.tb with corr := 345, target := 362, firstComp := false, compHold := false }
      ∧ (({ up.tb with corr := 360, firstComp := false } : Tbase).compensate true 362).corr = 362
      ∧ ({ up with trig := { up.trig with cfg := { up.trig.cfg with mode := 1 } } } : State).placeStart 5000000000 = 5000000040 := by
  decide

/-- Chapters 06 case 1 and 13 case 6: the minimum period, and C. -/
theorem test_periods :
    ({ up.rd.cfg with count := 128, rt := 200 } : RdCfg).minPeriod = 30600
      ∧ ({ up.rd with count := 256, rt := 200, int := 1200 } : Rd).clearTime = 57240 := by decide

/-- The record of chapter 08's case: OFFSET, GAIN, DRIFT, LAG and STATE. -/
def caseRec : Rec := BitVec.ofNat 80 (0x0A2D + 0x4321 * 2 ^ 16 + 0xFA6 * 2 ^ 32 + 145 * 2 ^ 44 + 0x80A00 * 2 ^ 56)

/-- Chapter 08, cases 2 to 5, 7 and 8: one pixel through the stages. -/
theorem test_pixel_case :
    meanQ2 (99366, 16) = 24842 ∧ stageOffset false 4096 caseRec 3298 = 693 ∧ stageGain false 4096 caseRec 693 = 727
      ∧ stageDrift false 192 6 caseRec 727 = 725 ∧ stageLag false 2934 caseRec 725 = 786
      ∧ recField (lagWrite false 725 caseRec) 56 20 = 0x80B54 ∧ corr16 786 = 0x80C5 := by decide

/-- Chapter 13, case 8: an index while LOST. -/
theorem test_index_case :
    (Enc.index { up.enc with cfg := { encP with cpr := 8192 }, state := 1, position := 809, zref := some 812 }).position = 812
      ∧ (Enc.index { up.enc with cfg := { encP with cpr := 8192 }, state := 1, position := 809, zref := some 812 }).correction = 3 := by
  decide

/-- Chapter 15, cases 2 and 3: a period from its start to its edges. -/
theorem test_window_case :
    (let d : Dog := { Dog.reset 200000 with start := 1001004000, t := 20000000, opening := false }
     [d.windowOpen up.fuse.windowK 1011003999, d.windowOpen up.fuse.windowK 1011004000, d.windowOpen up.fuse.windowK 1021003999,
       d.windowOpen up.fuse.windowK 1021004000]) = [false, true, true, false] := by decide

/-- The check value of the CRC-32 that R537 names, of the nine digits. -/
theorem test_crc32 : crc32 [0x31#8, 0x32#8, 0x33#8, 0x34#8, 0x35#8, 0x36#8, 0x37#8, 0x38#8, 0x39#8] = 0xCBF43926#32 := by decide

/-- No row of the table has bits. -/
theorem test_no_word : decodeTableWord 32 0 = none := rfl

set_option maxRecDepth 200000 in
/-- The journal as shipped is one clean entry; a slot cut before its last group, or with a double-bit error in it, holds no
entry (R860, R863). -/
theorem test_journal_slots :
    Psto.reset.journal = [.cleanOff 1] ∧ Psto.reset.active = some 0
      ∧ (match journalShipped with
         | [_, e] => decide (Slot.entry (e.take 1) = none) && decide (Slot.entry (e.modify 1 (fun g => { g with ue := true })) = none)
         | _ => false) = true := by decide

/-- The power domains of R31 (R31). -/
theorem test_domains : Domain.all.length = 138 := by decide

/-! ## The statements' hypotheses are met -/

theorem wit_system_queries_complete :
  runs (hdr 0) 0x00 (fun _ => Gate.plain 3) up = true ∧ runs (hdr 0) 0x06 (fun _ => Gate.plain 3) up = true
    ∧ runs (hdr 0) 0x0D (fun _ => Gate.plain 3) up = true ∧ runs (hdr 0) 0x07 (subscribeGate 0x7FFFFE) up = true := by decide

theorem wit_session_commands_complete :
  (runs (hdr 3) 0x01 (sessionOpenGate (hdr 3)) up = true ∧ ((acting (hdr 3) 0x01 up).sess.get 3).enabled = true)
    ∧ runs (hdr 0) 0x02 (sessionCloseGate (hdr 0) 0) up = true ∧ runs (hdr 0) 0x02 (sessionCloseGate (hdr 0) 1) up = true
    ∧ runs (hdr 0) 0x03 (policyGate 0xFFFFAAA8 0xFFFF) up = true ∧ runs (hdr 0) 0x04 (claimGate (hdr 0) 0x18) up = true
    ∧ runs (hdr 0) 0x05 (releaseGate (hdr 0) 0x10 1) up = true := by decide

theorem wit_fetch_and_cancel_complete :
  (runs (hdr 0) 0x08 (fun _ => Gate.plain 3) up = true ∧ (acting (hdr 0) 0x08 up).sess.heldReplies 0 = [])
    ∧ (runs (hdr 0) 0x08 (fun _ => Gate.plain 3) (flying .held) = true
      ∧ (acting (hdr 0) 0x08 (flying .held)).sess.heldReplies 0 = [flight .held] ∧ (flight .held).reply.isSome = true)
    ∧ (runs (hdr 0) 0x09 (cancelGate (hdr 0) 15) up = true ∧ (acting (hdr 0) 0x09 up).sess.named 15 255 = none)
    ∧ (runs (hdr 0) 0x09 (cancelGate (hdr 0) 0) (flying .queued) = true
      ∧ (acting (hdr 0) 0x09 (flying .queued)).sess.named 0 9 = some (flight .queued))
    ∧ (runs (hdr 0) 0x09 (cancelGate (hdr 0) 0) (flying (.deferred 5 1000 0)) = true
      ∧ (acting (hdr 0) 0x09 (flying (.deferred 5 1000 0))).sess.named 0 9 = some (flight (.deferred 5 1000 0)))
    ∧ (runs (hdr 0) 0x09 (cancelGate (hdr 0) 0) (verifying (flying .running)) = true
      ∧ (acting (hdr 0) 0x09 (verifying (flying .running))).sess.named 0 9 = some (flight .running)
      ∧ (acting (hdr 0) 0x09 (verifying (flying .running))).longCancellable 0 9 (flight .running).opcode = true) := by decide

theorem wit_fetch_and_cancel_complete_2 :
  (runs (hdr 0) 0x09 (cancelGate (hdr 0) 0) (flying .running) = true
      ∧ (acting (hdr 0) 0x09 (flying .running)).sess.named 0 9 = some (flight .running)
      ∧ (acting (hdr 0) 0x09 (flying .running)).longCancellable 0 9 (flight .running).opcode = false)
    ∧ (runs (hdr 0) 0x09 (cancelGate (hdr 0) 0) (flying (.waiting .reg)) = true
      ∧ (acting (hdr 0) 0x09 (flying (.waiting .reg))).sess.named 0 9 = some (flight (.waiting .reg))) := by decide

theorem wit_mode_and_reset_commands_complete :
  runs (hdr 0) 0x0A (modeSetGate 3) up = true ∧ runs (hdr 0) 0x0B (sysResetGate 1) up = true
    ∧ runs (hdr 0) 0x0B (sysResetGate 2) up = true ∧ runs (hdr 0) 0x0B (sysResetGate 3) up = true
    ∧ runs (hdr 0) 0x0C (unitGate 0x20 1) up = true ∧ runs (hdr 0) 0x0C (unitGate 0x23 1) up = true
    ∧ runs (hdr 0) 0x0C (unitGate 0x1F 1) up = true ∧ runs (hdr 0) 0x0C (unitGate 0x31 0) up = true
    ∧ runs (hdr 0) 0x0C (unitGate 1 0) up = true := by decide

theorem wit_watchdog_commands_complete :
  (runsNow (hdr 0) 0x0E (keepaliveGate keyA) (watched 0 none) = true ∧ (acting (hdr 0) 0x0E (watched 0 none)).hostRuns = true)
    ∧ (runsNow (hdr 0) 0x0E (keepaliveGate keyB) (watched 0 (some (0, 0))) = true
      ∧ (acting (hdr 0) 0x0E (watched 0 (some (0, 0)))).hostRuns = true
      ∧ (acting (hdr 0) 0x0E (watched 0 (some (0, 0)))).wdg.host.paired 0 0 = true
      ∧ 0 < (watched 0 (some (0, 0))).wdg.host.start + (watched 0 (some (0, 0))).wdg.host.t
      ∧ (acting (hdr 0) 0x0E (watched 0 (some (0, 0)))).wdg.host.windowOpen (watched 0 none).fuse.windowK 0 = true)
    ∧ (runsNow (hdr 0) 0x0E (keepaliveGate keyA) up = true ∧ (acting (hdr 0) 0x0E up).hostRuns = false)
    ∧ (runsNow (hdr 0) 0x0E (keepaliveGate keyB) up = true ∧ (acting (hdr 0) 0x0E up).hostRuns = false)
    ∧ runs (hdr 0) 0x0F (wdgGate 0 8000000 1) up = true ∧ runs (hdr 0) 0x0F (wdgGate 0 1000 0) up = true
    ∧ ((watched 0 none).jtag.tainted = false ∧ ((watched 0 none).atTick 5).fwRuns = true)
    ∧ ((watched 0 (some (0, 0))).wdg.fw.paired 0 10000 = true ∧ 10000 < (watched 0 none).wdg.fw.start + (watched 0 none).wdg.fw.t
      ∧ (watched 0 none).wdg.fw.windowOpen (watched 0 none).fuse.windowK 10000 = true) := by decide

theorem wit_watchdog_events_complete :
  (watched 0 none).jtag.tainted = false ∧ (watched 0 none).dogRuns true = true ∧ (watched 0 none).dogRuns false = true
    ∧ (watched 0 none).wdg.host.warned = false ∧ (watched 0 none).wdg.fw.warned = false
    ∧ (watched 0 none).rstc.bootOk = true ∧ (watched 0 none).coreServes = true := by decide

theorem wit_stream_commands_complete :
  (runs (hdr 0) 0x10 (openGate openP) linked = true ∧ linked.countShort 0 = none)
    ∧ (runs (hdr 0) 0x10 (openGate { openP with stream := 0xFF }) linked = true)
    ∧ (runs (hdr 0) 0x11 (streamGate (hdr 0) 0 15) (streaming false) = true
      ∧ ((acting (hdr 0) 0x11 (streaming false)).stream 15).inFrame = false)
    ∧ (runs (hdr 0) 0x11 (streamGate (hdr 0) 0 15) (streaming true) = true
      ∧ ((acting (hdr 0) 0x11 (streaming true)).stream 15).inFrame = true)
    ∧ (runs (urgentHdr 0) 0x13 (haltGate (urgentHdr 0) 0xFF) (streaming true) = true ∧ (urgentHdr 0).urgent = true)
    ∧ (runs (hdr 0) 0x13 (haltGate (hdr 0) 15) (streaming false) = true
      ∧ (((acting (hdr 0) 0x13 (streaming false)).haltTargets (hdr 0) 15).filter
          (fun n => ((acting (hdr 0) 0x13 (streaming false)).stream n).inFrame)) = [])
    ∧ (runs (hdr 0) 0x13 (haltGate (hdr 0) 15) (streaming true) = true
      ∧ (((acting (hdr 0) 0x13 (streaming true)).haltTargets (hdr 0) 15).filter
          (fun n => ((acting (hdr 0) 0x13 (streaming true)).stream n).inFrame)).getLast? = some 15)
    ∧ runs (hdr 0) 0x1A (qualityGate 15) up = true := by decide

theorem wit_stream_commands_complete_2 :
  admits (admitStream (acting (hdr 0) 0x10 linked).cxp
      ((acting (hdr 0) 0x10 linked).counted linked.streams linked.rd.count linked.rd.cfgPeriod
        ++ (acting (hdr 0) 0x10 linked).counted [openedStream (hdr 0) ((acting (hdr 0) 0x10 linked).sess.effClass (hdr 0))
          ((acting (hdr 0) 0x10 linked).lastAdmit + 1) openP] linked.rd.count linked.rd.cfgPeriod)
      16 ((acting (hdr 0) 0x10 linked).sess.effClass (hdr 0))) = true := by decide

theorem wit_stream_commands_complete_3 :
  runs (hdr 0) 0x12 (startGate (hdr 0) 60000 15) halted = true ∧ (acting (hdr 0) 0x12 halted).startShort = none
    ∧ runs (hdr 0) 0x14 (modifyGate (hdr 0) modifyP) halted = true := by decide

theorem wit_stream_commands_complete_4 :
  admits (admitStream (acting (hdr 0) 0x12 halted).cxp ((acting (hdr 0) 0x12 halted).counted halted.streams halted.rd.count
      halted.rd.cfgPeriod) 15 ((acting (hdr 0) 0x12 halted).stream 15).cls) = true ∧
  admits (admitStream (acting (hdr 0) 0x14 halted).cxp ((acting (hdr 0) 0x14 halted).counted
      (halted.streams.modify 15 (Stream.modified modifyP)) halted.rd.count halted.rd.cfgPeriod) 15
      ((acting (hdr 0) 0x14 halted).stream 15).cls) = true := by decide

theorem wit_readout_commands_complete :
  (runs (hdr 0) 0x15 (configGate (hdr 0) readoutP) up = true
      ∧ admits ((acting (hdr 0) 0x15 up).admitConfig (configTarget readoutP (acting (hdr 0) 0x15 up).rd.cfg)) = true)
    ∧ runs (hdr 0) 0x16 (armGate (hdr 0) 0xFFFF 0) (streaming true) = true
    ∧ (runs (hdr 0) 0x16 (armGate (hdr 0) 60000 1) up = true ∧ (acting (hdr 0) 0x16 up).startShort = none
      ∧ (acting (hdr 0) 0x16 up).rd.isArmed = false)
    ∧ (runs (hdr 0) 0x16 (armGate (hdr 0) 0 1) (streaming true) = true
      ∧ (acting (hdr 0) 0x16 (streaming true)).startShort = none ∧ (acting (hdr 0) 0x16 (streaming true)).rd.isArmed = true)
    ∧ runs (hdr 0) 0x17 (snapGate (hdr 0) 15 65535) snappable = true
    ∧ (runs (hdr 0) 0x18 (pipeGate (hdr 0) 0 0x100 31) up = true ∧ (acting (hdr 0) 0x18 up).pwr.convStep = 0)
    ∧ runs (hdr 0) 0x19 (radiometryGate (hdr 0) 100) up = true ∧ runs (hdr 0) 0x19 (radiometryGate (hdr 0) 1000) up = true := by decide

theorem wit_readout_commands_complete_2 : (acting (hdr 0) 0x17 snappable).convShort 2 = none := by decide

theorem wit_calibration_commands_complete :
  runs (hdr 0) 0x20 (adcCalGate (hdr 0)) up = true
    ∧ (runs (hdr 0) 0x21 (calGate (hdr 0) 3 60000) up = true ∧ (acting (hdr 0) 0x21 up).blockedOn [resShutter, resPort] 2 [] = none)
    ∧ (runs (hdr 0) 0x22 (calGate (hdr 0) 2 0) up = true ∧ (acting (hdr 0) 0x22 up).blockedOn [resShutter, resPort] 2 [] = none)
    ∧ runs (hdr 0) 0x23 (driftGate (hdr 0) 20 1) up = true ∧ runs (hdr 0) 0x24 (inhibitGate (hdr 0) 120000) up = true
    ∧ (runs (hdr 0) 0x25 (defectGate (hdr 0) 0 [{ index := 1310719, zero := 0, set := 2, clear := 4 }]) up = true
      ∧ (acting (hdr 0) 0x25 up).blockedOn [resPort] 2 [] = none)
    ∧ runs (hdr 0) 0x26 (selectGate (hdr 0) 0 2) up = true ∧ runs (hdr 0) 0x27 (saveGate (hdr 0) 0) up = true
    ∧ runs (hdr 0) 0x28 (coeffReadGate 1310696 24) up = true
    ∧ runs (hdr 0) 0x29 (coeffWriteGate (hdr 0) 0 1310719 [5]) up = true
    ∧ (runs (hdr 0) 0x27 (saveGate (hdr 0) 60000) saving = true ∧ (acting (hdr 0) 0x27 saving).blockedOn [resPort] 2 [] = some resPort) := by decide

theorem wit_calibration_commands_complete_2 :
  (acting (hdr 0) 0x21 up).convShort 2 = none ∧ (acting (hdr 0) 0x22 up).convShort 2 = none
    ∧ (runs (hdr 0) 0x21 (calGate (hdr 0) 3 60000) saving = true ∧ (acting (hdr 0) 0x21 saving).convShort 2 = none
      ∧ (acting (hdr 0) 0x21 saving).blockedOn [resShutter, resPort] 2 [] = some resPort)
    ∧ (runs (hdr 0) 0x22 (calGate (hdr 0) 2 1) saving = true ∧ (acting (hdr 0) 0x22 saving).convShort 2 = none
      ∧ (acting (hdr 0) 0x22 saving).blockedOn [resShutter, resPort] 2 [] = some resPort) := by decide

theorem wit_calibration_commands_complete_3 :
  (acting (hdr 0) 0x26 up).blockedOn [resPort] 2 [] = none ∧ (acting (hdr 0) 0x27 up).blockedOn [resPort] 2 [] = none
    ∧ (acting (hdr 0) 0x29 up).blockedOn [resPort] 2 [] = none
    ∧ (runs (hdr 0) 0x25 (defectGate (hdr 0) 1 [{ index := 0, zero := 0, set := 2, clear := 4 }]) saving = true
      ∧ (acting (hdr 0) 0x25 saving).blockedOn [resPort] 2 [] = some resPort)
    ∧ (runs (hdr 0) 0x26 (selectGate (hdr 0) 60000 2) (flying (.deferred 5 1000 0)) = true
      ∧ (acting (hdr 0) 0x26 (flying (.deferred 5 1000 0))).blockedOn [resPort] 2
          (acting (hdr 0) 0x26 (flying (.deferred 5 1000 0))).sess.deferred = some resPort)
    ∧ (runs (hdr 0) 0x29 (coeffWriteGate (hdr 0) 1 1310719 [5]) saving = true
      ∧ (acting (hdr 0) 0x29 saving).blockedOn [resPort] 2 [] = some resPort) := by decide

theorem wit_calibration_events_complete :
  (up.jtag.tainted = false ∧ ({ up with rd := { up.rd with state := .adcCal } } : State).rd.state = .adcCal
      ∧ ({ up with rd := { up.rd with state := .seeding } } : State).rd.state = .seeding)
    ∧ (coreActs (calibrating .capture 16) = true ∧ (calibrating .capture 16).cal.cal = some (someCal .capture 16)
      ∧ (someCal .capture 16).inCapture = true ∧ (someCal .capture 16).frames = 16 ∧ (calibrating .capture 16).rd.frameOpen = false)
    ∧ (coreActs (calibrating .gOpenCapture 3) = true ∧ (someCal .gOpenCapture 3).inCapture = true)
    ∧ (coreActs (calibrating .offsetUpdate 16) = true ∧ (someCal .offsetUpdate 16).phase = .offsetUpdate)
    ∧ (coreActs (calibrating .gUpdate 16) = true ∧ (someCal .gUpdate 16).phase = .gUpdate)
    ∧ (coreActs autoState = true ∧ (autoState.atTick 0).autoDue = true) := by decide

theorem wit_calibration_events_complete_2 :
  (let s : State := { up with rd := { up.rd with state := .seeding } }
   s.seedsNew = true ∧ ({ s with rstc := { s.rstc with order := .wakeKeepWarm } } : State).seedsNew = false) := by decide

theorem wit_set_recall_and_save_complete :
  (coreActs { up with cfl := { up.cfl with recalling := some (0, 9, 3) } } = true)
    ∧ (coreActs saving = true ∧ saving.cfl.saveCancel = false ∧ saving.cfl.save.map (·.block) = some 0
      ∧ saving.cfl.save.map (·.waiting) = some false ∧ saving.cfl.save.map (·.retried) = some false)
    ∧ (coreActs (savingAt 199 false true) = true ∧ (savingAt 199 false true).cfl.save.map (·.retried) = some true
      ∧ (savingAt 199 false true).pwr.covers needFlash = true)
    ∧ (savingAt 198 true false).cfl.save.map (·.waiting) = some true
    ∧ ({ saving with cfl := { saving.cfl with saveCancel := true } } : State).cfl.saveCancel = true
    ∧ (coreActs (flying (.deferred 5 1000 0)) = true
      ∧ ((flying (.deferred 5 1000 0)).sess.deferred.find? (fun f => f.hdr.session = 0 && f.hdr.tag = 9)).isSome = true) := by decide

theorem wit_actuator_commands_complete :
  runs (hdr 0) 0x30 (actConfigGate (hdr 0) 0x13 bankCfg) up = true
    ∧ runs (hdr 0) 0x31 (programGate (hdr 0) 2 511 [7]) up = true
    ∧ (runs (hdr 0) 0x32 (fireGate (hdr 0) 0x10 0 0) (firing .off) = true
      ∧ ((acting (hdr 0) 0x32 (firing .off)).chan (chanOf 0x10)).extends = false)
    ∧ (runs (hdr 0) 0x32 (fireGate (hdr 0) 0x10 0 0) (firing .hold) = true
      ∧ ((acting (hdr 0) 0x32 (firing .hold)).chan (chanOf 0x10)).extends = true)
    ∧ runs (hdr 0) 0x32 (fireGate (hdr 0) 0x10 1 511) programmed = true
    ∧ (runs (hdr 0) 0x33 (scheduleGate (hdr 0) scheduleP) (firing .off) = true
      ∧ (acting (hdr 0) 0x33 (firing .off)).act.freeHandle = some 0)
    ∧ runs (hdr 0) 0x34 (abortGate 15 15 3) up = true ∧ runs (hdr 0) 0x35 (diagGate 0x20) up = true
    ∧ (runs (hdr 0) 0x36 (moveGate (hdr 0) 60000 1) up = true ∧ (acting (hdr 0) 0x36 up).blockedOn [resShutter] 2 [] = none) := by decide

theorem wit_channel_phase_events_complete :
  (slotted.jtag.tainted = false ∧ ((slotted.atTick 7).chan 4).waiting.isSome = true ∧ (slotted.atTick 7).mayGrant 4 = true
      ∧ (slotted.chan 4).waiting.map (·.src) = some (.command 0 9))
    ∧ (scheduled.chan 4).waiting.map (·.src) = some (.schedule 3)
    ∧ ((firing .boost).chan 4).phase = .boost ∧ 9000 ≤ (firing .boost).supplyOf 4 ∧ ((firing .boost).chan 4).profileRuns = true
    ∧ ((firing .boost).chan 4).chisel = false ∧ ((firing .boost).chan 4).offAt ≤ 100000
    ∧ ((firing .decay).chan 4).phase = .decay
    ∧ ((dipping.chan 4).phase = .boost ∧ (dipping.chan 4).pathOn = true
      ∧ (dipping.chan 4).onAt + usTicks (dipping.chan 4).cfg.dipStart ≤ 5000
      ∧ 5000 ≤ (dipping.chan 4).onAt + usTicks (dipping.chan 4).cfg.dipEnd)
    ∧ ((firing .turnOff).chan 4).phase ≠ .off := by decide

theorem wit_actuator_faults_complete :
  up.jtag.tainted = false ∧ 8999 < 9000 ∧ 9000 ≤ 9000 := by decide

theorem wit_sequencers_and_shutter_complete :
  (armedFire.jtag.tainted = false ∧ ((armedFire.atTick 2000).scheduleDue 3 2000).isSome = true)
    ∧ ((waitingFor (.untilTick 9)).act.chisel 1).wait = .untilTick 9 ∧ ((waitingFor (.untilTick 9)).act.chisel 1).run = true
    ∧ ((waitingFor (.strobes 0)).act.chisel 1).wait = .strobes 0
    ∧ (((waitingFor (.angle 63)).act.chisel 1).wait = .angle 63 ∧ (waitingFor (.angle 63)).enc.state = 0)
    ∧ ((waitingFor (.current 4 true 100 5)).act.chisel 1).wait = .current 4 true 100 5
    ∧ ((waitingFor .none).act.chisel 1).wait = .none
    ∧ ((moving 1 false).act.chisel 2).run = true ∧ (((moving 1 false).atTick 9).onAct (Act.endProgram 2)).act.moving = true
    ∧ (moving 1 true).act.vshrWait = true ∧ (moving 1 true).moveTimed = true ∧ (moving 1 true).act.move.isSome = true
    ∧ (moving 1 true).pwr.mode ≠ .ride := by decide

theorem wit_storage_commands_complete :
  runs (hdr 0) 0x40 (pstoReadGate 106256 240) up = true
    ∧ runs (hdr 0) 0x41 (pstoWriteGate (hdr 0) 106488 (List.replicate 8 1)) up = true
    ∧ (runs (hdr 0) 0x42 (pstoEraseGate (hdr 0) 63 1) erasing = true ∧ (acting (hdr 0) 0x42 erasing).eraseWaits = true)
    ∧ (runs (hdr 0) 0x42 (pstoEraseGate (hdr 0) 12 52) up = true ∧ (acting (hdr 0) 0x42 up).eraseWaits = false)
    ∧ runs (hdr 0) 0x43 (pstoProtectGate (hdr 0) 3) up = true ∧ runs (hdr 0) 0x44 (fun _ => Gate.plain 3) up = true
    ∧ runs (hdr 0) 0x45 (logReadGate 7) up = true ∧ runs (hdr 0) 0x46 logClearGate up = true := by decide

theorem wit_ring_due :
  (up.onPsto (fun p => (p.putSlot 3 0 (slotBytes 3 1 [])).putSlot 3 16 (slotBytes 3 2 []))).psto.ringDue 3 = true := by decide +kernel

theorem wit_storage_events_complete :
  coreActs up = true ∧ ({ up with psto := { up.psto with scan := 1 } } : State).psto.scan = 1
    ∧ ({ up with psto := { up.psto with resolving := true } } : State).psto.resolving = true
    ∧ (up.psto.scan = 2 ∧ ({ up with psto := { up.psto with jsectors := [journalShipped ++ List.replicate 119 [{ bytes := [], ue := true }], []] } } : State).psto.nearlyFull = true)
    ∧ (coreActs erasing = true ∧ erasing.psto.erasing ≠ 0xFF ∧ erasing.psto.suspended = false)
    ∧ logged.cfl.logBuf ≠ [] ∧ coreActs logged = true := by decide

theorem wit_storage_events_complete_2 :
  (let s : State := { up with psto := { up.psto with scan := 1 } }
   coreActs s = true ∧ s.psto.active.isSome = true
    ∧ ({ s with psto := { s.psto with jsectors := [[], []] } } : State).psto.active = none) := by decide

theorem wit_firmware_commands_complete :
  (runs (hdr 0) 0x70 (fun _ => Gate.plain 3) up = true ∧ (acting (hdr 0) 0x70 up).cfl.running < 2)
    ∧ (runs (hdr 0) 0x70 (fun _ => Gate.plain 3) ledge = true ∧ 2 ≤ (acting (hdr 0) 0x70 ledge).cfl.running)
    ∧ runs (hdr 0) 0x71 (fwWriteGate 1 0 [1, 2]) up = true
    ∧ (coreActs (writing 0) = true ∧ (writing 0).cfl.fwWrite = some (0, 9, 1))
    ∧ runs (hdr 0) 0x72 (fwVerifyGate 1) up = true
    ∧ (coreActs (verifying up) = true ∧ (verifying up).cfl.fwVerify = some (0, 9, 0)
      ∧ ((verifying up).onCfl (Cfl.onImage 0 Image.lastBlock)).verifyFails 0 = none)
    ∧ (coreActs (verifyingOther up) = true ∧ (verifyingOther up).cfl.fwVerify = some (0, 9, 1)
      ∧ ((verifyingOther up).onCfl (Cfl.onImage 1 Image.lastBlock)).verifyFails 1 = some 1)
    ∧ runs (hdr 0) 0x73 (fwActivateGate 1 0) twoImages = true ∧ runs (hdr 0) 0x73 (fwActivateGate 1 1) twoImages = true := by decide

theorem wit_firmware_commands_complete_3 :
  (writing 0).pwr.covers needFlash = true ∧ ({ writing 0 with pwr := { up.pwr with vhold := 0 } } : State).pwr.covers needFlash = false
    ∧ (verifying up).pwr.mode ≠ .ride ∧ (verifyingOther up).pwr.covers needFlash = true := by decide

set_option maxRecDepth 200000 in
/-- A copy as shipped is accepted, one with a flipped bit is not (R122, R123). -/
theorem test_option_row :
    optAccepted optRowShipped = true ∧ optAccepted (optRowShipped.set 0x10 1#8) = false
      ∧ (optFields optRowShipped).cxpStart = 1 := by decide

set_option maxRecDepth 200000 in
theorem wit_firmware_commands_complete_2 : runs (hdr 0) 0x76 ledgeExitGate ledge = true := by decide

theorem wit_register_writes_complete :
  (runs (hdr 0) 0x75 (regWriteGate (hdr 0) 0x40002010 500) up = true
      ∧ (match (acting (hdr 0) 0x75 up).regWrite 0x40002010 500 with | .ok _ => true | .error _ => false) = true)
    ∧ (runs (hdr 0) 0x75 (regWriteGate (hdr 0) 0x50000010 2) up = true ∧ (acting (hdr 0) 0x75 up).pathOpen = true) := by decide

theorem wit_register_writes_complete_2 :
  runs (hdr 0) 0x75 (regWriteGate (hdr 0) 0x40010004 0x55555554) up = true
    ∧ runs (hdr 0) 0x75 (regWriteGate (hdr 0) 0x40010008 0xFFFF) up = true
    ∧ runs (hdr 0) 0x75 (regWriteGate (hdr 0) 0x40004000 (2 ^ 31 + 8000000)) up = true
    ∧ runs (hdr 0) 0x75 (regWriteGate (hdr 0) 0x4000300C 0x21C0) up = true
    ∧ runs (hdr 0) 0x75 (regWriteGate (hdr 0) 0x40002010 500) up = true
    ∧ runs (hdr 0) 0x75 (regWriteGate (hdr 0) 0x40010010 0x77777777) up = true
    ∧ runs (hdr 0) 0x75 (regWriteGate (hdr 0) 0x40010014 7) up = true
    ∧ runs (hdr 0) 0x75 (regWriteGate (hdr 0) 0x4000F100 0xF05E0001) up = true
    ∧ runs (hdr 0) 0x75 (regWriteGate (hdr 0) 0x4000F104 4) { up with fuse := { up.fuse with armed := some (1, 0) } } = true := by decide

theorem wit_register_writes_complete_3 :
  runs (hdr 0) 0x75 (regWriteGate (hdr 0) 0x40000004 1) up = true
    ∧ runs (hdr 0) 0x75 (regWriteGate (hdr 0) 0x40040004 0) up = true
    ∧ runs (hdr 0) 0x75 (regWriteGate (hdr 0) 0x40040008 0xFFFFFFFF) up = true
    ∧ runs (hdr 0) 0x75 (regWriteGate (hdr 0) 0x40050008 0) up = true
    ∧ runs (hdr 0) 0x75 (regWriteGate (hdr 0) 0x40005004 0) up = true
    ∧ runs (hdr 0) 0x75 (regWriteGate (hdr 0) 0x40012000 0) up = true
    ∧ runs (hdr 0) 0x75 (regWriteGate (hdr 0) 0x40020000 0) up = true
    ∧ runs (hdr 0) 0x75 (regWriteGate (hdr 0) 0x40021004 0) up = true := by decide

theorem wit_register_reads_complete :
  runs (hdr 0) 0x74 (regReadGate 0x40001800 2) up = true
    ∧ (runs (hdr 0) 0x74 (regReadGate 0x50001000 60) up = true ∧ (acting (hdr 0) 0x74 up).pathOpen = true)
    ∧ runs (hdr 0) 0x74 (regReadGate 0x40001800 1) up = true
    ∧ runs (hdr 0) 0x77 (fuseReadGate 4 60) up = true := by decide

theorem wit_register_reads_complete_2 :
  (linkReads.haul.running = true ∧ (linkReads.haul.pendingRegs.take 4).find? (fun r => r.tag = 3 && !r.late) = some (someAccess 3)) ∧ linkReads.jtag.tainted = false := by decide

theorem wit_register_reads_complete_3 :
  up.benchOpen = true ∧ up.decodes 0x40001800 = true ∧ stateGate 0x74 up = none ∧ isSens 0x40001800 = false
    ∧ (regWriteBad 0x40012000 1 up).any (·.2) = false ∧ orStatus (stateGate 0x75 up) (regWriteState 0x40012000 1 up) = none := by decide

theorem wit_test_access_port_complete :
  up.tapOpen = true ∧ { up with fuse := { up.fuse with words := up.fuse.words.modify 1 (fun w => w ||| 0x1000) } }.fuse.jtagOff = true
    ∧ { up with jtag := { up.jtag with trstn := false } }.jtag.trstn = false := by decide

theorem wit_control_space_completes :
  (lengthOk pingPacket 13 = true ∧ crcOk pingPacket = true ∧ (hdrOf pingPacket 0).session = 0 ∧ frameOk pingPacket = true
      ∧ (hdrOf pingPacket 0).cls ≠ 3
      ∧ (if Machine.slotted (hdrOf pingPacket 0) (at_ pingPacket 4 1) then ((up.atTick 0).acknowledge 0).sess.slotBusy 0
        else 8 ≤ ((up.atTick 0).acknowledge 0).sess.inflight 0 || ((up.atTick 0).acknowledge 0).sess.free = 0) = false
      ∧ ((up.atTick 0).acknowledge 0).sess.tagBusy 0 (hdrOf pingPacket 0).tag = false
      ∧ ((hdrOf pingPacket 0).urgent && !urgentPath (at_ pingPacket 4 1)) = false
      ∧ (match decodeParams (hdrOf pingPacket 0) (at_ pingPacket 4 1) ((pingPacket.drop 8).take (13 - 12)) with
         | .cmd i => decide (i = .ping (hdr 0) [7#8]) | .badOpcode => false | .badLength => false) = true) := by decide

theorem wit_control_space_completes_2 :
  (up.cxp.up0 = true ∧ up.jtag.tainted = false ∧ holding.cxp.up0 = true ∧ holding.sess.heldReplies 0 = [heldFlight]
    ∧ up.linksRefused 0xC 4 = false ∧ up.linksRefused 1 1 = false)
    ∧ ((linkDropped.cxp.links.getD 1 Link.off).powered = true ∧ (linkDropped.cxp.links.getD 1 Link.off).up = false
      ∧ (linkDropped.cxp.links.getD 1 Link.off).configured = true ∧ (up.cxp.links.getD 3 Link.off).up = true) := by decide

theorem wit_heartbeats_replies_and_telemetry_complete :
  (up.cxp.links.getD 3 Link.off).up = true ∧ up.cxp.up0 = true ∧ up.pwr.mode ≠ .ride ∧ up.jtag.tainted = false
    ∧ (coreActs telling = true ∧ (telling.sess.get 1).opened = true ∧ (telling.sess.get 1).telem ≠ 0
      ∧ (telling.sess.get 1).undelivered.length < 8 ∧ telling.cxp.up0 = true) := by decide

theorem wit_trigger_encoder_gang_commands_complete :
  runs (hdr 0) 0x50 (trigGate (hdr 0) trigP) up = true ∧ runs (hdr 0) 0x51 (encGate (hdr 0) encP) up = true
    ∧ runs (hdr 0) 0x52 (angleGate (hdr 0) 0 (List.replicate 64 { position := 4294967295, action := 1, handle := 15 })) up = true
    ∧ runs (hdr 0) 0x53 (gangConfigGate (hdr 0) 1) up = true ∧ runs (hdr 0) 0x54 (gangJoinGate (hdr 0)) up = true
    ∧ runs (hdr 0) 0x55 (gangLeaveGate (hdr 0)) (ganged 1) = true ∧ runs (hdr 0) 0x56 (fun _ => Gate.plain 3) up = true := by decide

theorem wit_thermal_and_power_commands_complete :
  runs (hdr 0) 0x60 (fun _ => Gate.plain 3) up = true ∧ runs (hdr 0) 0x61 (thermalConfigGate 0x0F00) up = true
    ∧ runs (hdr 0) 0x61 (thermalConfigGate 0x21C0) up = true ∧ runs (hdr 0) 0x62 (fun _ => Gate.plain 3) up = true
    ∧ runs (hdr 0) 0x63 (rideConfigGate 50) up = true ∧ runs (hdr 0) 0x63 (rideConfigGate 1000) up = true := by decide

theorem wit_trigger_and_encoder_events_complete :
  up.jtag.tainted = false ∧ up.trig.isOutput 0 = false ∧ up.trig.isOutput 3 = false ∧ (turning 0).enc.cfg.mode ≠ 0
    ∧ (turning 0).enc.forward true = true ∧ (turning 0).enc.forward false = false ∧ (turning 0).enc.state = 0
    ∧ (turning 0).enc.lostDue = true ∧ (turning 1).enc.state = 1 ∧ (turning 1).enc.cfg.clearZ ≠ 1 ∧ (turning 1).enc.zref = some 3999
    ∧ { turning 0 with enc := { (turning 0).enc with cfg := { encP with clearZ := 1 } } }.enc.cfg.clearZ = 1 := by decide

theorem wit_trigger_and_encoder_events_complete_2 :
  up.trig.isInput 0 = false
    ∧ ({ up with trig := { up.trig with cfg := { up.trig.cfg with pads := 1 } } } : State).trig.isInput 0 = true := by decide

theorem wit_gang_events_complete :
  (up.jtag.tainted = false ∧ (ganged 1).leads = true ∧ (ganged 2).leads = false ∧ (ganged 2).gang.state ≠ 0
    ∧ ((ganged 2).atTick 0).leads = false ∧ (ganged 2).gang.joining = .none ∧ (ganged 1).gang.joining = .none
    ∧ (ganged 1).gang.present.testBit 1 = true ∧ (ganged 1).trig.gangId ≠ 1) := by decide

theorem wit_gang_events_complete_2 :
  (joiner (.listening 0 9)).gang.joining = .listening 0 9 ∧ (joiner (.listening 0 9)).rd.isArmed = false
    ∧ (joiner (.requested 0 9)).gang.joining = .requested 0 9
    ∧ (joiner (.aligning 2)).gang.joining = .aligning 2 ∧ (joiner (.aligning 2)).gang.offset.natAbs ≤ 40
    ∧ 2 ≤ (member 3).gang.state ∧ (member 3).leads = false ∧ (member 3).gang.slew = some true ∧ (member 3).tb.running = true
    ∧ (runningGang.leads = true ∧ runningGang.gang.state = 3 ∧ runningGang.gang.toArmed = false ∧ runningGang.rd.isArmed = true
      ∧ runningGang.rd.forCal = false ∧ runningGang.trig.cfg.source = 0)
    ∧ { id := 1, compat := (ganged 1).fwCompat, tb := 0, delay := 0 : GangJoinReq }.compat = (ganged 1).fwCompat := by decide

theorem wit_bring_up_events_complete :
  unpowered.pwr.mode = .off ∧ unpowered.rstc.waiting = .none ∧ (waitingOn .vlinkDip).rstc.waiting = .vlinkDip
    ∧ (waitingOn .rideCollapse).rstc.waiting = .rideCollapse ∧ (waitingOn .clkLoss).rstc.waiting = .clkLoss
    ∧ (waitingOn .failedStart).rstc.waiting = .failedStart ∧ (waitingOn .failedStart).pwr.walk = .none
    ∧ (waitingOn .clkLoss).pwr.mode ≠ .off
    ∧ (starting .powerOn 1).stepRuns = true ∧ (starting .powerOn 12).stepRuns = true ∧ (starting .powerOn 6).stepRuns = true
    ∧ (starting .powerOn 9).stepRuns = true ∧ (starting .rideReturn 15).stepRuns = true ∧ (starting .powerOn 7).stepRuns = true
    ∧ (starting .powerOn 8).stepRuns = true ∧ (starting .powerOn 10).stepRuns = true ∧ 2 ≤ phasesIn (15 % 16) := by decide

theorem wit_bring_up_events_complete_2 :
  { starting .powerOn 3 with rstc := { (starting .powerOn 3).rstc with inGap := true, backoff := true } }.rstc.order ≠ .none
    ∧ (starting .powerOn 15).bootable = true
    ∧ (coreActs { up with rstc := { up.rstc with bootOk := false } } = true)
    ∧ { up with rstc := { up.rstc with outage := true } }.rstc.coreUp = true
    ∧ (asleep.pwr.mode = .keepWarm ∧ asleep.rstc.wakeArmed = true ∧ asleep.rstc.order = .none ∧ asleep.pwr.walk = .none) := by decide

theorem wit_reset_pin_and_clocks_complete :
  up.rstc.resetnLow = false ∧ up.jtag.tainted = false ∧ 8 ≤ up.rstc.rails ∧ coreActs up = true ∧ warmed.thm.validNow 6 = true
    ∧ coreActs warmed = true ∧ 9 ≤ up.rstc.rails := by decide

theorem wit_reset_pin_and_clocks_complete_2 :
  (walkingAt 8).clockWatched = true ∧ ({ walkingAt 8 with pwr := { (walkingAt 8).pwr with mode := .powerDown } } : State).pwr.mode = .powerDown
    ∧ ({ up with pipe := { up.pipe with ueDue := true } } : State).pipe.ueLast = none := by decide

theorem wit_supplies_and_rails_complete :
  up.jtag.tainted = false ∧ 18000 ≤ up.pwr.vlink1 ∧ 18000 ≤ up.pwr.vlink0
    ∧ (walkingAt 12).pwr.walk ≠ .none ∧ (walkRails (walkingAt 12).pwr.walkStep).contains 13 = true ∧ 12 ≤ up.rstc.rails
    ∧ (waitingOn .railFault).rstc.waiting = .railFault ∧ 18000 ≤ (waitingOn .railFault).pwr.vlink
    ∧ (starting .powerOn 3).pwr.mode = .bringUp ∧ (starting .powerOn 3).rstc.waiting = .none
    ∧ { up with pwr := { up.pwr with vlink0 := 0, vlink1 := 0 } }.pwr.vlink < 18000 ∧ 6 ≤ up.rstc.rails
    ∧ (waitingOn .aonOnly).rstc.waiting ≠ .none := by decide

theorem wit_ride_through_events_complete :
  up.rideOpen = true ∧ riding.rideOpen = false ∧ riding.pwr.mode = .ride ∧ riding.rstc.order = .none
    ∧ riding.pwr.rideDue ≤ riding.instant 100000000 ∧ up.jtag.tainted = false := by decide

theorem wit_converter_and_holdup_complete :
  up.pwr.healthy.testBit 3 = true ∧ 6 ≤ up.rstc.rails ∧ (phasedOut 0).pwr.convStep = 0 ∧ phasesIn (phasedOut 0).pwr.healthy = 3
    ∧ (phasedOut 2).pwr.convStep = 2 ∧ 18000 ≤ up.pwr.vlink ∧ up.rstc.coreUp = true ∧ up.rstc.order = .none ∧ up.pwr.mode ≠ .ledge
    ∧ { up with pwr := { up.pwr with measuring := some 40000 } }.pwr.measuring = some 40000 ∧ roundDiv 1000000000 100000 ≤ 0xFFFF := by decide

theorem wit_thermal_events_complete :
  coreActs up = true ∧ coreActs { up with thm := { up.thm with level := 1 } } = true ∧ up.thm.max < 8768
    ∧ up.rstc.sensorPowered 1 = true ∧ up.rstc.sensorPowered 8 = true ∧ up.rstc.waiting ≠ .thermal
    ∧ ((waitingOn .thermal).rstc.waiting = .thermal ∧ (waitingOn .thermal).pwr.walk = .none ∧ 19000 ≤ (waitingOn .thermal).pwr.vlink0) := by decide

theorem wit_readout_events_complete :
  (streaming false).rd.isArmed = true ∧ (streaming false).rd.slot = none ∧ (streaming false).jtag.tainted = false
    ∧ (streaming false).haul.running = true ∧ (streaming false).rd.next = none
    ∧ ((streaming false).slotBegins.dueFrame 1000 = some (1000, 0, 0)) ∧ (streaming true).rd.frameOpen = true
    ∧ (streaming true).rd.rowAt 0 = 16 ∧ (streaming true).rd.rowsDone = 0 ∧ up.holdsCoefficients = true
    ∧ queued.pipe.queue = [(1310719, true)] ∧ queued.holdsCoefficients = true ∧ queued.reloadFails 1310719 = false
    ∧ spoilt.reloadFails 1310719 = true ∧ spoilt.pipe.queue = [(1310719, true)] ∧ spoilt.holdsCoefficients = true
    ∧ { up with pipe := { up.pipe with ueDue := true } }.pipe.ueDue = true := by decide

theorem wit_haul_events_complete :
  up.haul.running = true ∧ up.haul.lanesUp.testBit 3 = true ∧ up.jtag.tainted = false
    ∧ { up with haul := { up.haul with almWait := true } }.haul.almWait = true ∧ (training 3).haul.training = 3
    ∧ (training 2).haul.training = 2 ∧ ((training 1).haul.training = 1 ∧ (training 1).stepRuns = true ∧ (training 1).rstc.step = 14
      ∧ (0 ||| (15 &&& (15 - ((training 1).haul.lanesFailed &&& 15)))) &&& 15 = 15 ∧ (training 1).haul.lanesUp = 0) := by decide

theorem wit_step_runs_the_front_command :
  State.reset.pending = [] := by decide

theorem wit_store_stays_canonical :
  storeCanonical State.reset ∧ storeCanonical { up with psto := { up.psto with mem := [(0, 0#8), (106495, 1#8)] } } := by unfold storeCanonical; decide

theorem wit_blown_fuses_stay :
  (match step State.reset with | .next _ => true | .fault _ => false | .refused _ => false) = true := rfl

theorem wit_commands_leave_the_queue_alone :
  (match exec (.ping (hdr 0) []) up with | .next _ => true | .fault _ => false | .refused _ => false) = true := rfl

theorem wit_stops_only_outside_the_ratings :
  up.jtag.tainted = false ∧ (match exec (.ping (hdr 0) []) { up with jtag := { up.jtag with tainted := true } } with
    | .next _ => false | .fault _ => true | .refused _ => false) = true := ⟨rfl, rfl⟩

theorem wit_encoder_stays_in_turn :
  inTurn (turning 0).enc ∧ (turning 0).enc.cfg.cpr - 1 = (turning 0).enc.position ∧ (turning 0).enc.forward true = true ∧ (turning 0).enc.forward false = false
    ∧ ({ encP with cpr := 0, preset := 4294967295 } : EncP).preset < 2 ^ 32 ∧ (turning 0).jtag.tainted = false := by unfold inTurn; decide

theorem wit_closed_sessions_refused :
  served (.statusGet (hdr 2)) = some (hdr 2, 0x06) ∧ up.jtag.tainted = false ∧ cameIn (hdr 2) 0x06 up = .take false
    ∧ (hdr 2).cls ≠ 3 ∧ ((hdr 2).urgent && !urgentPath 0x06) = false ∧ ((acting (hdr 2) 0x06 up).sess.get 2).opened = false := by decide

theorem wit_closed_sessions_refused_2 :
  cameIn { hdr 0 with tag := 9 } 0x06 (flying .running) = .take true ∧ cameIn { hdr 0 with cls := 3 } 0x06 up = .take false
    ∧ cameIn (urgentHdr 0) 0x06 up = .take false ∧ ((urgentHdr 0).urgent && !urgentPath 0x06) = true := by decide

theorem wit_tier_guards :
  served (.logClear (hdr 1)) = some (hdr 1, 0x46) ∧ up.jtag.tainted = false ∧ cameIn (hdr 1) 0x46 up = .take false
    ∧ ((acting (hdr 1) 0x46 up).sess.get 1).opened = true
    ∧ requiredTier (hdr 1) 0x46 (.logClear (hdr 1)) < ((acting (hdr 1) 0x46 up).sess.get 1).tier := by decide

theorem wit_tier_guards_2 :
  ((up.sess.get 0).tier ≤ (Gate.plain 0).tier) ∧ (Gate.plain 0).state = none ∧ verdict (hdr 0) 0x46 false (Gate.plain 0) up = none := by decide

theorem wit_mailbox_bounds :
  served (.statusGet (hdr 0)) = some (hdr 0, 0x06) ∧ served (.replyFetch (hdr 0)) = some (hdr 0, 0x08)
    ∧ Machine.slotted (hdr 0) 0x08 = true ∧ Machine.slotted (hdr 0) 0x06 = false ∧ up.cxp.up0 = true ∧ up.jtag.tainted = false := by decide

theorem wit_mailbox_bounds_2 :
  cameIn (hdr 0) 0x06 { up with sess := { up.sess with flights := List.replicate 8 (flight .running) } } = .busy
    ∧ cameIn (hdr 0) 0x06 { up with rstc := { up.rstc with coreUp := false } } = .queue
    ∧ cameIn (hdr 0) 0x06 { up with cxp := Cxp.reset } = .lost
    ∧ cameIn (hdr 0) 0x08 { up with sess := { up.sess with flights := [{ flight .running with slot := true }] } } = .busy := by decide

theorem wit_queries_only_answer :
  (match exec (.powerGet (hdr 0)) up with | .next t => t.cxp.tx.length | _ => 0) = 1
    ∧ (match exec (.powerGet (hdr 2)) up with | .next t => t.cxp.tx.length | _ => 0) = 1 := by decide

theorem wit_command_frames :
  sends (.encConfig (hdr 0) encP) = 1
    ∧ sends (.angleTableLoad (hdr 0) 63 [{ position := 4294967295, action := 1, handle := 15 }]) = 1
    ∧ sends (.encErrCountClear (hdr 0) 0) = 1
    ∧ sends (.trigConfig (hdr 0) trigP) = 1
    ∧ sends (.trigEarlyClear (hdr 0) 0) = 1
    ∧ sends (.gangConfig (hdr 0) 15 1) = 1
    ∧ sends (.radiometrySet (hdr 0) 1000 30000) = 1
    ∧ sends (.pipeEccClear (hdr 0) 0) = 1 := by decide

theorem wit_command_frames_2 :
  sends (.qualityConfig (hdr 0) 255) = 1
    ∧ sends (.shutterInhibit (hdr 0) 120000) = 1
    ∧ sends (.thermalConfig (hdr 0) 0x21C0) = 1
    ∧ sends (.thmConfigWrite (hdr 0) 0x21C0) = 1
    ∧ sends (.rideConfig (hdr 0) 1000) = 1
    ∧ sends (.pwrRideTimerWrite (hdr 0) 1000) = 1
    ∧ sends (.actConfig (hdr 0) 0x13 bankCfg) = 1
    ∧ sends (.actProgramLoad (hdr 0) 2 511 [7]) = 1 := by decide

theorem wit_command_frames_3 :
  sends (.pstoProtect (hdr 0) 3) = 1
    ∧ sends (.pstoRead (hdr 0) 106256 240) = 1
    ∧ sends (.pstoEccClear (hdr 0) 0) = 1
    ∧ sends (.haulHdrErrClear (hdr 0) 0) = 1
    ∧ sends (.haulCrcErrClear (hdr 0) 0) = 1
    ∧ sends (.regRead (hdr 0) 0x40001800 60) = 1
    ∧ sends (.causeStickyClear (hdr 0) 1) = 1
    ∧ sends (.fuseBlowSelWrite (hdr 0) 0xF05E0001) = 1 := by decide

theorem wit_command_frames_4 :
  sends (.claim (hdr 0) 2) = 1
    ∧ sends (.release (hdr 0) 2 0) = 1
    ∧ sends (.wdgConfig (hdr 0) 8000000 1) = 1
    ∧ sends (.wdgHostCtrlWrite (hdr 0) (2 ^ 31 + 1000)) = 1
    ∧ sends (.cxpDiscardsClear (hdr 0) 0) = 1
    ∧ sends (.tbaseNowLoRead (hdr 0)) = 1
    ∧ sends (.driftConfig (hdr 9) 20 1) = 1 := by decide

theorem wit_user_area_bytes :
  Memory.wf up.psto.mem = true ∧ runs (hdr 0) 0x41 (pstoWriteGate (hdr 0) 106488 (List.replicate 8 1)) up = true
    ∧ (verdict (hdr 0) 0x41 false (pstoWriteGate (hdr 0) 1 [] (acting (hdr 0) 0x41 up)) (acting (hdr 0) 0x41 up)).isSome = true
    ∧ (Memory.wf erasing.psto.mem = true ∧ coreActs erasing = true ∧ erasing.psto.erasing ≠ 0xFF ∧ erasing.psto.suspended = false)
    ∧ up.psto.erasing = 0xFF := by decide

theorem wit_user_area_bytes_2 :
  cameIn (hdr 0) 0x41 { up with rstc := { up.rstc with coreUp := false } } = .queue := by decide

theorem wit_area_and_fuses_change_only_so :
  storesUserArea (.pstoErase (hdr 0) 12 52) = false ∧ writesBlow up (.regWrite (hdr 0) 0x4000F100 0) = false
    ∧ writesBlow linkReads (.haulRegResp 0 0 0) = false ∧ up.fuse.armed = none
    ∧ sends (.regWrite (hdr 0) 0x4000F100 0) = 1 ∧ sends (.pstoErase (hdr 0) 12 52) = 1
    ∧ ({ up with fuse := { up.fuse with armed := some (1, 0) }, tb := { up.tb with now := 10000001 } } : State).fuse.armed = some (1, 0) := by decide

theorem wit_void_ranges_read_erased :
  runs (hdr 0) 0x40 (pstoReadGate 106256 240) up = true
    ∧ runs (hdr 0) 0x40 (pstoReadGate 0 8) { up with psto := { up.psto with voids := [(0, 8)] } } = true
    ∧ ({ up with psto := { up.psto with voids := [(0, 8)] } } : State).psto.inVoid 7 = true := by decide

theorem wit_void_ranges_read_erased_2 :
  (let s : State := { up with psto := { up.psto with voids := [(0, 8)] } }
   s.jtag.tainted = false ∧ cameIn (hdr 0) 0x41 s = .take false
    ∧ reachesState (hdr 0) 0x41 (pstoWriteGate (hdr 0) 0 (List.replicate 8 1) (acting (hdr 0) 0x41 s)) (acting (hdr 0) 0x41 s) = true
    ∧ stateGate 0x41 (acting (hdr 0) 0x41 s) = none ∧ 8 ≤ protectFrom (acting (hdr 0) 0x41 s).psto.protect
    ∧ 0 ∈ groupsOf 0 8 ∧ (acting (hdr 0) 0x41 s).psto.inVoid 0 = true) := by decide

theorem wit_refused_while_in_use :
  (let s := streaming true
   s.jtag.tainted = false ∧ cameIn (hdr 0) 0x0A s = .take false ∧ (acting (hdr 0) 0x0A s).runningStreams ≠ []
    ∧ reachesState (hdr 0) 0x0A (modeSetGate 4 (acting (hdr 0) 0x0A s)) (acting (hdr 0) 0x0A s) = true
    ∧ reachesState (hdr 0) 0x15 (configGate (hdr 0) readoutP (acting (hdr 0) 0x15 s)) (acting (hdr 0) 0x15 s) = true
    ∧ stateGate 0x15 (acting (hdr 0) 0x15 s) ≠ some stRecall ∧ (acting (hdr 0) 0x15 s).rd.state = .running
    ∧ (configTarget readoutP (acting (hdr 0) 0x15 s).rd.cfg).rt ≠ (acting (hdr 0) 0x15 s).rd.rt
    ∧ reachesState (hdr 0) 0x20 (adcCalGate (hdr 0) (acting (hdr 0) 0x20 s)) (acting (hdr 0) 0x20 s) = true) := by decide

theorem wit_refused_while_in_use_2 :
  (let s := up
   s.cfl.running = 0 ∧ reachesState (hdr 0) 0x71 (fwWriteGate 0 0 [1] (acting (hdr 0) 0x71 s)) (acting (hdr 0) 0x71 s) = true
    ∧ reachesState (hdr 0) 0x72 (fwVerifyGate 0 (acting (hdr 0) 0x72 s)) (acting (hdr 0) 0x72 s) = true
    ∧ reachesState (hdr 0) 0x73 (fwActivateGate 0 1 (acting (hdr 0) 0x73 s)) (acting (hdr 0) 0x73 s) = true) := by decide

theorem wit_row_aligned_starts :
  (let s := { streaming false with trig := { up.trig with cfg := { up.trig.cfg with source := 1, pads := 1 } } }
   s.jtag.tainted = false ∧ s.trig.isInput 0 = true ∧ s.trig.cfg.edge = 0 ∧ s.trig.cfg.mode = 0 ∧ s.gang.state = 0 ∧ s.rd.isArmed = true
    ∧ s.rd.forCal = false ∧ s.rd.throttled = false ∧ s.rd.previous = none ∧ 0 < s.rd.rt) := by decide

theorem wit_row_aligned_starts_2 :
  (let s := { streaming false with
      trig := { up.trig with cfg := { up.trig.cfg with source := 4, pads := 8 } }
      rd := { (streaming false).rd with anyFrame := true, sPrev := 1000 } }
   s.trig.isInput 3 = true ∧ s.rd.previous = some 1000 ∧ s.placeStart 965 = 1000 ∧ s.placeStart 966 = 1000 + s.rd.rt
    ∧ s.placeStart 966 < 1000 + s.rd.period) := by decide

theorem wit_compensation_steps :
  (let s : State := { up with thm := { up.thm with readings := up.thm.readings.set 6 (some 2500), invalid := 0 }, tb := { up.tb with firstComp := false } }
   s.jtag.tainted = false ∧ s.coreServes = true ∧ s.thm.validNow 6 = true ∧ s.tb.firstComp = false ∧ (s.tb.corr ≤ 6 ∧ -6 ≤ s.tb.corr)) := by decide

theorem wit_compensation_steps_2 :
  (let s : State := { up with thm := { up.thm with readings := up.thm.readings.set 6 (some 2500), invalid := 0 }, tb := { up.tb with firstComp := true } }
   s.thm.validNow 6 = true ∧ s.tb.firstComp = true) ∧ ({ up with thm := { up.thm with invalid := 64 } } : State).thm.validNow 6 = false := by decide

theorem wit_events_held_in_order :
  ({ up with cxp := Cxp.reset } : State).cxp.up0 = false ∧ up.cxp.up0 = true ∧ up.aon.events.length ≤ 16
    ∧ ({ up with aon := { up.aon with overflow := true } } : State).aon.overflow = true
    ∧ up.sess.list[0]? = some (up.sess.get 0)
    ∧ ((up.sess.get 0).sees 0 { code := 1, status := 0, target := none, only := none, forced := some 0, data := [], time := 0 }).isSome = true := by decide

theorem wit_admission_decimates_lower_classes :
  (let y : Counted := { stream := someStream, rows := 1024, period := 400000 }
   [y][0]? = some y ∧ admits (admitStream linked.cxp [y] 0 0) = true ∧ victim [y] 0 = some 0 ∧ y.stream.decim = 2 ^ 0) := by decide

theorem wit_index_restores_the_reference :
  (let s : State := { turning 1 with enc := { (turning 1).enc with zref := some 17 } }
   s.jtag.tainted = false ∧ s.enc.cfg.mode ≠ 0 ∧ s.enc.state = 1 ∧ s.enc.cfg.clearZ ≠ 1 ∧ s.enc.zref = some 17 ∧ 17 < s.enc.cfg.cpr
    ∧ s.enc.cfg.cpr ≤ 65535) := by decide

theorem wit_index_restores_the_reference_2 :
  (turning 1).enc.state = 1 ∧ (turning 1).enc.cfg.clearZ ≠ 1
    ∧ ({ turning 1 with enc := { (turning 1).enc with zref := none } } : State).enc.position < 2 ^ 32
    ∧ ({ turning 1 with enc := { (turning 1).enc with cfg := { (turning 1).enc.cfg with clearZ := 1 } } } : State).enc.cfg.clearZ = 1
    ∧ up.enc.cfg.mode = 0 := by decide

set_option maxRecDepth 200000 in
theorem wit_stored_records_are_whole :
  ([{ bytes := [], ue := true }] : Slot).any Group.ue = true ∧ entryFits (.void 106488 8 1) ∧ entryFits (.header (2 ^ 32 - 1) 0)
    ∧ (List.replicate 112 (0#8 : Byte)).length = 112 ∧ Psto.reset.ringSlots 3 = [] := by
  unfold entryFits; decide

theorem wit_stored_records_are_whole_2 :
  (((up.onPsto (fun p => p.putSlot 3 0 (slotBytes 3 1 []))).psto.inForce 3).map (fun x => (x.1, x.2.1))) = some (0, 1) := by
  decide +kernel

end Sys2Proof.Tests
end

/-!
PROOFS. The scope of the model: a command stops only outside the ratings (R3, R4, R946), a query leaves every unit as it stands, and the
register accesses have the effects of their registers (R9 to R14).
-/

namespace Sys2Proof.Proofs

open Sys2Proof Sys2Proof.Machine Sys2Proof.Safety Sys2Proof.Laws

/-! ## Stops -/

/-- What a meaning may answer: its effect behind the guard of the ratings, or a next state in and outside them. -/
inductive Answers (s : State) : Out → Prop
  | live (f : State → State) : Answers s (live s f)
  | next (t : State) : Answers s (.next t)

/-- Resets, the qualified supply that ends their waits, and the test access port run in any state; every other row is guarded. -/
theorem exec_answers (c : Instr) (s : State) : Answers s (exec c s) := by
  cases c
  case resetnAssert width =>
    change Answers s (execResetnAssert width s)
    unfold execResetnAssert
    dsimp only
    split
    · exact .next _
    · split <;> exact .next _
  case resetnRelease => exact .next _
  case vlink0Qualified => exact .next _
  case jtagBypass => exact .next _
  case jtagIdcode => exact .next _
  case jtagSamplePreload => exact .next _
  case jtagExtest => exact .next _
  case jtagHighz => exact .next _
  case jtagClamp => exact .next _
  all_goals
    dsimp only [exec]
    exact .live _

/-- An answer is a next state, or the stop outside the ratings. -/
theorem Answers.next_or_outside {s : State} {o : Out} (h : Answers s o) :
    (∃ t, o = .next t) ∨ (o = .fault .outsideRatings ∧ ¬ inRatings s) := by
  cases h with
  | next t => exact .inl ⟨t, rfl⟩
  | live f =>
    cases e : s.jtag.tainted with
    | false => exact .inl ⟨f s, live_in s f e⟩
    | true => exact .inr ⟨live_out s f e, by simp [inRatings, e]⟩

/-- Settles O41: every answer is a next state or the stop outside the ratings. -/
theorem stopsOnlyOutsideTheRatings : Obligations.StopsOnlyOutsideTheRatings := by
  refine ⟨fun c s r e => ?_, fun c s f e => ?_, fun c s hs => ?_⟩
  all_goals obtain ⟨t, ht⟩ | ⟨hf, hout⟩ := (exec_answers c s).next_or_outside
  · cases ht.symm.trans e
  · cases hf.symm.trans e
  · cases ht.symm.trans e
  · cases hf.symm.trans e
    exact ⟨rfl, hout⟩
  · exact ⟨t, ht⟩
  · exact absurd hs hout

/-! ## Traffic -/

/-- Claims are the same, and each session but for the result of its last doorbell. -/
structure SameSessions (x y : Sess) : Prop where
  claims : x.claims = y.claims
  butLast : ∀ i, { x.get i with last := (y.get i).last } = y.get i

theorem SameSessions.refl (x : Sess) : SameSessions x x := ⟨rfl, fun _ => rfl⟩

theorem SameSessions.trans {x y z : Sess} (h : SameSessions x y) (g : SameSessions y z) : SameSessions x z :=
  ⟨h.claims.trans g.claims,
    fun i => (congrArg (fun w : Session => { w with last := (z.get i).last }) (h.butLast i)).trans (g.butLast i)⟩

theorem sameSessions_addFlight (f : Flight) (x : Sess) : SameSessions (x.addFlight f) x := ⟨rfl, fun _ => rfl⟩

theorem sameSessions_dropFlights (p : Flight → Bool) (x : Sess) : SameSessions (x.dropFlights p) x := ⟨rfl, fun _ => rfl⟩

theorem sameSessions_setLast (i v : Nat) (x : Sess) : SameSessions (x.setLast i v) x := by
  refine ⟨rfl, fun j => ?_⟩
  simp only [Sess.setLast, Sess.modify, Sess.get, List.getD_eq_getElem?_getD, List.getElem?_modify]
  split <;> cases x.list[j]? <;> rfl

/-- The two states differ by a command's traffic alone. -/
def OnlyTraffic (t s : State) : Prop := sameUnits t s ∧ plainTraffic t s

theorem OnlyTraffic.refl (s : State) : OnlyTraffic s s := ⟨rfl, rfl, fun _ => rfl, rfl, rfl, rfl⟩

theorem OnlyTraffic.trans {u t s : State} (h : OnlyTraffic u t) (g : OnlyTraffic t s) : OnlyTraffic u s := by
  obtain ⟨hunits, hclaims, hsess, hcxp, htb, hwdg⟩ := h
  obtain ⟨gunits, gclaims, gsess, gcxp, gtb, gwdg⟩ := g
  have both := SameSessions.trans ⟨hclaims, hsess⟩ ⟨gclaims, gsess⟩
  exact ⟨(congrArg (fun x => beside x s) hunits).trans gunits, both.claims, both.butLast,
    (congrArg (fun c : Cxp => { c with tx := s.cxp.tx }) hcxp).trans gcxp,
    (congrArg (fun b : Tbase => { b with now := s.tb.now }) htb).trans gtb,
    (congrArg (fun w : Wdg => { w with host := s.wdg.host }) hwdg).trans gwdg⟩

/-- A link that is handed items differs in what was sent. -/
theorem send_butTx (xs : List TxItem) (c : Cxp) : { c.send xs with tx := c.tx } = c := by
  unfold Cxp.send
  split <;> rfl

/-- Time that has reached a tick differs in the present tick. -/
theorem reach_butNow (k : Nat) (b : Tbase) : { b.reach k with now := b.now } = b := by
  unfold Tbase.reach
  split <;> rfl

theorem atTick_onlyTraffic (k : Nat) (s : State) : OnlyTraffic (s.atTick k) s :=
  ⟨rfl, rfl, fun _ => rfl, rfl, reach_butNow k s.tb, rfl⟩

theorem onSess_onlyTraffic (f : Sess → Sess) (s : State) (h : SameSessions (f s.sess) s.sess) : OnlyTraffic (s.onSess f) s :=
  ⟨rfl, h.claims, h.butLast, rfl, rfl, rfl⟩

theorem freeCtr_onlyTraffic (n : Nat) (s : State) : OnlyTraffic { s with freeCtr := n } s :=
  ⟨rfl, rfl, fun _ => rfl, rfl, rfl, rfl⟩

theorem answer_onlyTraffic (h : Hdr) (op st : Nat) (res : List Byte) (s : State) : OnlyTraffic (s.answer h op st res) s := by
  have same : SameSessions (s.answer h op st res).sess s.sess := by
    unfold State.answer
    dsimp only
    split
    · exact .refl _
    · exact sameSessions_addFlight _ _
  exact ⟨rfl, same.claims, same.butLast, send_butTx _ _, rfl, rfl⟩

theorem mailboxAnswer_onlyTraffic (session tag op cls : Nat) (urgent : Bool) (last st : Nat) (res : List Byte) (s : State) :
    OnlyTraffic (s.mailboxAnswer session tag op cls urgent last st res) s :=
  have same := sameSessions_setLast session last s.sess
  ⟨rfl, same.claims, same.butLast, send_butTx _ _, rfl, rfl⟩

/-- The first packet that is due resumes the host watchdog and is due no more; no other changes anything. -/
theorem packetIn_onlyTraffic (s : State) : OnlyTraffic s.packetIn s := by
  unfold State.packetIn
  split
  · exact ⟨rfl, rfl, fun _ => rfl, rfl, rfl, rfl⟩
  · exact .refl s

theorem taken_onlyTraffic (h : Hdr) (op : Nat) (s : State) : OnlyTraffic (s.taken h op) s :=
  have same := (sameSessions_setLast h.session 0 _).trans (sameSessions_dropFlights (Flight.queuedAs h op) s.packetIn.sess)
  (onSess_onlyTraffic _ _ same).trans (packetIn_onlyTraffic s)

theorem enqueue_onlyTraffic (h : Hdr) (op : Nat) (cmd : Instr) (s : State) : OnlyTraffic (s.enqueue h op cmd) s :=
  have same := (sameSessions_setLast h.session 0 _).trans
    (sameSessions_addFlight (flightOf s h op (some cmd) .queued none false) s.packetIn.sess)
  (onSess_onlyTraffic _ _ same).trans (packetIn_onlyTraffic s)

theorem refuseBusy_onlyTraffic (h : Hdr) (op : Nat) (s : State) : OnlyTraffic (s.refuseBusy h op) s :=
  (mailboxAnswer_onlyTraffic _ _ _ _ _ _ _ _ _).trans (packetIn_onlyTraffic s)

/-- Whatever becomes of a command, only traffic differs when its own effect is traffic alone. -/
theorem serveAs_onlyTraffic (i : Intake) (h : Hdr) (op : Nat) (cmd : Instr) (gate : State → Gate) (body : State → State) (s : State)
    (hb : ∀ u, OnlyTraffic (body u) u) : OnlyTraffic (serveAs i h op cmd gate body s) s := by
  cases i with
  | lost => exact .refl s
  | wait => exact .refl s
  | busy => exact refuseBusy_onlyTraffic h op s
  | queue => exact enqueue_onlyTraffic h op cmd s
  | take dup =>
    unfold serveAs
    dsimp only
    split
    · exact (answer_onlyTraffic _ _ _ _ _).trans (taken_onlyTraffic h op s)
    · exact (hb _).trans (taken_onlyTraffic h op s)

/-- The same of the whole row. -/
theorem live_serve_onlyTraffic {h : Hdr} {op : Nat} {cmd : Instr} {gate : State → Gate} {body : State → State} {s t : State}
    (e : live s (serve h op cmd gate body) = .next t) (hb : ∀ u, OnlyTraffic (body u) u) : OnlyTraffic t s := by
  cases hs : s.jtag.tainted with
  | true => cases (live_out s _ hs).symm.trans e
  | false =>
    cases (live_in s _ hs).symm.trans e
    exact (serveAs_onlyTraffic _ h op cmd gate body _ hb).trans (atTick_onlyTraffic _ s)

/-- Settles O46: the effect of each query is its answer, with the free values that POWER_GET and FW_INFO use. -/
theorem queriesOnlyAnswer : Obligations.QueriesOnlyAnswer := by
  intro c s t hc e
  rcases hc with ⟨h, b, rfl⟩ | ⟨h, rfl⟩ | ⟨h, rfl⟩ | ⟨h, ch, rfl⟩ | ⟨h, first, count, rfl⟩ | ⟨h, rfl⟩ | ⟨h, first, count, rfl⟩
    | ⟨h, rfl⟩ | ⟨h, rfl⟩ | ⟨h, rfl⟩ | ⟨h, rfl⟩ | ⟨h, first, count, rfl⟩
  rotate_left 9 -- POWER_GET and FW_INFO first: beside their answers they use free values
  · exact live_serve_onlyTraffic e (fun u => (answer_onlyTraffic _ _ _ _ _).trans (freeCtr_onlyTraffic _ u))
  · exact live_serve_onlyTraffic e (fun u => (freeCtr_onlyTraffic _ _).trans (answer_onlyTraffic _ _ _ _ u))
  all_goals exact live_serve_onlyTraffic e (fun u => answer_onlyTraffic _ _ _ _ u)

/-! ## Register writes -/

section
variable {h : Hdr} {a v : Nat} {s t : State}

/-- Every row of a register write that runs has the effect of `regWriteBody`. -/
theorem regWriteServe_runs {cmd : Instr} (r : runs h 0x75 (regWriteGate h a v) s = true) :
    live s (regWriteServe h a v cmd) = .next (regWriteBody h a v (acting h 0x75 s)) :=
  serve_runs h 0x75 cmd _ _ s r

theorem regWriteBody_overLink (ha : isSensSetting a = true) (hp : s.pathOpen = true) :
    regWriteBody h a v s = (s.regIssue (some h) a 0 (some v)).park h 0x75 .reg := by
  unfold regWriteBody
  rw [ha, hp]
  rfl

theorem regWriteBody_tier : regWriteBody h 0x40010004 v s = (s.answer h 0x75 stOk []).setPolicy v s.sess.enableWord := by
  unfold regWriteBody
  rw [if_neg (by simp [isSensSetting]), if_pos rfl]

theorem regWriteBody_enable : regWriteBody h 0x40010008 v s = (s.answer h 0x75 stOk []).setPolicy s.sess.tierWord v := by
  unfold regWriteBody
  rw [if_neg (by simp [isSensSetting]), if_neg (by decide), if_pos rfl]

/-- A write that is neither an access over the link nor of a policy has its register's effect before its reply. -/
theorem regWriteBody_ok (hl : (isSensSetting a && s.pathOpen) = false) (ht : a ≠ 0x40010004) (he : a ≠ 0x40010008)
    (hw : s.regWrite a v = .ok t) : regWriteBody h a v s = t.answer h 0x75 stOk [] := by
  unfold regWriteBody
  simp only [hl, ht, he, hw, Bool.false_eq_true, if_false]

/-- The rows of single registers of the C die. -/
theorem singleRegister_runs {cmd : Instr} (r : runs h 0x75 (regWriteGate h a v) s = true) (ha : isSensSetting a = false)
    (ht : a ≠ 0x40010004) (he : a ≠ 0x40010008) (hw : (acting h 0x75 s).regWrite a v = .ok t) :
    live s (regWriteServe h a v cmd) = .next (t.answer h 0x75 stOk []) := by
  rw [regWriteServe_runs r, regWriteBody_ok (by rw [ha]; rfl) ht he hw]

end

/-- Settles O19: a REG_WRITE by its branches, and each row of a single register as the write of its address. -/
theorem registerWritesComplete : Obligations.RegisterWritesComplete := by
  refine ⟨?_, ?_, ?_, ?_, ?_, ?_, ?_, ?_, ?_, ?_, ?_, ?_, ?_, ?_, ?_, ?_, ?_, ?_, ?_⟩
  · intro h addr v s t r hl ht he hw
    exact (regWriteServe_runs r).trans (congrArg _ (regWriteBody_ok hl ht he hw))
  · rintro h addr v s a rfl r ha hp
    exact (regWriteServe_runs r).trans (congrArg _ (regWriteBody_overLink ha hp))
  · rintro h v s a rfl r
    exact (regWriteServe_runs r).trans (congrArg _ regWriteBody_tier)
  · rintro h v s a rfl r
    exact (regWriteServe_runs r).trans (congrArg _ regWriteBody_enable)
  all_goals
    rintro h v s a rfl r
    exact singleRegister_runs r (by decide) (by decide) (by decide) rfl

/-! ## Register reads and the register path of the link -/

section
variable {h : Hdr} {a n : Nat} {s : State}

theorem regReadBody_overLink (ha : isSens a = true) (hp : s.pathOpen = true) :
    regReadBody h a n s = (s.regIssue (some h) a n none).park h 0x74 .reg := by
  unfold regReadBody
  rw [ha, hp]
  rfl

theorem regReadBody_words (hl : (isSens a && s.pathOpen) = false) :
    regReadBody h a n s = (s.latchNow (wordRun a n)).answer h 0x74 stOk
      (le 4 a ++ wordBytes ((wordRun a n).map (fun x => (((s.latchNow (wordRun a n)).seen h 0x74).reg x).getD 0))) := by
  unfold regReadBody
  rw [hl]
  rfl

end

/-- A response block on its lane leaves the accesses as they are. -/
@[simp] theorem respArrives_pendingRegs (tag status data : Nat) (s : State) :
    (s.respArrives tag status data).haul.pendingRegs = s.haul.pendingRegs := rfl

section
variable {tag status data : Nat} {s : State}

/-- A response that comes while the link carries traffic, by the access whose tag it names. -/
theorem haulRegResp_access {r : RegAccess} (hs : inRatings s) (hr : s.haul.running = true) (ht : tag < 0x80)
    (hf : (s.haul.pendingRegs.take 4).find? (fun r => r.tag = tag && !r.late) = some r) :
    exec (.haulRegResp tag status data) s = .next ((if status = 0 then (s.respArrives tag status data).regAnswered r data
      else (s.respArrives tag status data).regMissing r)).regsSettled := by
  change execHaulRegResp tag status data s = _
  have hn : ¬ 0x80 ≤ tag := by omega
  unfold execHaulRegResp
  rw [live_in s _ hs]
  simp only [hr, hn, hf, respArrives_pendingRegs, Bool.not_true, Bool.false_eq_true, if_false]

theorem haulRegResp_priority (hs : inRatings s) (hr : s.haul.running = true) (ht : 0x80 ≤ tag) :
    exec (.haulRegResp tag status data) s = .next (s.respArrives tag status data).fpaArrived := by
  change execHaulRegResp tag status data s = _
  unfold execHaulRegResp
  rw [live_in s _ hs]
  simp only [hr, ht, Bool.not_true, Bool.false_eq_true, if_false, if_true]

end

section
variable {a v : Nat} {s : State}

/-- The Bench port answers a read of a word outside the S die at once. -/
theorem benchRead_word (ha : a % 4 = 0) (hd : s.decodes a = true) (hg : stateGate 0x74 s = none)
    (hl : (isSens a && s.pathOpen) = false) :
    s.benchRead a = (s.latchNow [a]).benchAnswer 0 0 (some (((s.latchNow [a]).reg a).getD 0)) := by
  unfold State.benchRead
  simp [ha, hd, hg, hl]

/-- It answers a write that takes effect with status 0. -/
theorem benchWrite_ok {t : State} (ha : a % 4 = 0) (hd : s.decodes a = true) (hb : (regWriteBad a v s).any (·.2) = false)
    (hg : orStatus (stateGate 0x75 s) (regWriteState a v s) = none) (hl : (isSensSetting a && s.pathOpen) = false)
    (hw : s.regWrite a v = .ok t) : s.benchWrite a v = t.benchAnswer 0 0 none := by
  unfold State.benchWrite
  simp [ha, hd, hb, hg, hl, hw]

end

/-- An open Bench port runs a transaction. -/
theorem live_bench (s : State) (f : State → State) (hs : inRatings s) (ho : s.benchOpen = true) :
    live s (fun t => if t.benchOpen then f t else t) = .next (f s) := by
  rw [live_in s _ hs]
  simp [ho]

/-- Settles O20: each row by the branch of its effect that the hypotheses name. -/
theorem registerReadsComplete : Obligations.RegisterReadsComplete := by
  refine ⟨?_, ?_, ?_, ?_, ?_, ?_, ?_, ?_, ?_⟩
  · rintro h addr n s a b rfl r hl rfl
    exact (serve_runs h 0x74 _ _ _ s r).trans (congrArg _ (regReadBody_words hl))
  · rintro h addr n s a rfl r ha hp
    exact (serve_runs h 0x74 _ _ _ s r).trans (congrArg _ (regReadBody_overLink ha hp))
  · rintro h s a b rfl r rfl
    exact (serve_runs h 0x74 _ _ _ s r).trans (congrArg _ (regReadBody_words rfl))
  · rintro h first count s a rfl r
    exact serve_runs h 0x77 _ _ _ s r
  · intro tag data s r hs hr ht hf
    exact haulRegResp_access hs hr ht hf
  · intro tag status data s r hs hr ht hn hf
    rw [haulRegResp_access hs hr ht hf, if_neg hn]
  · intro tag status data s hs hr ht
    exact haulRegResp_priority hs hr ht
  · rintro addr s b hs ho ha hd hg hl rfl
    exact (live_bench s _ hs ho).trans (congrArg _ (benchRead_word ha hd hg hl))
  · intro addr v s t hs ho ha hd hb hg hl hw
    exact (live_bench s _ hs ho).trans (congrArg _ (benchWrite_ok ha hd hb hg hl hw))

end Sys2Proof.Proofs

/-!
PROOFS. The architecture's mode and reset rules: the state a POWER-ON leaves (R36, R47), the commands that change the module's mode or
reset it or a unit (R37, R166, R597, R600), and the refusals of a change of what is in use (R37, R305, R323, R632).
-/

namespace Sys2Proof.Proofs

open Sys2Proof Sys2Proof.Machine Sys2Proof.Safety Sys2Proof.Laws

/-! ## Refusals by the state of the module -/

theorem stateIf_true {b : Bool} (hb : b = true) : stateIf b = some stState := if_pos hb

/-- The module's state and the recall turn an opcode away with these two statuses alone. -/
theorem stateGate_cases (op : Nat) (s : State) :
    stateGate op s = none ∨ stateGate op s = some stState ∨ stateGate op s = some stRecall := by
  unfold stateGate
  split
  · exact .inr (.inl rfl)
  · split
    · exact .inr (.inr rfl)
    · split
      · exact .inr (.inl rfl)
      · split
        · exact .inr (.inr rfl)
        · exact .inl rfl

/-- Bring-up, the recall and the scan of the store hold up opcodes from 0x10 to 0x46 alone (R120, R440, R880). -/
theorem stateGate_ne_recall {op : Nat} (s : State) (ho : op < 0x10 ∨ 0x46 < op) : stateGate op s ≠ some stRecall := by
  unfold stateGate
  split
  · decide
  · split
    · next held =>
      simp only [Bool.and_eq_true, decide_eq_true_eq] at held
      omega
    · split
      · decide
      · split
        · next scan =>
          simp only [Bool.and_eq_true, decide_eq_true_eq] at scan
          omega
        · decide

section
variable {h : Hdr} {op : Nat} {cmd : Instr} {gate : State → Gate} {body : State → State} {s a : State}

/-- A command that no recall holds up and whose own condition on the state fails is answered REFUSED_STATE, whatever the module's mode
says of it. -/
theorem serve_refusedState (ha : acting h op s = a) (hs : inRatings s) (n : op ≠ 0x0E) (hi : cameIn h op s = .take false)
    (hr : reachesState h op (gate a) a = true) (hg : stateGate op a ≠ some stRecall) (hc : (gate a).state = some stState) :
    live s (serve h op cmd gate body) = .next (a.answer h op stState []) := by
  subst ha
  have hi' : intake h op (s.atTick h.tick) = .take false := (if_neg n).symm.trans hi
  refine serve_turned h op cmd gate body s stState hs hi' hr ?_
  rcases stateGate_cases op (acting h op s) with e | e | e
  · rw [e]
    exact hc
  · rw [e]
  · exact absurd e hg

end

section
variable {s : State}

theorem isArmed_of_state (h : s.rd.state = .armed ∨ s.rd.state = .running) : s.rd.isArmed = true := by
  simpa [Rd.isArmed] using h

theorem isEmpty_runningStreams (h : s.runningStreams ≠ []) : s.runningStreams.isEmpty = false := by
  simpa using h

theorem modeSetGate_streaming {mode : Nat} (h : s.runningStreams ≠ []) : (modeSetGate mode s).state = some stState :=
  stateIf_true (by simp [isEmpty_runningStreams h])

/-- An armed readout keeps its row time, its window and its gain (R305). -/
theorem configGate_armed {h : Hdr} {p : ReadoutP} (armed : s.rd.isArmed = true)
    (hc : (configTarget p s.rd.cfg).rt ≠ s.rd.rt ∨ (configTarget p s.rd.cfg).start ≠ s.rd.start ∨
      (configTarget p s.rd.cfg).count ≠ s.rd.count ∨ (configTarget p s.rd.cfg).gain ≠ s.rd.gain) :
    (configGate h p s).state = some stState := by
  have changes : (s.rd.cfg.rt ≠ (configTarget p s.rd.cfg).rt || s.rd.cfg.start ≠ (configTarget p s.rd.cfg).start ||
      s.rd.cfg.count ≠ (configTarget p s.rd.cfg).count || s.rd.cfg.gain ≠ (configTarget p s.rd.cfg).gain) = true := by
    simp only [Bool.or_eq_true, decide_eq_true_eq, or_assoc]
    exact hc.imp Ne.symm (.imp Ne.symm (.imp Ne.symm Ne.symm))
  refine stateIf_true ?_
  unfold State.configRefused
  simp only [armed, changes, Bool.and_true, Bool.or_true, Bool.true_or]

theorem adcCalGate_inUse {h : Hdr} (hu : s.runningStreams ≠ [] ∨ s.rd.state = .armed ∨ s.rd.state = .running) :
    (adcCalGate h s).state = some stState := by
  refine stateIf_true ?_
  rcases hu with streams | armed
  · simp [isEmpty_runningStreams streams]
  · simp [isArmed_of_state armed]

theorem fwWriteGate_running {image offset : Nat} {bytes : List Byte} (h : image = s.cfl.running) :
    (fwWriteGate image offset bytes s).state = some stState := if_pos h

theorem fwVerifyGate_running {image : Nat} (h : image = s.cfl.running) : (fwVerifyGate image s).state = some stState :=
  stateIf_true (decide_eq_true h)

theorem fwActivateGate_running {image later : Nat} (h : image = s.cfl.running) :
    (fwActivateGate image later s).state = some stState := if_pos (by simp [h])

end

/-- Settles O51: in each case the row's own condition on the state fails, and no recall comes before it. -/
theorem refusedWhileInUse : Obligations.RefusedWhileInUse := by
  refine ⟨?_, ?_, ?_, ?_, ?_, ?_⟩
  · intro h mode s a ha hs hi hr streams
    exact serve_refusedState ha hs (by decide) hi hr (stateGate_ne_recall a (by decide)) (modeSetGate_streaming streams)
  · intro h p s a ha hs hi hr hg armed changes
    exact serve_refusedState ha hs (by decide) hi hr hg (configGate_armed (isArmed_of_state armed) changes)
  · intro h s a ha hs hi hr hg inUse
    exact serve_refusedState ha hs (by decide) hi hr hg (adcCalGate_inUse inUse)
  · intro h image offset bytes s a ha hs hi hr running
    exact serve_refusedState ha hs (by decide) hi hr (stateGate_ne_recall a (by decide)) (fwWriteGate_running running)
  · intro h image s a ha hs hi hr running
    exact serve_refusedState ha hs (by decide) hi hr (stateGate_ne_recall a (by decide)) (fwVerifyGate_running running)
  · intro h image later s a ha hs hi hr running
    exact serve_refusedState ha hs (by decide) hi hr (stateGate_ne_recall a (by decide)) (fwActivateGate_running running)

/-! ## MODE_SET, SYS_RESET and UNIT_RESET -/

/-- Units whose reset is complete at once: PIPE, the banks, SHUT, ENC, GANG and the streams (R166, R169). -/
def resetsAtOnce (unit : Nat) : Prop := unit ∈ [0, 3, 4, 5, 0x30, 0x31] ∨ (0x10 ≤ unit ∧ unit < 0x20)

section
variable {unit mode : Nat} {h : Hdr} {s : State}

theorem resetsAtOnce.bounds (hu : resetsAtOnce unit) : ¬ (0x20 ≤ unit ∧ unit < 0x24) ∧ unit ≠ 1 ∧ unit ≠ 2 ∧ unit ≠ 0x32 := by
  simp only [resetsAtOnce, List.mem_cons, List.not_mem_nil, or_false] at hu
  omega

/-- No register access over the link holds up their reset. -/
theorem resetsAtOnce.regsFirst (hu : resetsAtOnce unit) (s : State) : s.regsFirst unit = false := by
  obtain ⟨-, n1, n2, -⟩ := hu.bounds
  simp [State.regsFirst, n1, n2]

theorem resetsAtOnce.unitWaits (hu : resetsAtOnce unit) (s : State) : s.unitWaits unit = false := by
  obtain ⟨-, n1, n2, n3⟩ := hu.bounds
  simp [State.unitWaits, n1, n2, n3]

theorem unitBody_link (lo : 0x20 ≤ unit) (hi : unit < 0x24) : unitBody h unit mode s = s.linkReset h unit mode :=
  if_pos (by simp [lo, hi])

/-- A unit that resets at once is cleared behind its fence, and its reply and its event follow. -/
theorem unitBody_atOnce (hu : resetsAtOnce unit) :
    unitBody h unit mode s =
      ((((if mode = 1 then s.fence unit else s).unitClear unit).answer h 0x0C stOk []).unitEvent unit mode).reevaluate := by
  unfold unitBody
  rw [if_neg (by simpa using hu.bounds.1)]
  simp only [hu.regsFirst, hu.unitWaits, Bool.false_eq_true, if_false]

/-- HAUL and SENSOR take a training attempt: their command waits for its end. -/
theorem unitBody_training (hu : unit = 1 ∨ unit = 2) :
    unitBody h unit 0 s = (((if s.regsFirst unit then s else s.unitClear unit).onRstc
      (fun r => { r with unitBusy := some (unit, 0) })).park h 0x0C (.unit unit)).reevaluate := by
  rcases hu with rfl | rfl <;> rfl

end

/-- Settles O4: each command by its body, UNIT_RESET by how its unit is reset. -/
theorem modeAndResetCommandsComplete : Obligations.ModeAndResetCommandsComplete := by
  refine ⟨?_, ?_, ?_, ?_, ?_, ?_, ?_, ?_⟩
  · intro h mode s r
    exact serve_runs h 0x0A _ _ (modeSetBody h mode) s r
  · intro h s r
    exact serve_runs h 0x0B _ _ (sysResetBody h 1) s r
  · intro h s r
    exact serve_runs h 0x0B _ _ (sysResetBody h 2) s r
  · intro h s r
    exact serve_runs h 0x0B _ _ (sysResetBody h 3) s r
  · intro h unit mode s r lo hi
    exact (serve_runs h 0x0C _ _ _ s r).trans (congrArg _ (unitBody_link lo hi))
  · intro h unit s r hu
    exact (serve_runs h 0x0C _ _ _ s r).trans (congrArg _ (unitBody_atOnce hu))
  · intro h unit s r hu
    exact (serve_runs h 0x0C _ _ _ s r).trans (congrArg _ (unitBody_atOnce hu))
  · intro h unit s r hu
    exact (serve_runs h 0x0C _ _ _ s r).trans (congrArg _ (unitBody_training hu))

/-! ## The state after a POWER-ON -/

/-- No session is open after a POWER-ON (R557). -/
theorem reset_sessions_closed : ∀ x ∈ State.reset.sess.list, x.opened = false := by
  intro x hx
  change x ∈ Session.closed 0 true :: (List.replicate 7 (Session.closed 2 true) ++ List.replicate 8 (Session.closed 3 true)) at hx
  simp only [List.mem_cons, List.mem_append, List.mem_replicate] at hx
  rcases hx with rfl | ⟨-, rfl⟩ | ⟨-, rfl⟩ <;> rfl

/-- All sixteen streams are closed after a POWER-ON. -/
theorem reset_streams_closed : ∀ x ∈ State.reset.streams, x.opened = false := by
  intro x hx
  obtain rfl : x = Stream.reset := List.eq_of_mem_replicate hx
  rfl

/-- The user area as shipped lists no byte, so all of it reads erased (R849; log entry 5). -/
theorem reset_userArea_erased (a : Nat) : cellGet State.reset.psto.mem a = 0xFF#8 := rfl

/-- Settles O37: sessions, streams and the user area by the lemmas above, each other field by its reset value. -/
theorem resetState : Obligations.ResetState :=
  ⟨rfl, rfl, rfl, reset_sessions_closed, reset_streams_closed, rfl, rfl, rfl, reset_userArea_erased, rfl, rfl, rfl⟩

end Sys2Proof.Proofs

/-!
PROOFS. Package, pads and supplies: the test access port (R89, R943 to R948), and the rows of the supplies, of the walk down and of the
rails (R67 to R73, R136, R147, R180 to R190, R216).
-/

namespace Sys2Proof.Proofs

open Sys2Proof Sys2Proof.Machine Sys2Proof.Safety Sys2Proof.Laws

/-! ## The test access port -/

/-- The bits of IDCODE that the spec states (R944). -/
theorem idcodeWord_part : idcodeWord.extractLsb' 12 16 = 0x1296#16 := by
  unfold idcodeWord
  ext i hi
  simp only [BitVec.getElem_extractLsb', BitVec.getLsbD_append]
  simp [show ¬ 12 + i < 12 by omega, hi]

section
variable {s : State} {ir : Nat}

theorem tapOpen_eq_false (held : s.fuse.jtagOff = true ∨ s.jtag.trstn = false) : s.tapOpen = false := by
  unfold State.tapOpen
  rcases held with off | low
  · rw [off, Bool.not_true, Bool.and_false]
  · rw [low, Bool.false_and]

theorem tap_open {dr : BitVec 32} (o : s.tapOpen = true) : s.tap ir dr = s.onJtag (fun j => { j with ir := ir, dr := dr }) := if_pos o

theorem tap_shut {dr : BitVec 32} (c : s.tapOpen = false) : s.tap ir dr = s := if_neg (by simp [c])

theorem tapOut_open (o : s.tapOpen = true) : s.tapOut ir = s.onJtag (fun j => { j with ir := ir, tainted := true }) := if_pos o

theorem tapOut_shut (c : s.tapOpen = false) : s.tapOut ir = s := if_neg (by simp [c])

/-- SAMPLE/PRELOAD spends a free value in both forms, and PRELOAD does not use it. -/
theorem jtagSamplePreload_open {preload : Bool} {value : Nat} (o : s.tapOpen = true) :
    exec (.jtagSamplePreload preload value) s = .next ((s.spend 1).onJtag
      (fun j => { j with ir := 2, boundary := if preload then value else (Config.freeValue s.freeCtr).toNat })) :=
  congrArg _ (if_neg (by simp [o]))

theorem jtagSamplePreload_shut {preload : Bool} {value : Nat} (c : s.tapOpen = false) :
    exec (.jtagSamplePreload preload value) s = .next s :=
  congrArg _ (if_pos (by simp [c]))

end

/-- Settles O21: each instruction by the open port, and all of them by the shut one. -/
theorem testAccessPortComplete : Obligations.TestAccessPortComplete := by
  refine ⟨?_, ?_, ?_, ?_, ?_, ?_, ?_, ?_⟩
  · intro s o
    exact congrArg _ (tap_open o)
  · intro s o
    exact ⟨idcodeWord, idcodeWord_part, congrArg _ (tap_open o)⟩
  · intro v s o
    exact jtagSamplePreload_open o
  · intro v s o
    exact ⟨_, jtagSamplePreload_open o⟩
  · intro s o
    exact congrArg _ (tapOut_open o)
  · intro s o
    exact congrArg _ (tapOut_open o)
  · intro s o
    exact congrArg _ (tapOut_open o)
  · intro s held
    have c := tapOpen_eq_false held
    exact ⟨congrArg _ (tap_shut c), congrArg _ (tap_shut c), congrArg _ (tapOut_shut c),
      congrArg _ (tapOut_shut c), congrArg _ (tapOut_shut c), fun _ _ => jtagSamplePreload_shut c⟩

/-! ## Supplies, the walk down and the rails -/

/-- A row inside the ratings answers the state that its effect gives. -/
theorem live_to {f : State → State} {s t : State} (hs : inRatings s) (ht : f s = t) : live s f = .next t :=
  (live_in s f hs).trans (congrArg _ ht)

theorem freeBelow_lt {bound : Nat} (k : Nat) (s : State) (h : 0 < bound) : s.freeBelow k bound < bound := Nat.mod_lt _ h

/-- A supply that falls stands below 18.0 V, whether it stood there already or not. -/
theorem supplyFalls_lt {mv free : Nat} (h : free < 18000) : supplyFalls mv free < 18000 := by
  unfold supplyFalls
  split <;> assumption

/-- A supply is lost while the other stands: nothing changes but its voltage, the sharing and the free value spent. -/
theorem linkSupplyLost_carried {link : Nat} {s : State} (hs : inRatings s)
    (carried : 18000 ≤ if link = 0 then s.pwr.vlink1 else s.pwr.vlink0) :
    exec (.linkSupplyLost link) s = .next
      { s with
        freeCtr := s.freeCtr + 1
        pwr := { s.pwr with
          vlink0 := if link = 0 then supplyFalls s.pwr.vlink0 (s.freeBelow 0 18000) else s.pwr.vlink0
          vlink1 := if link = 1 then supplyFalls s.pwr.vlink1 (s.freeBelow 0 18000) else s.pwr.vlink1
          share := false } } := by
  change execLinkSupplyLost link s = _
  unfold execLinkSupplyLost
  exact live_to hs (if_neg (Nat.not_lt.mpr carried))

/-- Each rail that can collapse goes off in its own step of the walk. -/
theorem walkRails_railStep {rail : Nat} (h : [2, 4, 5, 6, 12, 13].contains rail = true) :
    (walkRails (railStep rail)).contains rail = true := by
  simp only [List.contains_eq_mem, List.mem_cons, List.not_mem_nil, or_false, decide_eq_true_eq] at h
  rcases h with rfl | rfl | rfl | rfl | rfl | rfl <;> rfl

/-- Settles O30: each row by the condition under which it acts, the free voltages by their bounds (log entry 30). -/
theorem suppliesAndRailsComplete : Obligations.SuppliesAndRailsComplete := by
  refine ⟨?_, ?_, ?_, ?_, ?_, ?_, ?_, ?_, ?_, ?_⟩
  · intro mv s hs
    exact live_in s _ hs
  · intro s hs carried
    exact ⟨_, supplyFalls_lt (freeBelow_lt 0 s (by decide)), linkSupplyLost_carried hs carried⟩
  · intro s hs carried
    exact ⟨_, supplyFalls_lt (freeBelow_lt 0 s (by decide)), linkSupplyLost_carried hs carried⟩
  · intro s hs
    exact live_in s _ hs
  · intro rail s hs walking off
    exact live_to hs (if_pos <| Bool.and_eq_true_iff.mpr ⟨decide_eq_true walking, off⟩)
  · intro rail s hs rails up
    exact live_to hs (if_pos <| Bool.and_eq_true_iff.mpr ⟨walkRails_railStep rails, decide_eq_true up⟩)
  · intro s hs waiting supplied
    exact live_to hs (if_pos <| by simp [waiting, supplied])
  · intro s hs mode waiting
    exact live_to hs (if_pos <| by simpa [mode] using waiting)
  · intro s hs gone up
    exact ⟨_, freeBelow_lt 0 s (by decide), live_to hs (if_pos <| by simp [gone, up])⟩
  · intro s hs waiting
    exact live_to hs (if_pos <| by simp [waiting])

end Sys2Proof.Proofs

/-!
PROOFS. Reset and bring-up: the firmware images and the end of Ledge (R152 to R154, R630 to R633, R923 to R933), the events of the start,
of BOOT_OK and of the wake (R115 to R163), and RESETN, the clocks and their compensation (R129 to R132, R254 to R263, R818).
-/

namespace Sys2Proof.Proofs

open Sys2Proof Sys2Proof.Machine Sys2Proof.Safety Sys2Proof.Laws

theorem coreActs_iff (s : State) : coreActs s = true ↔ inRatings s ∧ s.coreServes = true := by
  simp [coreActs, inRatings]

/-! ## Firmware images -/

section
variable {s : State} {h : Hdr} {session tag image : Nat}

/-- A reply uses no free value. -/
theorem answer_freeCtr_keeps (op st : Nat) (res : List Byte) (s : State) :
    { s.answer h op st res with freeCtr := s.freeCtr } = s.answer h op st res := rfl

theorem fwWriteBody_eq {offset : Nat} {bytes : List Byte} {u : State}
    (hu : u = (((s.fwSettled.onCfl (Cfl.onImage image (Image.write offset bytes))).accept h 0x71).onCfl
      (fun c => { c with fwWrite := some (h.session, h.tag, image) }))) :
    fwWriteBody h image offset bytes s = if offset / 65536 = (offset + bytes.length) / 65536 then
      (u.onCfl (Cfl.onImage image Image.writtenState)).fwWriteEnds stOk else u := by
  rw [hu]
  rfl

section
variable (hw : s.cfl.fwWrite = some (session, tag, image))
include hw

/-- The program of the block's entry needs energy, whatever the read-back found (R926; log entry 173). -/
theorem fwBlockDone_short {ok : Bool} (short : s.pwr.covers needFlash = false) : s.fwBlockDone ok = s.fwWriteEnds stEnergy := by
  unfold State.fwBlockDone
  simp only [hw, short, Bool.not_false, if_true]

theorem fwBlockDone_matches (energy : s.pwr.covers needFlash = true) :
    s.fwBlockDone true =
      (s.onCfl (Cfl.onImage image (fun x => (x.tabulate (s.cfl.image image).doneBlock).writtenState))).fwWriteEnds stOk := by
  unfold State.fwBlockDone
  simp only [hw, energy, Bool.not_true, Bool.false_eq_true, if_false, if_true]

theorem fwBlockDone_differs (energy : s.pwr.covers needFlash = true) :
    s.fwBlockDone false =
      (s.onCfl (Cfl.onImage image (fun x => { x.spoil (s.cfl.image image).doneBlock with dirState := 2 }))).fwWriteEnds stFailHw := by
  unfold State.fwBlockDone
  simp only [hw, energy, Bool.not_true, Bool.false_eq_true, if_false]

end

section
variable (hv : s.cfl.fwVerify = some (session, tag, image)) (mode : s.pwr.mode ≠ .ride) (energy : s.pwr.covers needFlash = true)
include hv mode energy

theorem fwVerified_passes (passes : (s.onCfl (Cfl.onImage image Image.lastBlock)).verifyFails image = none) :
    s.fwVerified = (((s.onCfl (Cfl.onImage image Image.lastBlock)).onCfl
      (Cfl.onImage image (fun x => { x with verState := 1 }))).fwVerifyEnds stOk) := by
  unfold State.fwVerified
  simp only [hv, mode, energy, passes, Bool.not_true, Bool.false_eq_true, if_false]

theorem fwVerified_fails {reason : Nat} (fails : (s.onCfl (Cfl.onImage image Image.lastBlock)).verifyFails image = some reason) :
    s.fwVerified = ((((s.onCfl (Cfl.onImage image Image.lastBlock)).onCfl
      (Cfl.onImage image (fun x => { x with verState := 2 }))).logEntry 0x000B
        [BitVec.ofNat 8 image, 3#8, BitVec.ofNat 8 reason]).fwVerifyEnds stFailVerify) := by
  unfold State.fwVerified
  simp only [hv, mode, energy, fails, Bool.not_true, Bool.false_eq_true, if_false]

end

theorem fwActivateBody_eq {later : Nat} {u : State}
    (hu : u = (s.select (fun c => { c with nextImg := image, trial := true, activations := (c.activations + 1) % 2 ^ 32 })).answer
      h 0x73 stOk []) :
    fwActivateBody h image later s = if later = 0 ∧ s.pwr.mode ≠ .ledge then u.coreReset 0xD else u := by
  unfold fwActivateBody
  simp only [hu, Bool.and_eq_true, decide_eq_true_eq]

end

/-- Settles O18: each command by its body, the ends of writes and checks by the outcome and the energy for it. -/
theorem firmwareCommandsComplete : Obligations.FirmwareCommandsComplete := by
  refine ⟨?_, ?_, ?_, ?_, ?_, ?_, ?_, ?_, ?_, ?_, ?_⟩
  · rintro h s a rfl r inImage
    refine (serve_runs h 0x70 _ _ _ s r).trans (congrArg _ ?_)
    rw [if_pos inImage]
    exact answer_freeCtr_keeps _ _ _ _
  · rintro h s a rfl r inLedge
    refine (serve_runs h 0x70 _ _ _ s r).trans (congrArg _ ?_)
    rw [if_neg (Nat.not_lt.mpr inLedge)]
  · rintro h image offset bytes s a u rfl r hu
    exact (serve_runs h 0x71 _ _ _ s r).trans (congrArg _ (fwWriteBody_eq hu))
  · intro s session tag image core hw energy
    exact (live_core s _ core).trans (congrArg _ (fwBlockDone_matches hw energy))
  · intro ok s session tag image core hw short
    exact (live_core s _ core).trans (congrArg _ (fwBlockDone_short hw short))
  · intro s session tag image core hw energy
    exact (live_core s _ core).trans (congrArg _ (fwBlockDone_differs hw energy))
  · rintro h image s a rfl r
    exact serve_runs h 0x72 _ _ _ s r
  · rintro s session tag image u core hv mode energy rfl passes
    exact (live_core s _ core).trans (congrArg _ (fwVerified_passes hv mode energy passes))
  · rintro s session tag image u reason core hv mode energy rfl fails
    exact (live_core s _ core).trans (congrArg _ (fwVerified_fails hv mode energy fails))
  · rintro h image later s a u rfl r hu
    exact (serve_runs h 0x73 _ _ _ s r).trans (congrArg _ (fwActivateBody_eq hu))
  · rintro h s a rfl r
    exact serve_runs h 0x76 _ _ _ s r

/-! ## The start, BOOT_OK and the wake -/

section
variable {s : State} {mv : Nat}

/-- A qualified VLINK0 is from 19.0 V: in Off with no wait it is power that arrives (R118). -/
theorem vlink0Comes_off (hv : 19000 ≤ mv) (off : s.pwr.mode = .off) (nowait : s.rstc.waiting = .none) :
    s.vlink0Comes mv = (s.onPwr (fun p => { p with vlink0 := mv }.shares)).powerOnReset 0 := by
  unfold State.vlink0Comes
  simp only [Nat.not_lt.mpr hv, off, nowait, if_false, decide_true, Bool.and_true, if_true]

/-- In the other modes it ends the wait for VLINK's return that it finds (R136, R207, R265). -/
theorem vlink0Comes_endsWait {a : State} (hv : 19000 ≤ mv) (on : s.pwr.mode ≠ .off)
    (ha : s.onPwr (fun p => { p with vlink0 := mv }.shares) = a) :
    (s.rstc.waiting = .vlinkDip → s.vlink0Comes mv = a.systemStart 0xF false false) ∧
    (s.rstc.waiting = .rideCollapse → s.vlink0Comes mv = a.systemStart 5 false false) ∧
    (s.rstc.waiting = .clkLoss → s.vlink0Comes mv = (a.onRstc (fun r => { r with waiting := .none })).tryBegin) := by
  unfold State.vlink0Comes
  simp only [Nat.not_lt.mpr hv, on, ha, if_false, decide_false, Bool.false_and, Bool.false_eq_true]
  refine ⟨?_, ?_, ?_⟩
  · intro hw
    rw [hw]
  · intro hw
    rw [hw]
  · intro hw
    rw [hw]

end

section
variable {s : State} {i : StepInfo} (hr : s.stepRuns = true)
include hr

/-- Steps 1, 3, 4, 5, 9 and 12 have no work but to wait for their condition (R115). -/
theorem stepComplete_waited (hk : [1, 3, 4, 5, 9, 12].contains s.rstc.step = true) : s.stepComplete i = s.stepDone s.rstc.step := by
  simp only [List.contains_eq_mem, List.mem_cons, List.not_mem_nil, or_false, decide_eq_true_eq] at hk
  unfold State.stepComplete
  rcases hk with e | e | e | e | e | e <;> simp only [hr, e, Bool.not_true, Bool.false_eq_true, if_false]

/-- Step 6 is met by two phases (R244). -/
theorem stepComplete_phases (hk : s.rstc.step = 6) (two : 2 ≤ phasesIn (i.phases % 16)) :
    s.stepComplete i = (s.phasesTested i.phases).stepDone 6 := by
  unfold State.stepComplete
  simp only [hr, hk, Nat.not_lt.mpr two, Bool.not_true, Bool.false_eq_true, if_false]

theorem stepComplete_options (hk : s.rstc.step = 7) : s.stepComplete i = (s.optionLoad i.straps).stepDone 7 := by
  unfold State.stepComplete
  simp only [hr, hk, Bool.not_true, Bool.false_eq_true, if_false]

theorem stepComplete_clocks (hk : s.rstc.step = 8) : s.stepComplete i = s.pllLocked.stepDone 8 := by
  unfold State.stepComplete
  simp only [hr, hk, Bool.not_true, Bool.false_eq_true, if_false]

theorem stepComplete_core (hk : s.rstc.step = 10) : s.stepComplete i = s.startCore s.imageToRun := by
  unfold State.stepComplete
  simp only [hr, hk, Bool.not_true, Bool.false_eq_true, if_false]

theorem stepComplete_return (hk : s.rstc.step = 15) (ret : s.rstc.order = .rideReturn) : s.stepComplete i = s.rideReturned := by
  unfold State.stepComplete
  simp only [hr, hk, ret, Bool.not_true, Bool.false_eq_true, if_false, if_true]

/-- The limit of a step from 1 to 9 ends the attempt (R145). -/
theorem releaseStepLimitExpiry_fails (hs : inRatings s) (early : s.rstc.step < 10) :
    exec .releaseStepLimitExpiry s = .next s.stepFails := by
  change execReleaseStepLimitExpiry s = _
  unfold execReleaseStepLimitExpiry
  rw [live_in s _ hs]
  simp only [hr, early, Bool.not_true, Bool.false_eq_true, if_false, if_true]

end

/-- Settles O28: a completed step by the step, the qualified supply by the wait it ends, every other event by its condition. -/
theorem bringUpEventsComplete : Obligations.BringUpEventsComplete := by
  refine ⟨?_, ?_, ?_, ?_, ?_, ?_, ?_, ?_, ?_, ?_, ?_, ?_, ?_, ?_, ?_, ?_, ?_⟩
  · intro mv s hv off nowait
    exact congrArg _ (vlink0Comes_off hv off nowait)
  · intro mv s a hv on ha
    obtain ⟨dip, collapse, clock⟩ := vlink0Comes_endsWait hv on ha
    exact ⟨fun hw => congrArg _ (dip hw), fun hw => congrArg _ (collapse hw), fun hw => congrArg _ (clock hw)⟩
  · intro i s hs hr hk
    exact live_to hs (stepComplete_waited hr hk)
  · intro i s hs hr hk two
    exact live_to hs (stepComplete_phases hr hk two)
  · intro i s hs hr hk
    exact live_to hs (stepComplete_options hr hk)
  · intro i s hs hr hk
    exact live_to hs (stepComplete_clocks hr hk)
  · intro i s hs hr hk
    exact live_to hs (stepComplete_core hr hk)
  · intro i s hs hr hk ret
    exact live_to hs (stepComplete_return hr hk ret)
  · intro s hs order gap walk pin
    exact live_to hs (if_pos <| by simp [order, gap, walk, pin])
  · intro s hs hr early
    exact releaseStepLimitExpiry_fails hr hs early
  · intro s hs order backoff pin
    exact live_to hs (if_pos <| by simp [order, backoff, pin])
  · intro s hs waiting walk
    exact live_to hs (if_pos <| by simp [waiting, walk])
  · intro s hs boots
    exact live_to hs (if_pos boots)
  · intro s core due mode
    obtain ⟨hs, serves⟩ := (coreActs_iff s).mp core
    exact live_to hs (if_pos <| by simp [serves, due, mode])
  · intro s hs up outage
    exact live_to hs (if_pos <| by simp [up, outage])
  · intro ticks s hs standby armed order walk
    exact live_to hs (if_pos <| by simp [standby, armed, order, walk])
  · intro s hs
    exact live_in s _ hs

/-! ## RESETN -/

section
variable {s : State} {w : Nat}

theorem resetnTaken_long (long : 2200 ≤ w) : s.resetnTaken w = true := by
  simp [State.resetnTaken, long]

theorem resetnTaken_short (short : w < 2000) : s.resetnTaken w = false := by
  simp [State.resetnTaken, show ¬ 2200 ≤ w by omega, show ¬ 2000 ≤ w by omega]

/-- A pulse on a pin that is high spends a free value, and is a SYSTEM reset when it is taken as one (R129, R130; log entry 14). -/
theorem resetnAssert_high (high : s.rstc.resetnLow = false) :
    exec (.resetnAssert w) s = .next (if s.resetnTaken w then
      ((({ s with freeCtr := s.freeCtr + 1 } : State).onRstc (fun r => { r with resetnLow := true })).systemReset 2 false)
      else { s with freeCtr := s.freeCtr + 1 }) := by
  change execResetnAssert w s = _
  unfold execResetnAssert
  rw [if_neg (by simp [high])]
  exact (apply_ite Host.Outcome.next _ _ _).symm

end

/-! ## The clocks -/

section
variable {s : State}

theorem clockLoss_powered (mode : s.pwr.mode ≠ .powerDown) : s.clockLoss = s.systemReset 3 false := if_neg mode

theorem clockLoss_powerDown (mode : s.pwr.mode = .powerDown) : s.clockLoss = s.clockLossDown := if_pos mode

/-- PLL_LOCK_LOSS counts from 2 µs and once step 8 has been passed (R262). -/
theorem pllLockLoss_counts {w : Nat} (hs : inRatings s) (long : 2000 ≤ w) (locked : 8 ≤ s.rstc.rails) :
    exec (.pllLockLoss w) s = .next s.clockLoss :=
  live_to hs (if_pos <| by simp [long, locked])

/-- The monitor acts on a window outside 17 to 33 toggles while it watches (R263). -/
theorem clockMonitorWindow_outside {n : Nat} (hs : inRatings s) (outside : n < 17 ∨ 33 < n) (watched : s.clockWatched = true) :
    exec (.clockMonitorWindow n) s = .next s.clockLoss :=
  live_to hs (if_pos <| by simp [outside, watched])

/-- An update with the crystal's sensor valid moves the correction and takes each trim whose sensor is valid (R254 to R258, R818). -/
theorem compUpdate_valid {bias c p : Int} (valid : s.thm.validNow 6 = true) :
    s.compUpdate bias c p = s.onTb (fun b =>
      { b with
        compHold := false
        target := s.compTarget
        corr := if b.firstComp then s.compTarget else b.corr + clamp (-5) 5 (s.compTarget - b.corr)
        firstComp := false
        biasTrim := if s.thm.validNow 1 then bias else b.biasTrim
        cdieTrim := c
        pdieTrim := if s.thm.validNow 7 then p else b.pdieTrim }) := by
  unfold State.compUpdate Tbase.compensate
  simp only [valid, if_true]

end

/-- Settles O29: RESETN by the width of its pulse, a lost clock by the mode, the compensation by its update. -/
theorem resetPinAndClocksComplete : Obligations.ResetPinAndClocksComplete := by
  refine ⟨?_, ?_, ?_, ?_, ?_, ?_, ?_, ?_, ?_⟩
  · intro w s high long
    rw [resetnAssert_high high, if_pos (resetnTaken_long long)]
  · intro w s high short
    rw [resetnAssert_high high, if_neg (by simp [resetnTaken_short short])]
  · intro s
    rfl
  · intro w s hs long locked mode
    rw [pllLockLoss_counts hs long locked, clockLoss_powered mode]
  · intro n s hs outside watched mode
    rw [clockMonitorWindow_outside hs outside watched, clockLoss_powered mode]
  · intro w s hs long locked mode
    rw [pllLockLoss_counts hs long locked, clockLoss_powerDown mode]
  · intro n s hs outside watched mode
    rw [clockMonitorWindow_outside hs outside watched, clockLoss_powerDown mode]
  · intro tick bias c p s core valid
    obtain ⟨hs, serves⟩ := (coreActs_iff s).mp core
    exact live_to hs ((if_pos serves).trans (compUpdate_valid (s := s.atTick tick) valid))
  · intro n s hs ref
    exact live_to hs (if_pos ref)

end Sys2Proof.Proofs

/-!
PROOFS. Power-down and Ride-through: the thermal and power reports and their settings (R197, R205, R629, R820, R821), the entry to
Ride-through and its ends (R194 to R214), and the core converter and the hold-up capacitor (R222 to R249).
-/

namespace Sys2Proof.Proofs

open Sys2Proof Sys2Proof.Machine Sys2Proof.Safety Sys2Proof.Laws

/-! ## Thermal and power commands -/

/-- Settles O25: each command by its body, which reads what it reports before it replaces or spends it. -/
theorem thermalAndPowerCommandsComplete : Obligations.ThermalAndPowerCommandsComplete := by
  refine ⟨?_, ?_, ?_, ?_⟩
  · rintro h s a rfl r
    exact serve_runs h 0x60 _ _ _ s r
  · rintro h level s a rfl r
    exact serve_runs h 0x61 _ _ _ s r
  · rintro h s a rfl r
    exact serve_runs h 0x62 _ _ _ s r
  · rintro h ms s a rfl r
    exact serve_runs h 0x63 _ _ _ s r

/-! ## Ride-through -/

section
variable {s : State} {vhold tick : Nat}

theorem riding_iff : s.riding = true ↔ s.pwr.mode = .ride ∧ s.rstc.order = .none := by
  simp [State.riding]

/-- The time that an event reaches and the supplies that it measures begin no return and end no Ride-through. -/
theorem riding_onPwr_atTick {f : Pwr → Pwr} (hf : (f s.pwr).mode = s.pwr.mode) :
    ((s.atTick tick).onPwr f).riding = s.riding :=
  congrArg (fun m => decide (m = ModState.ride) && decide (s.rstc.order = .none)) hf

/-- A return of VLINK while no return has begun: the expiry, of the set period or by the energy, prevails in its AON tick (R206, R208). -/
theorem vlinkReturn_riding {mv0 mv1 : Nat} {a : State} (hs : inRatings s) (qualified : 19000 ≤ max mv0 mv1) (riding : s.riding = true)
    (ha : (s.atTick tick).onPwr (fun p => { p with vlink0 := mv0, vlink1 := mv1, vhold := vhold }.shares) = a) :
    exec (.vlinkReturn mv0 mv1 vhold tick) s = .next
      (if s.pwr.rideDue / 100 ≤ s.instant tick / 100 ∨ a.pwr.reserved = true then a.rideExpires (s.instant tick)
        else a.rideReturns (s.instant tick)) := by
  have ariding : a.riding = true := by
    rw [← ha, riding_onPwr_atTick rfl, riding]
  have due : a.pwr.rideDue = s.pwr.rideDue := by
    rw [← ha]
    rfl
  change execVlinkReturn mv0 mv1 vhold tick s = _
  unfold execVlinkReturn
  refine live_to hs ?_
  simp only [ha, Nat.not_lt.mpr qualified, ariding, due, if_false, if_true, Bool.or_eq_true, decide_eq_true_eq]

theorem rideRetryExpiry_due (hs : inRatings s) (riding : s.riding = true) (due : s.pwr.rideDue ≤ s.instant tick) :
    exec (.rideRetryExpiry vhold tick) s = .next
      (((s.atTick tick).onPwr (fun p => { p with vhold := vhold })).rideExpires (s.instant tick)) :=
  live_to hs (if_pos <| by simp [riding, due])

theorem rideEnergyReserve_riding (hs : inRatings s) (riding : s.riding = true) {a : State}
    (ha : (s.atTick tick).onPwr (fun p => { p with vhold := vhold }) = a) :
    exec (.rideEnergyReserve vhold tick) s = .next (if a.pwr.reserved then a.rideExpires (s.instant tick) else a) := by
  subst ha
  exact live_to hs (if_pos <| by simp [riding])

end

/-- Settles O31: the entry by its own condition, each end of the wait by the Ride-through that stands. -/
theorem rideThroughEventsComplete : Obligations.RideThroughEventsComplete := by
  refine ⟨?_, ?_, ?_, ?_⟩
  · intro vhold tick s hs opened
    exact live_to hs (if_pos opened)
  · intro mv0 mv1 vhold tick s a hs qualified mode order ha
    exact vlinkReturn_riding hs qualified (riding_iff.mpr ⟨mode, order⟩) ha
  · intro vhold tick s hs mode order due
    exact rideRetryExpiry_due hs (riding_iff.mpr ⟨mode, order⟩) due
  · intro vhold tick s a hs mode order ha
    exact rideEnergyReserve_riding hs (riding_iff.mpr ⟨mode, order⟩) ha

/-! ## The core converter and the hold-up measurement -/

/-- A fall that gives C_meas within its 16 bits uses no free value (R222, R247). -/
theorem measured_fits {free delta : Nat} (falls : 0 < delta) (fits : roundDiv 1000000000 delta ≤ 0xFFFF) :
    measured free delta = roundDiv 1000000000 delta :=
  if_neg <| by simp [Nat.ne_of_gt falls, Nat.not_lt.mpr fits]

/-- The measurement in progress ends with C_meas of the fall and ESR of the drop (R222, R223). -/
theorem holdupMeasurementEnd_measuring {s : State} {delta drop : Nat} (hs : inRatings s) (measuring : s.pwr.measuring = some drop) :
    exec (.holdupMeasurementEnd delta) s = .next
      { s with
        freeCtr := s.freeCtr + 1
        pwr := { s.pwr with
          measuring := none
          cmeas := measured (Config.freeValue s.freeCtr).toNat delta
          cmeasValid := true
          esr := min 0xFF (roundDiv drop 250) } } := by
  change execHoldupMeasurementEnd delta s = _
  unfold execHoldupMeasurementEnd
  refine live_to hs ?_
  rw [measuring]

/-- Settles O32: each event by the condition under which it acts, the end of a measurement by the fall that fits C_meas. The level in
EV_PHASE_LOST is the one in force at the removal (log entry 37). -/
theorem converterAndHoldupComplete : Obligations.ConverterAndHoldupComplete := by
  refine ⟨?_, ?_, ?_, ?_, ?_⟩
  · rintro phase kind s u n hs inRange healthy powered rfl rfl
    exact live_to hs (if_pos <| by simp [inRange, healthy, powered])
  · intro ma s hs three overload rest powered
    exact live_to hs (if_pos <| by simp [three, overload, rest, powered])
  · intro ma s hs three overload begun short
    exact live_to hs (if_pos <| by simp [three, overload, begun, short])
  · intro vhold drop s hs charged supplied core order notLedge
    exact live_to hs (if_pos <| by simp [charged, supplied, core, order, notLedge])
  · intro delta drop s hs measuring falls fits
    rw [holdupMeasurementEnd_measuring hs measuring, measured_fits falls fits]

end Sys2Proof.Proofs

/-!
PROOFS. Clocks and timebase: the compensation of the reference (R254 to R258), the heartbeats, the replay of replies, telemetry and the end
of in-flight entries (R277, R279, R513, R517, R546, R962), and what a configuration command or a register clear leaves of every unit but
its own (R275, R566, R602, R611 to R634, R698).
-/

namespace Sys2Proof.Proofs

open Sys2Proof Sys2Proof.Machine Sys2Proof.Safety Sys2Proof.Laws

/-! ## The frame of a command -/

section
variable {α : Type} {on : (α → α) → State → State} {part : State → α} {u t s : State}

/-- Beside a command's traffic the two states differ in one part alone: they are the same once that part is put back, whichever state `z`
it and the traffic are taken from. -/
def SameBut (on : (α → α) → State → State) (part : State → α) (t s : State) : Prop :=
  ∀ z, on (fun _ => part z) (beside t z) = on (fun _ => part z) (beside s z)

theorem SameBut.trans (h : SameBut on part u t) (g : SameBut on part t s) : SameBut on part u s :=
  fun z => (h z).trans (g z)

/-- States that differ by traffic alone stay the same when one more part is put back. -/
theorem sameBut_of_sameUnits (h : sameUnits t s) : SameBut on part t s :=
  fun z => (congrArg (fun x => on (fun _ => part z) (beside x z)) h :)

/-- A reply after the change of a part changes nothing more. -/
theorem SameBut.answer {h : Hdr} {op st : Nat} {res : List Byte} (hf : SameBut on part t s) :
    SameBut on part (t.answer h op st res) s :=
  (sameBut_of_sameUnits (answer_onlyTraffic h op st res t).1).trans hf

/-- A command that comes in has its traffic, and after it either its effect or none. -/
theorem serveAs_effect_or_not (i : Intake) (h : Hdr) (op : Nat) (cmd : Instr) (gate : State → Gate) (body : State → State) (s : State) :
    ∃ u, OnlyTraffic u s ∧ (serveAs i h op cmd gate body s = u ∨ serveAs i h op cmd gate body s = body u) := by
  refine ⟨serveAs i h op cmd gate id s, serveAs_onlyTraffic i h op cmd gate id s .refl, ?_⟩
  cases i with
  | take dup =>
    unfold serveAs
    dsimp only
    split
    · exact .inl rfl
    · exact .inr rfl
  | _ => exact .inl rfl

variable {h : Hdr} {op a v : Nat} {cmd : Instr} {gate : State → Gate} {body f : State → State}

/-- A served row changes one part when its effect does, whatever becomes of the command. -/
theorem live_serve_sameBut (e : live s (serve h op cmd gate body) = .next t) (hb : ∀ u, SameBut on part (body u) u) :
    SameBut on part t s := by
  cases hs : s.jtag.tainted with
  | true => cases (live_out s _ hs).symm.trans e
  | false =>
    cases (live_in s _ hs).symm.trans e
    unfold serve
    obtain ⟨u, hu, he⟩ := serveAs_effect_or_not (intake h op (s.atTick h.tick)) h op cmd gate body (s.atTick h.tick)
    have traffic : SameBut on part u s := sameBut_of_sameUnits (hu.trans (atTick_onlyTraffic _ s)).1
    rcases he with same | effect
    · exact same ▸ traffic
    · exact effect ▸ (hb u).trans traffic

/-- The same of the row of a single register of the C die that is no policy: its effect is that of the register. -/
theorem live_regWriteServe_sameBut (e : live s (regWriteServe h a v cmd) = .next t)
    (ha : (isSensSetting a || a = 0x40010004 || a = 0x40010008) = false) (hw : ∀ u : State, u.regWrite a v = .ok (f u))
    (hf : ∀ u, SameBut on part (f u) u) : SameBut on part t s := by
  simp only [Bool.or_eq_false_iff, decide_eq_false_iff_not] at ha
  obtain ⟨⟨hsens, htier⟩, henable⟩ := ha
  refine live_serve_sameBut e (fun u => ?_)
  rw [regWriteBody_ok (by rw [hsens]; rfl) htier henable (hw u)]
  exact (hf u).answer

end

/-! ## What the effects change -/

section
variable {h : Hdr} {s : State}

/-! A part that is replaced changes alone. -/

theorem onEnc_sameBut {f : Enc → Enc} : SameBut State.onEnc State.enc (s.onEnc f) s := fun _ => rfl

theorem onTrig_sameBut {f : Trig → Trig} : SameBut State.onTrig State.trig (s.onTrig f) s := fun _ => rfl

theorem onGang_sameBut {f : Gang → Gang} : SameBut State.onGang State.gang (s.onGang f) s := fun _ => rfl

theorem onPipe_sameBut {f : Pipe → Pipe} : SameBut State.onPipe State.pipe (s.onPipe f) s := fun _ => rfl

theorem onStreams_sameBut {f : List Stream → List Stream} : SameBut State.onStreams State.streams (s.onStreams f) s := fun _ => rfl

theorem onCal_sameBut {f : CalState → CalState} : SameBut State.onCal State.cal (s.onCal f) s := fun _ => rfl

theorem onThm_sameBut {f : Thm → Thm} : SameBut State.onThm State.thm (s.onThm f) s := fun _ => rfl

theorem onPwr_sameBut {f : Pwr → Pwr} : SameBut State.onPwr State.pwr (s.onPwr f) s := fun _ => rfl

theorem onAct_sameBut {f : Act → Act} : SameBut State.onAct State.act (s.onAct f) s := fun _ => rfl

theorem onPsto_sameBut {f : Psto → Psto} : SameBut State.onPsto State.psto (s.onPsto f) s := fun _ => rfl

theorem onHaul_sameBut {f : Haul → Haul} : SameBut State.onHaul State.haul (s.onHaul f) s := fun _ => rfl

theorem onRstc_sameBut {f : Rstc → Rstc} : SameBut State.onRstc State.rstc (s.onRstc f) s := fun _ => rfl

theorem onFuse_sameBut {f : Fuse → Fuse} : SameBut State.onFuse State.fuse (s.onFuse f) s := fun _ => rfl

theorem onSess_sameBut {f : Sess → Sess} : SameBut State.onSess State.sess (s.onSess f) s := fun _ => rfl

theorem onCxp_sameBut {f : Cxp → Cxp} : SameBut State.onCxp State.cxp (s.onCxp f) s := fun _ => rfl

/-- QUALITY_CONFIG changes the streams, and spends the free value of the mask it reports (R603; log entry 2). -/
theorem qualityBody_sameBut {qmask : Nat} : SameBut State.onStreams State.streams (qualityBody h qmask s) s :=
  ((sameBut_of_sameUnits (freeCtr_onlyTraffic _ _).1).trans onStreams_sameBut).answer

/-- The host watchdog is configured anew, or stands as it is asked for already (R602, R787). -/
theorem wdgApply_sameBut {period enable : Nat} : SameBut State.onWdg State.wdg (s.wdgApply period enable) s := by
  unfold State.wdgApply
  split
  · exact fun _ => rfl
  · exact fun _ => rfl

/-- The latch of TBASE.NOW_HI is the timebase's (R275). -/
theorem latchNow_sameUnits (l : List Nat) : sameUnits (s.latchNow l) s := by
  unfold State.latchNow
  split
  · rfl
  · rfl

/-- A read of words answers with them; one of the S die is an access of the Haul link (R358, R630). -/
theorem regReadBody_sameBut {a n : Nat} : SameBut State.onHaul State.haul (regReadBody h a n s) s := by
  cases hl : isSens a && s.pathOpen with
  | true =>
    obtain ⟨ha, hp⟩ := Bool.and_eq_true_iff.mp hl
    rw [regReadBody_overLink ha hp]
    exact fun _ => rfl
  | false =>
    rw [regReadBody_words hl]
    exact (sameBut_of_sameUnits (latchNow_sameUnits _)).answer

/-- The read of TBASE.NOW_LO is of the C die: it changes the timebase alone. -/
theorem nowLoReadBody_sameBut : SameBut State.onTb State.tb (regReadBody h 0x40001800 1 s) s := by
  rw [regReadBody_words rfl]
  exact (sameBut_of_sameUnits (latchNow_sameUnits _)).answer

end

/-- Settles O47: each row by the one part that its effect changes, put back from `s`; the parts of CLAIM, RELEASE, the host watchdog, the
link's discards and the timebase are traffic themselves. -/
theorem commandFrames : Obligations.CommandFrames := by
  refine ⟨?_, ?_, ?_, ?_, ?_, ?_, ?_, ?_, ?_, ?_, ?_, ?_, ?_, ?_, ?_, ?_, ?_, ?_, ?_, ?_, ?_, ?_, ?_, ?_, ?_, ?_, ?_, ?_, ?_, ?_, ?_⟩
  · intro h p s t e
    exact (live_serve_sameBut e (fun _ => onEnc_sameBut.answer) :) s
  · intro h first es s t e
    exact (live_serve_sameBut e (fun _ => onEnc_sameBut.answer) :) s
  · intro h v s t e
    exact (live_regWriteServe_sameBut e (by decide) (fun _ => rfl) (fun _ => onEnc_sameBut) :) s
  · intro h p s t e
    exact (live_serve_sameBut e (fun _ => onTrig_sameBut.answer) :) s
  · intro h v s t e
    exact (live_regWriteServe_sameBut e (by decide) (fun _ => rfl) (fun _ => onTrig_sameBut) :) s
  · intro h members rule s t e
    exact (live_serve_sameBut e (fun _ => onGang_sameBut.answer) :) s
  · intro h eps tr s t e
    exact (live_serve_sameBut e (fun _ => onPipe_sameBut.answer) :) s
  · intro h v s t e
    exact (live_regWriteServe_sameBut e (by decide) (fun _ => rfl) (fun _ => onPipe_sameBut) :) s
  · intro h q s t e
    exact (live_serve_sameBut e (fun _ => qualityBody_sameBut) :) s
  · intro h b m s t e
    exact (live_serve_sameBut e (fun _ => onCal_sameBut.answer) :) s
  · intro h ms s t e
    exact (live_serve_sameBut e (fun _ => onCal_sameBut.answer) :) s
  · intro h l s t e
    exact (live_serve_sameBut e (fun _ => onThm_sameBut.answer) :) s
  · intro h v s t e
    exact (live_regWriteServe_sameBut e (by decide) (fun _ => rfl) (fun _ => onThm_sameBut) :) s
  · intro h ms s t e
    exact (live_serve_sameBut e (fun _ => onPwr_sameBut.answer) :) s
  · intro h v s t e
    exact (live_regWriteServe_sameBut e (by decide) (fun _ => rfl) (fun _ => onPwr_sameBut) :) s
  · intro h ch c s t e
    exact (live_serve_sameBut e (fun _ => onAct_sameBut.answer) :) s
  · intro h q first ws s t e
    exact (live_serve_sameBut e (fun _ => onAct_sameBut.answer) :) s
  · intro h code s t e
    exact (live_serve_sameBut e (fun _ => onPsto_sameBut.answer) :) s
  · intro h offset count s t e
    exact (live_serve_sameBut e (fun _ => onPsto_sameBut.answer) :) s
  · intro h v s t e
    exact (live_regWriteServe_sameBut e (by decide) (fun _ => rfl) (fun _ => onPsto_sameBut) :) s
  · intro h v s t e
    exact (live_regWriteServe_sameBut e (by decide) (fun _ => rfl) (fun _ => onHaul_sameBut) :) s
  · intro h v s t e
    exact (live_regWriteServe_sameBut e (by decide) (fun _ => rfl) (fun _ => onHaul_sameBut) :) s
  · intro h a n s t e
    exact (live_serve_sameBut e (fun _ => regReadBody_sameBut) :) s
  · intro h v s t e
    exact (live_regWriteServe_sameBut e (by decide) (fun _ => rfl) (fun _ => onRstc_sameBut) :) s
  · intro h v s t e
    exact (live_regWriteServe_sameBut e (by decide) (fun _ => rfl) (fun _ => onFuse_sameBut) :) s
  · intro h code s t e
    exact (live_serve_sameBut e (fun _ => onSess_sameBut.answer) :) s
  · intro h code holder s t e
    exact (live_serve_sameBut e (fun _ => onSess_sameBut.answer) :) s
  · intro h period enable s t e
    exact (live_serve_sameBut e (fun _ => wdgApply_sameBut.answer) :) s
  · intro h v s t e
    exact (live_regWriteServe_sameBut e (by decide) (fun _ => rfl) (fun _ => wdgApply_sameBut) :) s
  · intro h v s t e
    exact (live_regWriteServe_sameBut e (by decide) (fun _ => rfl) (fun _ => onCxp_sameBut) :) s
  · intro h s t e
    exact (live_serve_sameBut e (fun _ => nowLoReadBody_sameBut) :) s

/-! ## The compensation of the reference -/

section
variable (k : Nat) (b : Tbase)

@[simp] theorem reach_corr : (b.reach k).corr = b.corr := (congrArg Tbase.corr (reach_butNow k b) :)

@[simp] theorem reach_target : (b.reach k).target = b.target := (congrArg Tbase.target (reach_butNow k b) :)

@[simp] theorem reach_firstComp : (b.reach k).firstComp = b.firstComp := (congrArg Tbase.firstComp (reach_butNow k b) :)

end

/-- A distance cut to a bound on both sides does not overshoot, and is covered whole within the bound. -/
theorem clamp_approaches {n d : Int} (hn : 0 ≤ n) :
    (0 ≤ d → 0 ≤ clamp (-n) n d ∧ clamp (-n) n d ≤ d ∧ clamp (-n) n d ≤ n) ∧
    (d ≤ 0 → clamp (-n) n d ≤ 0 ∧ d ≤ clamp (-n) n d ∧ -n ≤ clamp (-n) n d) ∧
    (-n ≤ d → d ≤ n → clamp (-n) n d = d) := by
  unfold clamp
  split
  · omega
  · split <;> omega

section
variable {tick : Nat} {bias cdie pdie : Int} {s : State}

/-- An update while the core serves is one of the timebase at its tick (R258). -/
theorem compensationUpdate_serves (hs : inRatings s) (serves : s.coreServes = true) :
    exec (.compensationUpdate tick bias cdie pdie) s = .next ((s.atTick tick).compUpdate bias cdie pdie) :=
  live_to hs (if_pos serves)

/-- In a core outage it does nothing (R938). -/
theorem compensationUpdate_outage (hs : inRatings s) (outage : s.coreServes = false) :
    exec (.compensationUpdate tick bias cdie pdie) s = .next s :=
  live_to hs (if_neg (by simp [outage]))

section
variable (valid : s.thm.validNow 6 = true)
include valid

/-- With the crystal's sensor valid the target is the one computed (R254, R255). -/
theorem compUpdate_target : ((s.atTick tick).compUpdate bias cdie pdie).tb.target = s.compTarget := by
  rw [compUpdate_valid (s := s.atTick tick) valid]
  rfl

theorem compUpdate_firstComp : ((s.atTick tick).compUpdate bias cdie pdie).tb.firstComp = false := by
  rw [compUpdate_valid (s := s.atTick tick) valid]
  rfl

/-- The first update takes the target at once (R256), each other goes toward it by at most 0.05 ppm (R255). -/
theorem compUpdate_corr : ((s.atTick tick).compUpdate bias cdie pdie).tb.corr =
    if s.tb.firstComp then s.compTarget else s.tb.corr + clamp (-5) 5 (s.compTarget - s.tb.corr) := by
  rw [compUpdate_valid (s := s.atTick tick) valid, ← reach_firstComp tick s.tb, ← reach_corr tick s.tb]
  rfl

end

/-- Without a valid reading the correction and its target hold (R257). -/
theorem compUpdate_holds (invalid : s.thm.validNow 6 = false) :
    ((s.atTick tick).compUpdate bias cdie pdie).tb.corr = s.tb.corr ∧
      ((s.atTick tick).compUpdate bias cdie pdie).tb.target = s.tb.target := by
  simp [State.compUpdate, Tbase.compensate, State.atTick, invalid]

end

/-- Settles O53: a valid update by the correction that it gives, the others by what they hold. -/
theorem compensationSteps : Obligations.CompensationSteps := by
  refine ⟨?_, ?_, ?_⟩
  · rintro target tick bias cdie pdie s hs serves valid later rfl
    refine ⟨_, compensationUpdate_serves hs serves, rfl, compUpdate_target valid, ?_⟩
    rw [compUpdate_corr valid, later, if_neg Bool.false_ne_true]
    obtain ⟨up, down, near⟩ := clamp_approaches (n := 5) (d := s.compTarget - s.tb.corr) (by decide)
    omega
  · intro tick bias cdie pdie s hs serves valid first
    exact ⟨_, compensationUpdate_serves hs serves, (compUpdate_corr valid).trans (if_pos first), compUpdate_firstComp valid⟩
  · intro tick bias cdie pdie s hs held
    cases serves : s.coreServes with
    | false => exact ⟨s, compensationUpdate_outage hs serves, rfl, rfl⟩
    | true =>
      have invalid : s.thm.validNow 6 = false := held.resolve_left (by simp [serves])
      exact ⟨_, compensationUpdate_serves hs serves, compUpdate_holds invalid⟩

/-! ## Heartbeats, replay, telemetry and in-flight entries -/

/-- Settles O23: each row by the condition under which it acts. -/
theorem heartbeatsRepliesAndTelemetryComplete : Obligations.HeartbeatsRepliesAndTelemetryComplete := by
  refine ⟨?_, ?_, ?_, ?_, ?_⟩
  · intro link host tick s hs up
    exact live_to hs (if_pos up)
  · intro tick s hs
    change execHeartbeatSend tick s = _
    unfold execHeartbeatSend
    exact live_in s _ hs
  · intro s hs up notRide
    exact live_to hs (if_pos <| by simp [up, notRide])
  · intro session s core inRange opened asked room up
    exact (live_core s _ core).trans (congrArg _ (if_pos <| by simp [inRange, opened, asked, room, up]))
  · intro session tag s hs up
    exact live_to hs (if_pos up)

end Sys2Proof.Proofs

/-!
PROOFS. Sensor die readout: what the readout and the pipeline are set to (R289, R304, R374, R409, R413, R608, R610), the calibrations with
their captures and updates (R320 to R327, R438 to R489, R611 to R614), and the frames, the rows, the Sieve and the reload of records (R296
to R300, R331, R396, R423 to R430).
-/

namespace Sys2Proof.Proofs

open Sys2Proof Sys2Proof.Machine Sys2Proof.Safety Sys2Proof.Laws

/-! ## Settings of the readout and of the pipeline -/

section
variable {h : Hdr} {s : State}

/-- The converter turns away nothing while its step is one that a command allows (R243). -/
theorem convShort_allows {allowed : Nat} (le : s.pwr.convStep ≤ allowed) : s.convShort allowed = none := if_neg (by omega)

theorem configBody_admitted {p : ReadoutP} {l : List Counted} (admits : s.admitConfig (configTarget p s.rd.cfg) = .ok l) :
    configBody h p s =
      (s.configure (configTarget p s.rd.cfg) l).answer h 0x15 stOk (le 4 (configTarget p s.rd.cfg).minPeriod) := by
  unfold configBody
  dsimp only
  rw [admits]

theorem armBody_disarms : armBody h 0 s = s.haltAllAtEnd.answer h 0x16 stOk [] := if_pos rfl

/-- READOUT_ARM arms a disarmed readout, and an armed one is then armed by it (R606, R610; log entry 54). -/
theorem armBody_arms (starts : s.startShort = none) :
    armBody h 1 s = ((if s.rd.isArmed = true then s.onRd (fun r => { r with armedBy := .readoutArm, disarmDue := false })
      else s.rdArm .readoutArm).enter .run).answer h 0x16 stOk [] := by
  unfold armBody
  rw [if_neg (by decide), starts]

theorem snapBody_accepted {stream count : Nat} (conv : s.convShort 2 = none) :
    snapBody h stream count s = (s.onStream stream
      (fun x => { x with running := true, snap := some (h.session, h.tag, count, 0, 0) })).accept h 0x17 := by
  unfold snapBody
  rw [conv]

/-- A sharpness above 0 asks for a converter with no step in force (R243, R409). -/
theorem pipeBody_stores {sharp bypass : Nat} (can : s.pwr.convStep = 0 ∨ sharp = 0) :
    pipeBody h sharp bypass s = (s.onPipe (fun p => { p with sharp := sharp, bypass := bypass })).answer h 0x18 stOk [] := by
  have allowed : (if 0 < sharp then s.convShort 0 else none) = none := by
    split
    · next sharpens => exact convShort_allows (by omega)
    · rfl
  unfold pipeBody
  rw [allowed]

end

/-- Settles O8: each command by its body, READOUT_ARM by what it finds the readout in. -/
theorem readoutCommandsComplete : Obligations.ReadoutCommandsComplete := by
  refine ⟨?_, ?_, ?_, ?_, ?_, ?_, ?_⟩
  · rintro h p s a l rfl r admits
    exact (serve_runs h 0x15 _ _ _ s r).trans (congrArg _ (configBody_admitted admits))
  · rintro h wait s a rfl r
    exact (serve_runs h 0x16 _ _ _ s r).trans (congrArg _ armBody_disarms)
  · rintro h wait s a rfl r starts disarmed
    refine (serve_runs h 0x16 _ _ _ s r).trans (congrArg _ ((armBody_arms starts).trans ?_))
    rw [if_neg (by simp [disarmed])]
  · rintro h wait s a rfl r starts armed
    refine (serve_runs h 0x16 _ _ _ s r).trans (congrArg _ ((armBody_arms starts).trans ?_))
    rw [if_pos armed]
  · rintro h stream count s a rfl r conv
    exact (serve_runs h 0x17 _ _ _ s r).trans (congrArg _ (snapBody_accepted conv))
  · rintro h wait sharp bypass s a rfl r can
    exact (serve_runs h 0x18 _ _ _ s r).trans (congrArg _ (pipeBody_stores can))
  · rintro h eps tRefl s a rfl r
    exact serve_runs h 0x19 _ _ _ s r

/-! ## The calibration commands -/

section
variable {h : Hdr} {op wait : Nat} {cmd : Instr} {s : State}

/-- A request whose resources are free starts, whatever its WAIT (R574). -/
theorem admitExclusive_free {rs : List Nat} {start : State → State}
    (free : s.blockedOn rs (s.sess.effClass h) s.sess.deferred = none) :
    s.admitExclusive h op wait cmd rs start = start s := by
  unfold State.admitExclusive
  rw [free]

theorem admitCal_free (conv : s.convShort 2 = none)
    (free : s.blockedOn (needsOf op) (s.sess.effClass h) s.sess.deferred = none) :
    s.admitCal h op wait cmd = s.startCmd cmd := by
  unfold State.admitCal
  rw [conv]
  exact admitExclusive_free free

/-- The rows of SHUTTER_CAL and GAIN_CAL. -/
theorem calibration_starts {gate : State → Gate} (r : runs h op gate s = true) (conv : (acting h op s).convShort 2 = none)
    (free : (acting h op s).blockedOn (needsOf op) ((acting h op s).sess.effClass h) (acting h op s).sess.deferred = none) :
    live s (serve h op cmd gate (State.admitCal h op wait cmd)) = .next ((acting h op s).startCmd cmd) :=
  (serve_runs h op cmd gate _ s r).trans (congrArg _ (admitCal_free conv free))

/-- The rows of the other commands that may be deferred. -/
theorem deferrable_starts {gate : State → Gate} (r : runs h op gate s = true)
    (free : (acting h op s).blockedOn (needsOf op) ((acting h op s).sess.effClass h) (acting h op s).sess.deferred = none) :
    live s (serve h op cmd gate (fun t => t.admitExclusive h op wait cmd (needsOf op) (State.startCmd cmd))) =
      .next ((acting h op s).startCmd cmd) :=
  (serve_runs h op cmd gate _ s r).trans (congrArg _ (admitExclusive_free free))

end

/-- Settles O9: the commands that may be deferred by the start of a request that finds its resources free, the others by their bodies.
COEFF_WRITE and DEFECT_EDIT change all their records in one step (log entry 174). -/
theorem calibrationCommandsComplete : Obligations.CalibrationCommandsComplete := by
  refine ⟨?_, ?_, ?_, ?_, ?_, ?_, ?_, ?_, ?_, ?_⟩
  · rintro h s a rfl r
    exact serve_runs h 0x20 _ _ _ s r
  · rintro h wait x y z s a rfl r conv free
    exact calibration_starts r conv free
  · rintro h wait x y z s a rfl r conv free
    exact calibration_starts r conv free
  · rintro h bound mode s a rfl r
    exact serve_runs h 0x23 _ _ _ s r
  · rintro h ms s a rfl r
    exact serve_runs h 0x24 _ _ _ s r
  · rintro h wait es s a rfl r free
    exact deferrable_starts r free
  · rintro h wait set s a rfl r free
    exact deferrable_starts r free
  · rintro h wait s a rfl r free
    exact deferrable_starts r free
  · rintro h first count s a rfl r
    exact serve_runs h 0x28 _ _ _ s r
  · rintro h wait first rs s a rfl r free
    exact deferrable_starts r free

/-! ## The events of a calibration -/

section
variable {s : State}

section
variable {c d : Cal} (run : s.cal.cal = some c)
include run

/-- At the end of a capture a check that failed opens the shutter, and else the calibration goes on to what follows its phase (R453,
R458, R467). -/
theorem captureChecks_complete (capture : c.inCapture = true) (frames : c.frames = 16)
    (ended : s.rd.frameOpen = true → s.rd.frame ≠ c.lastFrame)
    (hd : d = ((c.fpaRate s.cal.drift).flatness s.pipe.params).coverage s.included s.rd.windowSize s.includedSum) :
    s.captureChecks = if d.failed ≠ 0 then (s.onCalRun (fun _ => d)).calFails 0
      else if c.phase = .gCapture then (s.onCalRun (fun _ => d)).calMove 0 .gOpening
      else if c.phase = .gOpenCapture then (s.onCalRun (fun _ => d)).onCalRun (fun x => { x with phase := .gUpdate })
      else (s.onCalRun (fun _ => d)).onCalRun (fun x => { x with phase := .offsetUpdate }) := by
  have past : (s.rd.frameOpen && decide (s.rd.frame = c.lastFrame)) = false := by
    cases transfer : s.rd.frameOpen with
    | false => rfl
    | true => simp [ended transfer]
  have phases : c.phase = .capture ∨ c.phase = .gCapture ∨ c.phase = .gOpenCapture := by
    simpa [Cal.inCapture, or_assoc] using capture
  subst hd
  unfold State.captureChecks
  simp only [run, capture, frames, past, decide_true, Bool.and_true, Bool.not_false, if_true]
  congr 1
  rcases phases with e | e | e <;> rw [e] <;> rfl

/-- The offset update: DRIFT_ERR is the slope over the window less the mean of the drift values that were applied, and free where there
is no slope (R461 to R466; log entry 2). -/
theorem offsetUpdate_writes {m : Int} {p : SetParams} (phase : c.phase = .offsetUpdate)
    (hm : m = roundDivI s.includedSum s.included)
    (hp : p = { s.pipe.params with tCal := roundDiv (sumCodes c.fpaCodes) (max c.fpaCodes.length 1) }) :
    ∃ err : Int, (∀ v, s.driftSlope m = some v → err = v - roundDivI c.dtEffs.sum (max c.dtEffs.length 1)) ∧
      s.offsetUpdate = (({ s with
        freeCtr := s.freeCtr + 1
        pipe := { s.pipe with
          csto := s.pipe.csto.mapWindow s.rd.windowFirst s.rd.windowSize (offsetRec m s.pipe.kint s.pipe.kinv)
          params := p
          changed := true }
        cal := { s.cal with
          drift := s.cal.drift.anchor p
          cal := some { c with updated := s.included, driftErr := clamp (-8388608) 8388607 err, status := stOk } } } : State).calOpen) := by
  subst hm hp
  unfold State.offsetUpdate
  rw [run]
  dsimp only
  rw [if_pos phase]
  cases s.driftSlope (roundDivI s.includedSum s.included) with
  | some v =>
    refine ⟨v - roundDivI c.dtEffs.sum (max c.dtEffs.length 1), fun w slope => ?_, rfl⟩
    rw [Option.some.inj slope]
  | none => exact ⟨signed 24 (Config.freeValue s.freeCtr).toNat, nofun, rfl⟩

/-- The gain update, after which GAIN_CAL closes the shutter again (R467, R468). -/
theorem gainUpdate_writes (phase : c.phase = .gUpdate) : s.gainUpdate =
    (({ s with
      pipe := { s.pipe with
        csto := s.pipe.csto.mapWindow s.rd.windowFirst s.rd.windowSize (gainRec s.includedSum s.included)
        changed := true }
      cal := { s.cal with cal := some { c with updated := s.included } } } : State).calMove 1 .closing) := by
  unfold State.gainUpdate
  simp only [run, phase, if_true]

theorem captureFramesTimeout_fails (core : coreActs s = true) (capture : c.inCapture = true) :
    exec .captureFramesTimeout s = .next (s.calFails 2) := by
  refine (live_core s _ core).trans (congrArg _ ?_)
  simp only [run, capture, if_true]

end

/-- The end of a seeding ends the ADC calibration, with factors that it computed or that the copy holds (R321, R322, R327). -/
theorem seedingEnd_seeding {lows highs : List Nat} (hs : inRatings s) (seeding : s.rd.state = .seeding) :
    exec (.seedingEnd lows highs) s = .next ((if s.seedsNew = true then (s.onRd (Rd.seeded lows highs)).factorsWritten
      else (s.onRd (Rd.seeded lows highs)).factorsRestored).adcCalEnds stOk 0) :=
  live_to hs (if_pos seeding)

end

/-- Settles O10: the ends of an ADC_CAL by the readout's state, each event of a calibration by the phase that it finds, the automatic
one by being due. -/
theorem calibrationEventsComplete : Obligations.CalibrationEventsComplete := by
  refine ⟨?_, ?_, ?_, ?_, ?_, ?_, ?_, ?_, ?_, ?_, ?_⟩
  · intro s hs adcCal
    exact live_to hs (if_pos adcCal)
  · intro n s hs adcCal
    exact live_to hs (if_pos adcCal)
  · intro lows highs s hs seeding new
    rw [seedingEnd_seeding hs seeding, if_pos new]
  · intro lows highs s hs seeding restored
    rw [seedingEnd_seeding hs seeding, if_neg (by simp [restored])]
  · intro tick s core
    exact live_core s _ core
  · intro s c core run capture frames ended
    exact ⟨_, _, rfl, rfl, (live_core s _ core).trans (congrArg _ (captureChecks_complete run capture frames ended rfl))⟩
  · intro s c core run capture
    exact captureFramesTimeout_fails run core capture
  · intro s c core run phase
    obtain ⟨err, slope, writes⟩ := offsetUpdate_writes run phase rfl rfl
    exact ⟨_, _, err, rfl, rfl, slope, (live_core s _ core).trans (congrArg _ writes)⟩
  · intro s c core run phase
    exact (live_core s _ core).trans (congrArg _ (gainUpdate_writes run phase))
  · intro tick s core due
    exact (live_core s _ core).trans (congrArg _ (if_pos due))
  · intro s hs
    exact live_in s _ hs

/-! ## Frames, rows, the Sieve and the reload -/

section
variable {s : State} {n : Nat} {b : Bool} {l : List (Nat × Bool)}

/-- S_0 of a due frame, with the values of a slot that has begun or that begins now (R296, R297, R300, R331, R396). DESIGN CHOICE (log
entry 56): the drift estimator takes its sample with it. -/
theorem frameS0_due {tick code s0 x : Nat} {valid : Bool} {a : State} (hs : inRatings s) (armed : s.rd.isArmed = true)
    (link : s.haul.running = true) (room : s.rd.next = none)
    (slot : (if s.rd.slot.isNone = true then s.slotBegins else s) = a) (due : a.dueFrame tick = some (s0, x, n)) :
    exec (.frameS0 tick code valid) s = .next ((((a.atTick s0).fpaLatch code valid).driftSample).frameBegins s0 x n) := by
  subst slot
  refine live_to hs ((if_pos (by simp [armed, link, room])).trans ?_)
  dsimp only
  rw [due]

/-- The row that is next in the order of the frame in transfer (R296, R352). -/
theorem haulRowReceived_next {r : RowIn} (hs : inRatings s) (armed : s.rd.isArmed = true) (frame : s.rd.frameOpen = true)
    (link : s.haul.running = true) (row : r.row = s.rd.rowAt s.rd.rowsDone) :
    exec (.haulRowReceived r) s = .next ((s.atTick r.tick).rowIn r) := by
  have due : (s.rd.isArmed && s.rd.frameOpen && s.haul.running && decide (r.row = s.rd.rowAt s.rd.rowsDone)) = true := by
    simp [armed, frame, link, row]
  change execHaulRowReceived r s = _
  unfold execHaulRowReceived
  rw [live_in s _ hs]
  exact congrArg _ (if_pos due)

theorem recordReload_first (hs : inRatings s) (holds : s.holdsCoefficients = true) (queue : s.pipe.queue = (n, b) :: l) :
    exec .recordReload s = .next (s.reload n b) := by
  change execRecordReload s = _
  unfold execRecordReload
  rw [live_in s _ hs]
  simp only [queue, holds, if_true]

theorem reload_good (good : s.reloadFails n = false) : s.reload n b =
    s.onPipe (fun p => { p with queue := p.queue.tail, csto := p.csto.set n (recLost (s.flashSet.store.get n)) }) :=
  if_neg (by simp [good])

theorem ueNames_failed {p : Pipe} (failed : p.failedRecs.contains n = true) :
    Pipe.ueNames b n p = { p with ueIndex := n, ueByPipe := b, ueReloadFailed := true, ueDue := true } := by
  unfold Pipe.ueNames
  rw [failed]

/-- A record whose block fails its CRC is named as one whose reload failed, and logged (R427, R428, R430). -/
theorem reload_failed (fails : s.reloadFails n = true) : s.reload n b =
    (s.onPipe (fun p => { p with
      queue := p.queue.tail
      failedRecs := p.failedRecs ++ [n]
      ueIndex := n
      ueByPipe := b
      ueReloadFailed := true
      ueDue := true })).logEntry 0x0010 (le 4 n) := by
  have named := ueNames_failed (n := n) (b := b)
    (p := { s.pipe with queue := s.pipe.queue.tail, failedRecs := s.pipe.failedRecs ++ [n] }) (by simp)
  exact (if_pos fails).trans (congrArg (fun p => ({ s with pipe := p } : State).logEntry 0x0010 (le 4 n)) named)

/-- EV_SCRUB_UE goes out when it is due and 10 ms have passed since the last (R430). -/
theorem ueEventDue_spaced (due : s.pipe.ueDue = true) (spaced : ∀ t, s.pipe.ueLast = some t → t + 1000000 ≤ s.tb.now) :
    s.ueEventDue = true := by
  unfold State.ueEventDue
  cases last : s.pipe.ueLast with
  | none => simp [due]
  | some t => simp [due, msTicks, spaced t last]

theorem scrubUeEventTimer_due (hs : inRatings s) (due : s.ueEventDue = true) :
    exec .scrubUeEventTimer s = .next ((s.raise 0x15 s.pipe.ueData).onPipe (fun p =>
      { p with ueSince := 0, ueDue := false, ueLast := some s.tb.now })) := by
  change execScrubUeEventTimer s = _
  unfold execScrubUeEventTimer
  rw [live_in s _ hs, if_pos due]

end

/-- Settles O34: each row by the condition under which it acts, the reload by whether the record's block is good. -/
theorem readoutEventsComplete : Obligations.ReadoutEventsComplete := by
  refine ⟨?_, ?_, ?_, ?_, ?_, ?_, ?_⟩
  · intro s hs armed unslotted
    exact live_to hs (if_pos (by simp [armed, unslotted]))
  · intro tick code valid s a s0 x n hs armed link room slot due
    exact frameS0_due hs armed link room slot due
  · intro r s hs armed frame link row
    exact haulRowReceived_next hs armed frame link row
  · intro corrected doubles s hs holds
    exact live_to hs (if_pos holds)
  · intro s n b l hs holds queue good
    exact (recordReload_first hs holds queue).trans (congrArg _ (reload_good good))
  · intro s n b l hs holds queue fails
    exact (recordReload_first hs holds queue).trans (congrArg _ (reload_failed fails))
  · intro s hs due spaced
    exact scrubUeEventTimer_due hs (ueEventDue_spaced due spaced)

end Sys2Proof.Proofs

/-!
PROOFS. Haul link: the loss of a lane, the alarm with its fall and its time-out (R367 to R370, R384, R387), and the end of each kind of
training (R360 to R364, R371 to R373, R375).
-/

namespace Sys2Proof.Proofs

open Sys2Proof Sys2Proof.Machine Sys2Proof.Safety Sys2Proof.Laws

/-! ## The alarm -/

section
variable {s : State}

/-- The alarm of a running link stops the readout, and no attempt begins yet (R369, R370). -/
theorem haulAlmRise_running (hs : inRatings s) (running : s.haul.running = true) :
    exec .haulAlmRise s = .next ((s.onHaul (fun h => { h with alarm := true })).haulLost.onHaul (fun h =>
      { h with state := 1, lanesUp := 0, training := 3, almWait := true })) := by
  change execHaulAlmRise s = _
  unfold execHaulAlmRise
  rw [live_in s _ hs]
  exact congrArg _ (if_pos running)

/-- With the fall of the alarm the attempt that waited for it begins (R370). -/
theorem haulAlmFall_waits (hs : inRatings s) (waits : s.haul.almWait = true) :
    exec .haulAlmFall s = .next ((s.onHaul (fun h => { h with alarm := false })).onHaul (Haul.train 3)) := by
  change execHaulAlmFall s = _
  unfold execHaulAlmFall
  rw [live_in s _ hs]
  exact congrArg _ (if_pos waits)

end

/-! ## The end of a training -/

/-- With all four lanes trained none is left to train, whichever are barred. -/
theorem allLanes_or_barred {up barred : Nat} (all : up &&& 15 = 15) : (up ||| barred) &&& 15 = 15 := by
  rw [Nat.and_or_distrib_right, all]
  refine Nat.eq_of_testBit_eq fun i => ?_
  rw [Nat.testBit_or, Nat.testBit_and]
  cases Nat.testBit 15 i
  · rw [Bool.and_false, Bool.or_false]
  · rw [Bool.true_or]

section
variable {lanes latency up : Nat} {s : State} (trained : s.haul.trained lanes = up)
include trained

/-- Step 14 completes when every lane is trained, in whichever attempt (R362). -/
theorem trainingEnds_step14 (kind : s.haul.training = 1) (runs : s.stepRuns = true) (step : s.rstc.step = 14) (all : up &&& 15 = 15) :
    s.trainingEnds lanes latency = ((s.onHaul (Haul.settled up latency)).gangRowTime).stepDone 14 := by
  unfold State.trainingEnds
  simp [kind, runs, step, trained, allLanes_or_barred all]

/-- A unit reset has one attempt, and is complete with its end (R364, R169). -/
theorem trainingEnds_unitReset (kind : s.haul.training = 2) :
    s.trainingEnds lanes latency = ((s.onHaul (Haul.settled up latency)).gangRowTime).unitDone := by
  unfold State.trainingEnds
  simp only [kind, trained]

/-- An automatic retrain has one attempt, is counted and raises EV_UNIT_RESET (R370, R371). -/
theorem trainingEnds_retrain (kind : s.haul.training = 3) : s.trainingEnds lanes latency =
    (((s.onHaul (Haul.settled up latency)).onHaul (fun x => { x with retrains := satAdd 0xFF x.retrains 1 })).unitEvent 1 2).gangRowTime := by
  unfold State.trainingEnds
  simp only [kind, trained]

end

/-- Settles O35: the loss, the alarm and its ends by the condition under which each acts, the end of a training by its kind. -/
theorem haulEventsComplete : Obligations.HaulEventsComplete := by
  refine ⟨?_, ?_, ?_, ?_, ?_, ?_, ?_⟩
  · intro lane s hs running inService
    exact live_to hs (if_pos (by simp [running, inService]))
  · rintro s a hs running rfl
    exact haulAlmRise_running hs running
  · intro s hs waits
    exact haulAlmFall_waits hs waits
  · intro s hs waits
    exact live_to hs (if_pos waits)
  · intro lanes latency s up hs kind trained
    exact live_to hs (trainingEnds_retrain trained kind)
  · intro lanes latency s up hs kind trained
    exact live_to hs (trainingEnds_unitReset trained kind)
  · intro lanes latency s up hs kind runs step trained all
    exact live_to hs (trainingEnds_step14 trained kind runs step all)

end Sys2Proof.Proofs

/-!
PROOFS. Calibration flash: the end of a recall (R438, R905, R908), the blocks of a save with their second attempts, the header and the wait
for energy (R443, R445, R910, R911), and the end of a deferred request's WAIT (R579).
-/

namespace Sys2Proof.Proofs

open Sys2Proof Sys2Proof.Machine Sys2Proof.Safety Sys2Proof.Laws

section
variable {s : State} (core : coreActs s = true)
include core

/-- A recall replies OK when its outcome is a valid set, and FAIL_HW otherwise (R438, R905, R908). -/
theorem calsetRecallDone_recalling {lost : List Nat} {session tag set : Nat} {u : State}
    (recalling : s.cfl.recalling = some (session, tag, set)) (hu : u = (s.recallEnds set lost).onDrift Drift.restart) :
    exec (.calsetRecallDone lost) s = .next ((u.recallReply (if u.cfl.result = 2 then stOk else stFailHw)).reevaluate) := by
  subst hu
  refine (live_core s _ core).trans (congrArg _ ?_)
  rw [recalling]

/-- With its WAIT a deferred request is answered with the resource that it lacks (R579). -/
theorem deferredWaitExpiry_deferred {session tag : Nat} {f : Flight}
    (deferred : s.sess.deferred.find? (fun f => f.hdr.session = session && f.hdr.tag = tag) = some f) :
    exec (.deferredWaitExpiry session tag) s = .next (s.answerOpen f stCapacity (exclusiveRefusal (s.lackOf f) 1)) := by
  refine (live_core s _ core).trans (congrArg _ ?_)
  rw [deferred]

variable {j : SaveJob} (save : s.cfl.save = some j)
include save

theorem calsetSaveEnergyTimeout_waiting (waiting : j.waiting = true) :
    exec .calsetSaveEnergyTimeout s = .next ((s.saveEnds stFailAborted).reevaluate) := by
  refine (live_core s _ core).trans (congrArg _ ?_)
  rw [save]
  exact if_pos waiting

variable (running : j.waiting = false)
include running

/-- A block that does not read back has a second attempt, which may wait for its energy, and no third (R445, R911). -/
theorem calsetSaveBlockDone_differs : exec (.calsetSaveBlockDone false) s = .next (
    if j.retried = true then (s.saveEnds stFailHw).reevaluate
    else s.onCfl (fun c => { c with save := some { j with retried := true, waiting := !s.pwr.covers needFlash } })) := by
  refine (live_core s _ core).trans (congrArg _ ?_)
  simp only [save, running, Bool.false_eq_true, Bool.not_false, if_false, if_true]

/-- After a block that reads back a cancelled save ends, and else come the blocks to the last, then the header when its energy is there
(R445, R910). -/
theorem calsetSaveBlockDone_matches : exec (.calsetSaveBlockDone true) s = .next (
    if s.cfl.saveCancel = true then (s.saveEnds stFailAborted).reevaluate
    else if j.block < 199 then s.saveNext (j.block + 1)
    else if s.pwr.covers needFlash = true then s.saveFinish
    else s.saveNext 200) := by
  refine (live_core s _ core).trans (congrArg _ ?_)
  simp only [save, running, Bool.false_eq_true, Bool.not_true, if_false]

end

/-- Settles O11: a recall and a deferred request as the one found in flight, a save's block by whether it reads back and what comes after
it, the end of the wait for energy by the save that waits. -/
theorem setRecallAndSaveComplete : Obligations.SetRecallAndSaveComplete := by
  refine ⟨?_, ?_, ?_, ?_, ?_, ?_, ?_, ?_⟩
  · intro lost s session tag set core recalling
    exact ⟨_, rfl, calsetRecallDone_recalling core recalling rfl⟩
  · intro s j core save running first
    rw [calsetSaveBlockDone_differs core save running, if_neg (by simp [first])]
  · intro s j core save running retried
    rw [calsetSaveBlockDone_differs core save running, if_pos retried]
  · intro s j core save running cancelled
    rw [calsetSaveBlockDone_matches core save running, if_pos cancelled]
  · intro s j core save running goesOn more
    rw [calsetSaveBlockDone_matches core save running, if_neg (by simp [goesOn]), if_pos more]
    rfl
  · intro s j core save running goesOn last energy
    rw [calsetSaveBlockDone_matches core save running, if_neg (by simp [goesOn]), if_neg (by omega), if_pos energy]
    rfl
  · intro s j core save waiting
    exact calsetSaveEnergyTimeout_waiting core save waiting
  · intro session tag s f core deferred
    exact deferredWaitExpiry_deferred core deferred

end Sys2Proof.Proofs

/-!
PROOFS. The queue of the commands that wait: no row touches it (R504, R554; log entry 7). What is proved of every row is more, that it
keeps the queue, the blown fuse bits and the canonical form of the user area; most rows do because they leave the three as they stand.
-/

namespace Sys2Proof.Proofs

open Sys2Proof Sys2Proof.Machine Sys2Proof.Safety Sys2Proof.Laws

/-! ## What the wrappers keep -/

/-- Whatever next state an outcome answers, it keeps what every command keeps. -/
def KeepsNext (s : State) (o : Out) : Prop := ∀ t, o = .next t → Keeps s t

theorem next_keepsNext {s t : State} (k : Keeps s t) : KeepsNext s (.next t) := by
  intro u e
  cases e
  exact k

section
variable {s : State} {f : State → State}

theorem live_keepsNext (hf : ∀ u, Keeps u (f u)) : KeepsNext s (live s f) := by
  cases hs : s.jtag.tainted with
  | true =>
    intro t e
    cases (live_out s f hs).symm.trans e
  | false =>
    rw [live_in s f hs]
    exact next_keepsNext (hf s)

theorem live_kept (hf : ∀ u, (f u).kept = u.kept) : KeepsNext s (live s f) := live_keepsNext (fun u => .of (hf u))

/-- An event of the core has its effect or none. -/
theorem live_onCore_keepsNext (hf : ∀ u, Keeps u (f u)) : KeepsNext s (live s (onCore f)) :=
  live_keepsNext (fun u => onCore_keeps f u hf)

@[simp] theorem onCore_kept (hf : ∀ u, (f u).kept = u.kept) : (onCore f s).kept = s.kept := by
  unfold onCore
  split
  · exact hf s
  · rfl

end

/-- An effect that comes only on a condition. -/
theorem keeps_ite {c : Prop} [Decidable c] {s t : State} (k : Keeps s t) : Keeps s (if c then t else s) := by
  split
  · exact k
  · exact .refl s

section
variable (h : Hdr) (op wait : Nat) (cmd : Instr) (rs : List Nat) (gate : State → Gate) (body : State → State) (s : State)

/-- A command that comes in has its traffic, and after it either its effect or none: what both leave as it stands, stands. -/
theorem serveAs_kept (i : Intake) (hb : ∀ u, (body u).kept = u.kept) : (serveAs i h op cmd gate body s).kept = s.kept := by
  cases i with
  | lost => rfl
  | wait => rfl
  | busy => exact State.refuseBusy_kept h op s
  | queue => exact State.enqueue_kept h op cmd s
  | take dup =>
    unfold serveAs
    dsimp only
    split
    · simp
    · simp [hb]

@[simp] theorem serve_kept (hb : ∀ u, (body u).kept = u.kept) : (serve h op cmd gate body s).kept = s.kept :=
  (serveAs_kept h op cmd gate body _ _ hb).trans (State.atTick_kept _ _)

@[simp] theorem serveNow_kept (hb : ∀ u, (body u).kept = u.kept) : (serveNow h op cmd gate body s).kept = s.kept :=
  (serveAs_kept h op cmd gate body _ _ hb).trans (State.atTick_kept _ _)

@[simp] theorem admitExclusive_kept (hb : ∀ u, (body u).kept = u.kept) : (s.admitExclusive h op wait cmd rs body).kept = s.kept := by
  unfold State.admitExclusive
  split
  · exact hb s
  · split <;> simp

@[simp] theorem admitCal_kept : (s.admitCal h op wait cmd).kept = s.kept := by
  unfold State.admitCal
  split <;> simp

end

@[simp] theorem clockLossDown_kept (s : State) : s.clockLossDown.kept = s.kept := by
  unfold State.clockLossDown
  simp

@[simp] theorem clockLoss_kept (s : State) : s.clockLoss.kept = s.kept := by
  unfold State.clockLoss
  simp

/-! ## The rows that write the user area or the fuses -/

section
variable {s : State}

theorem pstoWrite_keepsNext {h : Hdr} {offset : Nat} {bytes : List Byte} : KeepsNext s (exec (.pstoWrite h offset bytes) s) :=
  live_keepsNext (fun u => serve_keeps _ _ _ _ _ u (fun v =>
    (onPsto_keeps (fun p => (p.write offset bytes).suspend) v (Psto.wf_write offset bytes v.psto)).thenKept (State.answer_kept _ _ _ _ _)))

/-- Every register write, by REG_WRITE or a row of one register. -/
theorem live_regWriteServe_keepsNext {h : Hdr} {a v : Nat} {cmd : Instr} : KeepsNext s (live s (regWriteServe h a v cmd)) :=
  live_keepsNext (fun u => serve_keeps _ _ _ _ _ u (regWriteBody_keeps h a v))

/-- A response may bring the effect of a register write that waited for it. -/
theorem haulRegResp_keepsNext {tag status data : Nat} : KeepsNext s (exec (.haulRegResp tag status data) s) := by
  apply live_keepsNext
  intro u
  dsimp only
  split
  · exact .refl u
  · split
    · exact .of (by simp)
    · split
      · exact .of (by simp)
      · split
        · exact .from (State.respArrives_kept tag status data u) ((State.regAnswered_keeps _ data _).thenKept (State.regsSettled_kept _))
        · exact .of (by simp)

theorem benchWrite_keepsNext {a v : Nat} : KeepsNext s (exec (.benchWrite a v) s) := by
  apply live_keepsNext
  intro u
  exact keeps_ite (State.benchWrite_keeps a v u)

theorem bootOk_keepsNext : KeepsNext s (exec .bootOk s) := by
  apply live_keepsNext
  intro u
  exact keeps_ite (State.postBoot_keeps u)

theorem pstoStartupScan_keepsNext : KeepsNext s (exec .pstoStartupScan s) := by
  apply live_onCore_keepsNext
  intro u
  apply keeps_ite
  split
  · exact State.background_keeps _ u
  · exact .of (by simp)

theorem pstoSectorEraseDone_keepsNext : KeepsNext s (exec .pstoSectorEraseDone s) := by
  apply live_onCore_keepsNext
  intro u
  split
  · exact .refl u
  · exact State.sectorErased_keeps u

theorem logWrite_keepsNext : KeepsNext s (exec .logWrite s) := by
  apply live_onCore_keepsNext
  intro u
  split
  · exact .refl u
  · exact State.background_keeps _ u

end

/-! ## The rows -/

/-- No next state of any row has lost what every command keeps. -/
theorem exec_keepsNext (c : Instr) (s : State) : KeepsNext s (exec c s) := by
  cases c
  -- rows that run outside the ratings too
  case vlink0Qualified | resetnRelease | jtagBypass | jtagIdcode | jtagExtest | jtagHighz | jtagClamp =>
    exact next_keepsNext (.of (by simp))
  case jtagSamplePreload preload value =>
    refine next_keepsNext (.of ?_)
    split <;> simp
  case resetnAssert width =>
    change KeepsNext s (execResetnAssert width s)
    unfold execResetnAssert
    dsimp only
    split
    · exact next_keepsNext (.refl s)
    · split <;> exact next_keepsNext (.of (by simp))
  -- rows that write the user area or the fuses
  case pstoWrite => exact pstoWrite_keepsNext
  case pstoErase => exact live_keepsNext (fun u => serve_keeps _ _ _ _ _ u (pstoEraseBody_keeps _ _ _))
  case regWrite | sensRegisterWrite | sessTierWrite | wdgHostCtrlWrite | thmConfigWrite | pwrRideTimerWrite | sessTelemWrite
      | fuseBlowSelWrite | fuseBlowWrite | causeStickyClear | haulHdrErrClear | haulCrcErrClear | pipeEccClear | pstoEccClear
      | cxpDiscardsClear | trigEarlyClear | encErrCountClear =>
    exact live_regWriteServe_keepsNext
  case haulRegResp => exact haulRegResp_keepsNext
  case benchWrite => exact benchWrite_keepsNext
  case bootOk => exact bootOk_keepsNext
  case pstoStartupScan => exact pstoStartupScan_keepsNext
  case pstoSectorEraseDone => exact pstoSectorEraseDone_keepsNext
  case pendingEraseResolve | journalCompaction | ringSectorErase =>
    exact live_onCore_keepsNext (fun u => keeps_ite (State.background_keeps _ u))
  case counterRingWrite => exact live_onCore_keepsNext (fun u => .from (State.count_kept 8 u) (State.background_keeps _ _))
  case logWrite => exact logWrite_keepsNext
  case backgroundStoreRetry =>
    exact live_onCore_keepsNext (fun u => .from (State.onPwr_kept _ u) ((State.bgRetry_keeps _).thenKept (State.saveWake_kept _)))
  -- rows whose effect has its cases by what they find
  case deferredWaitExpiry | calsetSaveEnergyTimeout | calsetRecallDone | calsetSaveBlockDone | captureFramesTimeout =>
    apply live_onCore_keepsNext
    intro u
    apply Keeps.of
    split <;> simp
  case adcCalEnd | recordReload | replyPop | gangSlewPeriod | gangJoinListenEnd | gangJoinerAligned | gangMessage
      | holdupMeasurementEnd =>
    apply live_kept
    intro u
    repeat' split
    all_goals simp
  -- so has that of these, in the state at their tick or with their measurement
  case actSlotGrant | scheduledFireInstant | chiselWaitEnd | chiselWaitfEnd | chiselWaitaEnd | chiselWaitiEnd | chiselWaitiTimeout
      | shutterProgramTimeout | vshrReady | frameS0 | gangSyncReceived | haulAlmRise | haulAlmFall | vlinkReturn | rideEnergyReserve =>
    apply live_kept
    intro u
    dsimp only
    repeat' split
    all_goals simp
  -- every other effect leaves the queue, the fuses and the user area as they stand
  all_goals
    apply live_kept
    intro u
    simp

/-- Settles O40: the queue is among what every row keeps. -/
theorem commandsLeaveTheQueueAlone : Obligations.CommandsLeaveTheQueueAlone :=
  fun c s t e => (exec_keepsNext c s t e).pending

end Sys2Proof.Proofs

/-!
PROOFS. The CoaXPress attachment: a packet that the mailbox takes (R504 to R506, R543), the replies held for poll (R512), the writes to
the control space (R495 to R499), discovery, packets and the loss and relock of links (R491, R493, R514, R515, R526, R529).
-/

namespace Sys2Proof.Proofs

open Sys2Proof Sys2Proof.Machine Sys2Proof.Safety Sys2Proof.Laws

/-! ## The control space -/

/-- A packet that passes checks 1 to 5 at the mailbox joins the queue when it spells a command (R504, R543). -/
theorem submit_enqueues {mbox n tick : Nat} {bs : List Byte} {i : Instr} {s : State} (length : lengthOk bs n = true) (crc : crcOk bs = true)
    (own : (hdrOf bs tick).session = mbox)
    (room : (if slotted (hdrOf bs tick) (at_ bs 4 1) then s.sess.slotBusy mbox else 8 ≤ s.sess.inflight mbox || s.sess.free = 0) = false)
    (passes : (!frameOk bs || (hdrOf bs tick).cls = 3 || s.sess.tagBusy mbox (hdrOf bs tick).tag ||
      ((hdrOf bs tick).urgent && !urgentPath (at_ bs 4 1))) = false)
    (spells : decodeParams (hdrOf bs tick) (at_ bs 4 1) ((bs.drop 8).take (n - 12)) = .cmd i) :
    submit mbox n bs tick s = s.enqueue (hdrOf bs tick) (at_ bs 4 1) i := by
  unfold submit
  dsimp only
  rw [if_neg (by simp [length]), if_neg (by simp [crc]), if_neg (not_not_intro own), if_neg (by simp [room]), if_neg (by simp [passes]),
    spells]

section
variable {s : State} (hs : inRatings s) (up : s.cxp.up0 = true)
include hs up

/-- A doorbell of one of the 16 mailboxes submits the bytes that it names (R502, R504, R507). -/
theorem doorbell_submits {mbox len tick : Nat} {command : List Byte} (mailbox : mbox < 16) :
    exec (.doorbell mbox len command tick) s = .next (submit mbox len (command.take len) tick ((s.atTick tick).acknowledge 0)) := by
  apply live_to hs
  rw [if_neg (by simp [up]), if_neg (by omega)]

theorem replyPop_releases {mbox : Nat} {f : Flight} {l : List Flight} (mailbox : mbox < 16) (held : s.sess.heldReplies mbox = f :: l) :
    exec (.replyPop mbox) s = .next ((s.onSess (Sess.releaseHeld f)).acknowledge 0) := by
  apply live_to hs
  rw [if_neg (by simp [up]), if_neg (by omega), held]

theorem connectionConfig_configures {rate links : Nat} (fits : s.linksRefused rate links = false) :
    exec (.connectionConfig rate links) s = .next ((s.acknowledge 1).onCxp (Cxp.configure rate links)) := by
  apply live_to hs
  rw [if_neg (by simp [up]), if_neg (by simp [fits])]

theorem acquisitionMirrorWrite_acknowledged {addr v : Nat} (first : 0x30000 ≤ addr) (last : addr < 0x30020) :
    exec (.acquisitionMirrorWrite addr v) s = .next (s.acknowledge 0) := by
  apply live_to hs
  rw [if_neg (by simp [up]), if_pos (by simp [first, last])]

/-- A Trigger Packet is acknowledged, and its edge is the request of source 5 (R514, R515). -/
theorem triggerPacket_acknowledged {rising : Bool} {tick : Nat} :
    exec (.triggerPacket rising tick) s = .next (if rising = true
      then ((s.atTick tick).onCxp (Cxp.send [.triggerAck])).startRequest 5 tick
      else (s.atTick tick).onCxp (Cxp.send [.triggerAck])) :=
  live_to hs (if_pos up)

end

/-- A powered link that is down answers and is up; with link 0 come the events held for it (R45, R493). -/
theorem discovery_comesUp {link : Nat} {s : State} (hs : inRatings s) (powered : (s.cxp.links.getD link Link.off).powered = true)
    (down : (s.cxp.links.getD link Link.off).up = false) :
    exec (.discovery link) s = .next (if link = 0 then (s.discovered 0).flushHeld else s.discovered link) := by
  apply live_to hs
  exact if_pos (by rw [powered, down]; rfl)

/-- Links 1 to 3 lock again at the rate configured for them (R529). -/
theorem cxpLinkRelock_locks {link : Nat} {s : State} (hs : inRatings s) (inner : 1 ≤ link) (inRange : link < 4)
    (configured : (s.cxp.links.getD link Link.off).configured = true) (down : (s.cxp.links.getD link Link.off).up = false) :
    exec (.cxpLinkRelock link) s = .next ((s.onCxp (fun c =>
      { c with links := c.links.modify link (fun x => { x with up := true, rate := c.cfgRate }) })).unitEvent (0x20 + link) 2) := by
  apply live_to hs
  exact if_pos (by rw [configured, down]; simp [inner, inRange])

/-- Settles O22: a doorbell by the checks that its packet passes, every other row by the link or the register that it names. -/
theorem controlSpaceCompletes : Obligations.ControlSpaceCompletes := by
  refine ⟨?_, ?_, ?_, ?_, ?_, ?_, ?_, ?_, ?_, ?_⟩
  · rintro mbox len command tick s a bs i hs up mailbox rfl rfl length crc own room frame cls tag urgent spells
    rw [doorbell_submits hs up mailbox, submit_enqueues length crc own room (by simp [frame, cls, tag, urgent]) spells]
  · intro mbox s f l hs up mailbox held
    exact replyPop_releases hs up mailbox held
  · intro rate links s hs up fits
    exact connectionConfig_configures hs up fits
  · intro s hs up
    exact live_to hs (if_pos up)
  · intro addr v s hs up first last
    exact acquisitionMirrorWrite_acknowledged hs up first last
  · intro link s hs powered down
    exact discovery_comesUp hs powered down
  · intro tick s hs up
    exact ⟨triggerPacket_acknowledged hs up, triggerPacket_acknowledged hs up⟩
  · intro link kind s hs up
    exact live_to hs (if_pos up)
  · intro link s hs up
    exact live_to hs (if_pos up)
  · intro link s hs inner inRange configured down
    exact cxpLinkRelock_locks hs inner inRange configured down

end Sys2Proof.Proofs

/-!
PROOFS. Sessions and their commands: the checks that come before a command's own (R543, R544, R559), the session commands and the claims
(R558 to R566), the replies held for poll (R549, R599) and CANCEL (R584, R585).
-/

namespace Sys2Proof.Proofs

open Sys2Proof Sys2Proof.Machine Sys2Proof.Safety Sys2Proof.Laws

/-! ## The checks before a command's own -/

section
variable {h : Hdr} {op : Nat} {dup : Bool} {g : Gate} {s : State}

/-- Check 5 of R543, whatever the session and the command's own checks. -/
theorem verdict_badHeader (bad : h.cls = 3 ∨ dup = true ∨ (h.urgent && !urgentPath op) = true) :
    verdict h op dup g s = some (stErrParam, []) := by
  have check : (decide (h.cls = 3) || dup || (h.urgent && !urgentPath op)) = true := by
    simpa only [Bool.or_eq_true, decide_eq_true_eq, or_assoc] using bad
  exact if_pos check

/-- Check 6 of R543: of a session that is not open, check 5 passed, PING and SESSION_OPEN alone go on. -/
theorem verdict_closedSession (cls : h.cls ≠ 3) (urgent : (h.urgent && !urgentPath op) = false)
    (closed : (s.sess.get h.session).opened = false) (ping : op ≠ 0x00) (sessionOpen : op ≠ 0x01) :
    verdict h op false g s = some (stState, []) := by
  unfold verdict
  rw [if_neg (by simp only [cls, urgent]; decide), if_pos (by simp [closed, ping, sessionOpen])]

end

/-- A served command that is taken and turned away by a check has the answer of that check for its whole effect. -/
theorem exec_turnedAway {c : Instr} {h : Hdr} {op st : Nat} {res : List Byte} {s : State} {dup : Bool} (row : served c = some (h, op))
    (hs : inRatings s) (taken : cameIn h op s = .take dup)
    (turns : ∀ g, verdict h op dup g (acting h op s) = some (st, res)) :
    exec c s = .next ((acting h op s).answer h op st res) := by
  obtain ⟨gate, body, -, runsAs⟩ := served_serveAs c h op row
  rw [runsAs s hs, taken]
  unfold serveAs acting
  unfold acting at turns
  dsimp only
  rw [turns]

/-- Settles O43: check 6 of R543 turns the command away, and check 5 comes before it. -/
theorem closedSessionsRefused : Obligations.ClosedSessionsRefused := by
  refine ⟨?_, ?_⟩
  · intro c h op s row hs taken cls urgent closed ping sessionOpen
    exact exec_turnedAway row hs taken (fun _ => verdict_closedSession cls urgent closed ping sessionOpen)
  · intro c h op s dup row hs taken bad
    exact exec_turnedAway row hs taken (fun _ => verdict_badHeader bad)

/-! ## The session commands -/

section
variable {h : Hdr} {s : State}

theorem sessionOpenBody_enabled {clientId : Nat} (enabled : (s.sess.get h.session).enabled = true) :
    sessionOpenBody h clientId s = (s.onSess (Sess.modify h.session (Session.openFor clientId))).answer h 0x01 stOk
      (le 1 (s.sess.get h.session).tier ++ [8#8, 2#8, 0#8]) := if_pos enabled

theorem sessionCloseBody_own :
    sessionCloseBody h h.session s = (s.answer { h with push := true } 0x02 stOk []).closeSession h.session := if_pos rfl

theorem sessionCloseBody_other {target : Nat} (other : target ≠ h.session) : sessionCloseBody h target s =
    (if (s.sess.get target).opened then s.closeSession target else s).answer h 0x02 stOk [] := by
  unfold sessionCloseBody
  rw [if_neg other]
  exact (apply_ite (fun t : State => t.answer h 0x02 stOk []) _ _ _).symm

end

/-- Settles O2: each command by its body, SESSION_CLOSE by whose session it closes. -/
theorem sessionCommandsComplete : Obligations.SessionCommandsComplete := by
  refine ⟨?_, ?_, ?_, ?_, ?_, ?_⟩
  · intro h clientId s r enabled
    exact (serve_runs h 0x01 _ _ _ s r).trans (congrArg _ (sessionOpenBody_enabled enabled))
  · intro h s r
    exact (serve_runs h 0x02 _ _ _ s r).trans (congrArg _ sessionCloseBody_own)
  · intro h target s other r
    exact (serve_runs h 0x02 _ _ _ s r).trans (congrArg _ (sessionCloseBody_other other))
  · intro h tiers enable s r
    exact serve_runs h 0x03 _ _ _ s r
  · intro h code s r
    exact serve_runs h 0x04 _ _ _ s r
  · intro h code holder s r
    exact serve_runs h 0x05 _ _ _ s r

/-! ## REPLY_FETCH -/

section
variable {h : Hdr} {s : State}

theorem replyFetchBody_none (noneHeld : s.sess.heldReplies h.session = []) :
    replyFetchBody h s = s.answer h 0x08 stOk [0#8, 0#8, 0#8, 0#8] := by
  unfold replyFetchBody
  rw [noneHeld]

/-- The oldest held reply is pushed and released before the command's own reply (R599). -/
theorem replyFetchBody_held {f : Flight} {rest : List Flight} (held : s.sess.heldReplies h.session = f :: rest) :
    replyFetchBody h s = ({ s with
      sess := s.sess.releaseHeld f
      cxp := s.cxp.send (f.reply.map (fun r => TxItem.reply { r with push := true })).toList } : State).answer h 0x08 stOk
        (le 1 rest.length ++ [0#8, 0#8, 0#8]) := by
  unfold replyFetchBody
  rw [held]

end

/-- Settles O3: by the replies of the session that are held. -/
theorem replyFetchCompletes : Obligations.ReplyFetchCompletes := by
  refine ⟨?_, ?_⟩
  · intro h s r noneHeld
    exact (serve_runs h 0x08 _ _ _ s r).trans (congrArg _ (replyFetchBody_none noneHeld))
  · intro h s f rest r held
    exact (serve_runs h 0x08 _ _ _ s r).trans (congrArg _ (replyFetchBody_held held))

/-! ## CANCEL -/

section
variable {h : Hdr} {target tag : Nat} {s : State}

theorem cancelBody_none (noneNamed : s.sess.named target tag = none) :
    cancelBody h target tag s = s.answer h 0x09 stOk (le 1 3 ++ [0#8, 0#8, 0#8]) := by
  unfold cancelBody
  rw [noneNamed]

section
variable {f : Flight} (named : s.sess.named target tag = some f)
include named

/-- A queued command leaves the queue and ends with its own reply (R584). -/
theorem cancelBody_queued (queued : f.st = .queued) : cancelBody h target tag s =
    ((s.answer h 0x09 stOk (le 1 0 ++ [0#8, 0#8, 0#8])).onSess (Sess.dropFlights (fun g => g = f))).answer
      f.hdr f.opcode stFailAborted [] := by
  simp only [cancelBody, named, queued]

theorem cancelBody_deferred {r w a : Nat} (deferred : f.st = .deferred r w a) : cancelBody h target tag s =
    (s.answer h 0x09 stOk (le 1 0 ++ [0#8, 0#8, 0#8])).answerOpen f stFailAborted [] := by
  simp only [cancelBody, named, deferred]

/-- A long operation is cancelled where the catalogue allows it at that time (R584, R596). -/
theorem cancelBody_running (running : f.st = .running) : cancelBody h target tag s =
    if s.longCancellable target tag f.opcode = true
    then (s.answer h 0x09 stOk (le 1 1 ++ [0#8, 0#8, 0#8])).longCancel target tag f.opcode
    else s.answer h 0x09 stOk (le 1 2 ++ [0#8, 0#8, 0#8]) := by
  simp only [cancelBody, named, running]

theorem cancelBody_waiting {w : Wait} (waiting : f.st = .waiting w) :
    cancelBody h target tag s = s.answer h 0x09 stOk (le 1 2 ++ [0#8, 0#8, 0#8]) := by
  simp only [cancelBody, named, waiting]

end

end

/-- Settles O59: by the state of the command that CANCEL names. One that has been answered is named no more, and so the byte is 3 (log
entry 91). -/
theorem cancelCompletes : Obligations.CancelCompletes := by
  refine ⟨?_, ?_, ?_, ?_, ?_, ?_⟩
  · intro h target tag s r noneNamed
    exact (serve_runs h 0x09 _ _ _ s r).trans (congrArg _ (cancelBody_none noneNamed))
  · intro h target tag s f r named queued
    exact (serve_runs h 0x09 _ _ _ s r).trans (congrArg _ (cancelBody_queued named queued))
  · intro h target tag s f resource deadline arrival r named deferred
    exact (serve_runs h 0x09 _ _ _ s r).trans (congrArg _ (cancelBody_deferred named deferred))
  · intro h target tag s f r named running can
    exact (serve_runs h 0x09 _ _ _ s r).trans (congrArg _ ((cancelBody_running named running).trans (if_pos can)))
  · intro h target tag s f r named running cannot
    exact (serve_runs h 0x09 _ _ _ s r).trans
      (congrArg _ ((cancelBody_running named running).trans (if_neg (by simp [cannot]))))
  · intro h target tag s f w r named waiting
    exact (serve_runs h 0x09 _ _ _ s r).trans (congrArg _ (cancelBody_waiting named waiting))

end Sys2Proof.Proofs

/-!
PROOFS. Capacity: the trial that decimates streams of lower classes for a request (R569, R574, R575), the stream commands that it admits
(R603 to R609), and the calibration commands that wait for an exclusive resource (R573 to R579).
-/

namespace Sys2Proof.Proofs

open Sys2Proof Sys2Proof.Machine Sys2Proof.Safety Sys2Proof.Laws

/-! ## The stream that is decimated next -/

/-- A stream that a request of class `c` may have decimated. -/
def Yields (c : Nat) (x : Counted) : Prop := x.stream.opened = true ∧ c < x.stream.cls ∧ x.stream.decim < 16

/-- The rule of R574 does not take `a` before `y`. -/
def NotBefore (a y : Counted) : Prop :=
  a.stream.cls < y.stream.cls ∨ (a.stream.cls = y.stream.cls ∧ a.stream.admitSeq ≤ y.stream.admitSeq)

theorem NotBefore.refl (a : Counted) : NotBefore a a := .inr ⟨rfl, Nat.le_refl _⟩

theorem NotBefore.trans {a b y : Counted} (hab : NotBefore a b) (hby : NotBefore b y) : NotBefore a y := by
  unfold NotBefore at *
  omega

theorem mayYield_iff (c : Nat) (x : Counted) :
    (x.stream.opened && c < x.stream.cls && 0 < x.stream.cls && x.stream.decim < 16) = true ↔ Yields c x := by
  simp only [Bool.and_eq_true, decide_eq_true_eq, Yields]
  constructor
  · rintro ⟨⟨⟨opened, above⟩, -⟩, below⟩
    exact ⟨opened, above, below⟩
  · rintro ⟨opened, above, below⟩
    exact ⟨⟨⟨opened, above⟩, Nat.zero_lt_of_lt above⟩, below⟩

theorem better_iff (x y : Counted) :
    (y.stream.cls < x.stream.cls || (y.stream.cls = x.stream.cls && y.stream.admitSeq < x.stream.admitSeq)) = true ↔
      ¬ NotBefore x y := by
  simp only [Bool.or_eq_true, Bool.and_eq_true, decide_eq_true_eq, NotBefore]
  omega

theorem notBefore_of_not {x y : Counted} (h : ¬ NotBefore x y) : NotBefore y x := by
  unfold NotBefore at *
  omega

/-- One turn of the search that `victim` makes. -/
def victimTurn (l : List Counted) (c : Nat) (best : Option (Nat × Counted)) (i : Nat) : Option (Nat × Counted) :=
  match l[i]? with
  | some x =>
    if !(x.stream.opened && c < x.stream.cls && 0 < x.stream.cls && x.stream.decim < 16) then best
    else match best with
      | some (j, y) =>
        if y.stream.cls < x.stream.cls || (y.stream.cls = x.stream.cls && y.stream.admitSeq < x.stream.admitSeq)
        then some (i, x) else some (j, y)
      | none => some (i, x)
  | none => best

theorem victim_eq_search (l : List Counted) (c : Nat) :
    victim l c = ((List.range l.length).foldl (victimTurn l c) none).map (·.1) := rfl

/-- What the search has found among the first `n` streams. -/
def FoundIn (l : List Counted) (c n : Nat) : Option (Nat × Counted) → Prop
  | none => ∀ j < n, ∀ a, l[j]? = some a → ¬ Yields c a
  | some (i, y) => l[i]? = some y ∧ Yields c y ∧ ∀ j < n, ∀ a, l[j]? = some a → Yields c a → NotBefore a y

section
variable {l : List Counted} {c n : Nat} {x : Counted} (hx : l[n]? = some x)
include hx

theorem victimTurn_skips {best : Option (Nat × Counted)} (no : ¬ Yields c x) : victimTurn l c best n = best := by
  unfold victimTurn
  rw [hx]
  exact if_pos (by simpa only [Bool.not_eq_true', Bool.not_eq_true] using mt (mayYield_iff c x).mp no)

theorem victimTurn_first (yields : Yields c x) : victimTurn l c none n = some (n, x) := by
  unfold victimTurn
  rw [hx]
  exact if_neg (by simpa only [Bool.not_eq_true', Bool.not_eq_false] using (mayYield_iff c x).mpr yields)

theorem victimTurn_next (yields : Yields c x) (j : Nat) (y : Counted) :
    victimTurn l c (some (j, y)) n =
      if y.stream.cls < x.stream.cls || (y.stream.cls = x.stream.cls && y.stream.admitSeq < x.stream.admitSeq)
      then some (n, x) else some (j, y) := by
  unfold victimTurn
  rw [hx]
  exact if_neg (by simpa only [Bool.not_eq_true', Bool.not_eq_false] using (mayYield_iff c x).mpr yields)

/-- What holds of every stream before the `n`th and of it holds of every stream up to it. -/
theorem forall_succ_of_getElem? {p : Counted → Prop} (before : ∀ j < n, ∀ a, l[j]? = some a → p a) (last : p x) :
    ∀ j < n + 1, ∀ a, l[j]? = some a → p a := by
  intro j hj a ha
  rcases Nat.lt_succ_iff_lt_or_eq.mp hj with lt | rfl
  · exact before j lt a ha
  · cases hx.symm.trans ha
    exact last

/-- A turn carries what the search has found on to one stream more. -/
theorem victimTurn_found {best : Option (Nat × Counted)} (found : FoundIn l c n best) : FoundIn l c (n + 1) (victimTurn l c best n) := by
  by_cases yields : Yields c x
  case neg =>
    rw [victimTurn_skips hx yields]
    match best, found with
    | none, found => exact forall_succ_of_getElem? hx found yields
    | some (i, y), ⟨hy, yieldsY, best⟩ => exact ⟨hy, yieldsY, forall_succ_of_getElem? hx best (absurd · yields)⟩
  case pos =>
    match best, found with
    | none, found =>
      rw [victimTurn_first hx yields]
      exact ⟨hx, yields, forall_succ_of_getElem? hx (fun j hj a ha yieldsA => absurd yieldsA (found j hj a ha)) (fun _ => .refl x)⟩
    | some (i, y), ⟨hy, yieldsY, best⟩ =>
      rw [victimTurn_next hx yields]
      split
      case isTrue better =>
        have yx : NotBefore y x := notBefore_of_not ((better_iff x y).mp better)
        exact ⟨hx, yields, forall_succ_of_getElem? hx (fun j hj a ha yieldsA => (best j hj a ha yieldsA).trans yx) (fun _ => .refl x)⟩
      case isFalse notBetter =>
        have xy : NotBefore x y := Classical.not_not.mp (mt (better_iff x y).mpr notBetter)
        exact ⟨hy, yieldsY, forall_succ_of_getElem? hx best (fun _ => xy)⟩

end

theorem search_found (l : List Counted) (c : Nat) :
    ∀ n ≤ l.length, FoundIn l c n ((List.range n).foldl (victimTurn l c) none)
  | 0, _ => fun _ hj => absurd hj (Nat.not_lt_zero _)
  | n + 1, hn => by
    rw [List.range_succ, List.foldl_append]
    exact victimTurn_found (List.getElem?_eq_getElem hn) (search_found l c n (Nat.le_of_succ_le hn))

/-- The stream to decimate is one that may be, and no other that may be comes before it. -/
theorem victim_spec {l : List Counted} {c i : Nat} (h : victim l c = some i) :
    ∃ y, l[i]? = some y ∧ Yields c y ∧ ∀ (j : Nat) (a : Counted), l[j]? = some a → Yields c a → NotBefore a y := by
  rw [victim_eq_search, Option.map_eq_some_iff] at h
  obtain ⟨⟨i, y⟩, search, rfl⟩ := h
  have found := search_found l c l.length (Nat.le_refl _)
  rw [search] at found
  obtain ⟨hy, yields, best⟩ := found
  exact ⟨y, hy, yields, fun j a ha => best j (List.getElem?_eq_some_iff.mp ha).1 a ha⟩

/-! ## The trial of an admission -/

/-- A counted stream with its decimation multiplied. -/
def decimatedBy (m : Nat) (x : Counted) : Counted := { x with stream := { x.stream with decim := m * x.stream.decim } }

section
variable {l : List Counted} {i j : Nat}

theorem doubleD_length : (doubleD l i).length = l.length := List.length_modify ..

theorem doubleD_same {a : Counted} (ha : l[i]? = some a) : (doubleD l i)[i]? = some (decimatedBy 2 a) :=
  (List.getElem?_modify_eq ..).trans (congrArg _ ha)

theorem doubleD_other (ne : i ≠ j) : (doubleD l i)[j]? = l[j]? := List.getElem?_modify_ne _ l ne

end

/-- What a trial of class `c` may make of a counted stream: its decimation is doubled `k` times, never so for a closed stream nor one
of a class not below `c`, and not beyond 16 for a power of two. -/
def DecimatedFor (c : Nat) (a b : Counted) : Prop :=
  ∃ k, b = decimatedBy (2 ^ k) a ∧ (a.stream.opened = false ∨ a.stream.cls ≤ c → k = 0) ∧
    (k ≠ 0 → (∃ m, a.stream.decim = 2 ^ m) → b.stream.decim ≤ 16)

theorem DecimatedFor.refl (c : Nat) (a : Counted) : DecimatedFor c a a :=
  ⟨0, by simp [decimatedBy], fun _ => rfl, fun h => absurd rfl h⟩

/-- A power of two below 16 is at most 8. -/
theorem two_mul_pow_le {d m : Nat} (below : d < 16) (pow : d = 2 ^ m) : 2 * d ≤ 16 := by
  have : m < 4 := (Nat.pow_lt_pow_iff_right (by decide : 1 < 2)).mp (by omega)
  calc 2 * d = 2 ^ (m + 1) := by rw [pow, Nat.pow_succ']
    _ ≤ 2 ^ 4 := Nat.pow_le_pow_right (by decide) this

theorem DecimatedFor.double {c : Nat} {a b : Counted} (yields : Yields c a) (h : DecimatedFor c (decimatedBy 2 a) b) :
    DecimatedFor c a b := by
  obtain ⟨opened, above, below⟩ := yields
  obtain ⟨k, rfl, -, bound⟩ := h
  refine ⟨k + 1, ?_, ?_, ?_⟩
  · simp only [decimatedBy, Nat.pow_succ, Nat.mul_assoc]
  · rintro (closed | notBelow)
    · exact absurd (opened.symm.trans closed) (by decide)
    · exact absurd above (Nat.not_lt.mpr notBelow)
  · rintro - ⟨m, pow⟩
    by_cases last : k = 0
    · subst last
      simpa [decimatedBy] using two_mul_pow_le below pow
    · exact bound last ⟨m + 1, by rw [decimatedBy, pow, Nat.pow_succ']⟩

section
variable {x : Cxp} {route c : Nat}

/-- A trial stops where it stands, or doubles the decimation of the next stream that yields and goes on. -/
theorem trial_succ (n : Nat) (l : List Counted) : trial x route c (n + 1) l = l ∨
    ∃ i, victim l c = some i ∧ trial x route c (n + 1) l = trial x route c n (doubleD l i) := by
  cases fits : x.fits l route with
  | true => exact .inl (by simp only [trial, fits, if_true])
  | false =>
    cases next : victim l c with
    | none => exact .inl (by simp only [trial, fits, next, Bool.false_eq_true, if_false])
    | some i => exact .inr ⟨i, rfl, by simp only [trial, fits, next, Bool.false_eq_true, if_false]⟩

theorem trial_length : ∀ (n : Nat) (l : List Counted), (trial x route c n l).length = l.length
  | 0, _ => rfl
  | n + 1, l => by
    rcases trial_succ (x := x) (route := route) (c := c) n l with stands | ⟨i, -, goesOn⟩
    · rw [stands]
    · rw [goesOn, trial_length n, doubleD_length]

/-- Each stream stays in its place, decimated as its class allows. -/
theorem trial_decimates {j : Nat} : ∀ (n : Nat) {l : List Counted} {a : Counted}, l[j]? = some a →
    ∃ b, (trial x route c n l)[j]? = some b ∧ DecimatedFor c a b
  | 0, _, a, ha => ⟨a, ha, .refl c a⟩
  | n + 1, l, a, ha => by
    rcases trial_succ (x := x) (route := route) (c := c) n l with stands | ⟨i, next, goesOn⟩
    · rw [stands]
      exact ⟨a, ha, .refl c a⟩
    · rw [goesOn]
      obtain ⟨y, hy, yields, -⟩ := victim_spec next
      by_cases turn : i = j
      · subst turn
        cases hy.symm.trans ha
        obtain ⟨b, hb, decimated⟩ := trial_decimates n (doubleD_same ha)
        exact ⟨b, hb, decimated.double yields⟩
      · exact trial_decimates n ((doubleD_other turn).trans ha)

/-- An admission lets in what its trial gives, and that fits. -/
theorem admitStream_ok {l t : List Counted} {i : Nat} {y : Counted} (hy : l[i]? = some y) (admits : admitStream x l i c = .ok t) :
    trial x y.stream.route c 64 l = t ∧ x.fits t y.stream.route = true := by
  unfold admitStream at admits
  rw [hy] at admits
  dsimp only at admits
  split at admits
  case isTrue fits =>
    cases admits
    exact ⟨rfl, fits⟩
  case isFalse => cases admits

end

/-- Settles O55: the streams let in by what the trial does in each of its turns, the stream of a turn by the search for it. -/
theorem admissionDecimatesLowerClasses : Obligations.AdmissionDecimatesLowerClasses := by
  refine ⟨?_, ?_⟩
  · intro x l t i c y hy admits
    obtain ⟨rfl, fits⟩ := admitStream_ok hy admits
    refine ⟨fits, trial_length 64 l, fun j a ha => ?_⟩
    obtain ⟨b, hb, k, decimated, kept, bound⟩ := trial_decimates (x := x) (route := y.stream.route) (c := c) 64 ha
    exact ⟨k, b, hb, decimated, kept, bound⟩
  · intro l c i found
    obtain ⟨y, hy, ⟨opened, above, below⟩, best⟩ := victim_spec found
    exact ⟨y, hy, opened, above, below, fun j a ha opensA aboveA belowA => best j a ha ⟨opensA, aboveA, belowA⟩⟩

/-! ## The stream commands -/

section
variable {h : Hdr} {s : State}

theorem mirrorOpen_ite (i : Nat) (t : State) :
    (if i = 0 then t.mirrorOpen else t) = (if i = 0 then State.mirrorOpen else id) t := by
  by_cases first : i = 0
  · rw [if_pos first, if_pos first]
  · rw [if_neg first, if_neg first, id]

/-- A stream is opened in the place that the command names, or in the first free one; stream 0 opens the mirror (R603). -/
theorem openBody_admitted {p : StreamOpenP} {x : Stream} {i : Nat} {t : List Counted}
    (hx : openedStream h (s.sess.effClass h) (s.lastAdmit + 1) p = x)
    (admits : admitStream s.cxp (s.counted s.streams s.rd.count s.rd.cfgPeriod ++ s.counted [x] s.rd.count s.rd.cfgPeriod)
      (s.counted s.streams s.rd.count s.rd.cfgPeriod).length (s.sess.effClass h) = .ok t)
    (counts : s.countShort h.session = none)
    (place : (if p.stream = 0xFF then ((List.range 16).find? (fun n => !(s.stream n).opened)).getD 0 else p.stream) = i) :
    openBody h p s = ((if i = 0 then State.mirrorOpen else id) ((s.setStreams t).onStream i (fun _ => x))).answer h 0x10 stOk
      (demandResult i { stream := x, rows := s.rd.count, period := s.countedPeriod (s.sess.effClass h) s.rd.cfgPeriod }) := by
  subst hx
  unfold openBody
  dsimp only
  rw [admits, counts, place]
  exact congrArg (State.answer h 0x10 stOk _) (mirrorOpen_ite i _)

section
variable {stream : Nat}

theorem closeBody_betweenFrames (between : (s.stream stream).inFrame = false) :
    closeBody h stream s = ((s.haltAtEnd stream true).settle).reevaluate.answer h 0x11 stOk [] := if_neg (by simp [between])

theorem closeBody_inFrame (inFrame : (s.stream stream).inFrame = true) :
    closeBody h stream s = ((s.haltAtEnd stream true).settle).park h 0x11 (.frameEnd stream) := if_pos inFrame

/-- A stream that is admitted again starts when the converter and the Haul link let the readout run (R571, R606). -/
theorem startBody_admitted {t : List Counted}
    (admits : admitStream s.cxp (s.counted s.streams s.rd.count s.rd.cfgPeriod) stream (s.stream stream).cls = .ok t)
    (starts : s.startShort = none) {u : State} (hu : u = (s.setStreams t).startStream stream) :
    startBody h stream s = u.answer h 0x12 stOk (le 4 (firstMultiple (u.stream stream).decim u.nextFrame)) := by
  subst hu
  unfold startBody
  dsimp only
  rw [admits, starts]

theorem haltBody_urgent (urgent : h.urgent = true) : haltBody h stream s =
    ((((s.haltTargets h stream).foldl (fun t n => t.truncate stFailAborted n) s).settle).convFrameEnd).answer h 0x13 stOk [] :=
  if_pos urgent

section
variable (atEnd : h.urgent = false)
include atEnd

theorem haltBody_betweenFrames (between : (s.haltTargets h stream).filter (fun n => (s.stream n).inFrame) = []) :
    haltBody h stream s =
      (((s.haltTargets h stream).foldl (fun t n => t.haltAtEnd n false) s).settle).answer h 0x13 stOk [] := by
  unfold haltBody
  simp only [atEnd, between, List.getLast?_nil, Bool.false_eq_true, if_false]

/-- With a frame in transfer the reply waits for the end of the last of them (R553). -/
theorem haltBody_inFrame {n : Nat} (last : ((s.haltTargets h stream).filter (fun n => (s.stream n).inFrame)).getLast? = some n) :
    haltBody h stream s =
      (((s.haltTargets h stream).foldl (fun t n => t.haltAtEnd n false) s).settle).park h 0x13 (.frameEnd n) := by
  unfold haltBody
  simp only [atEnd, last, Bool.false_eq_true, if_false]

end

end

theorem modifyBody_admitted {p : StreamModifyP} {t : List Counted}
    (admits : admitStream s.cxp (s.counted (s.streams.modify p.stream (Stream.modified p)) s.rd.count s.rd.cfgPeriod) p.stream
      (s.stream p.stream).cls = .ok t) {u : State} (hu : u = s.setStreams t) :
    modifyBody h p s = (u.answer h 0x14 stOk (demandResult p.stream
      { stream := u.stream p.stream, rows := s.rd.count
        period := s.countedPeriod (u.stream p.stream).cls s.rd.cfgPeriod })).reevaluate := by
  subst hu
  unfold modifyBody
  dsimp only
  rw [admits]

end

/-- Settles O7: the commands with an admission by its outcome, STREAM_CLOSE and STREAM_HALT by the frames in transfer. -/
theorem streamCommandsComplete : Obligations.StreamCommandsComplete := by
  refine ⟨?_, ?_, ?_, ?_, ?_, ?_, ?_, ?_, ?_⟩
  · rintro h p s a x i t rfl r hx admits counts place
    exact (serve_runs h 0x10 _ _ _ s r).trans (congrArg _ (openBody_admitted hx admits counts place))
  · rintro h stream s a rfl r between
    exact (serve_runs h 0x11 _ _ _ s r).trans (congrArg _ (closeBody_betweenFrames between))
  · rintro h stream s a rfl r inFrame
    exact (serve_runs h 0x11 _ _ _ s r).trans (congrArg _ (closeBody_inFrame inFrame))
  · rintro h wait stream s a t rfl r admits starts
    exact ⟨_, rfl, (serve_runs h 0x12 _ _ _ s r).trans (congrArg _ (startBody_admitted admits starts rfl))⟩
  · rintro h stream s a rfl r urgent
    exact (serve_runs h 0x13 _ _ _ s r).trans (congrArg _ (haltBody_urgent urgent))
  · rintro h stream s a rfl r atEnd between
    exact (serve_runs h 0x13 _ _ _ s r).trans (congrArg _ (haltBody_betweenFrames atEnd between))
  · rintro h stream s a n rfl r atEnd last
    exact (serve_runs h 0x13 _ _ _ s r).trans (congrArg _ (haltBody_inFrame atEnd last))
  · rintro h p s a t rfl r admits
    exact ⟨_, rfl, (serve_runs h 0x14 _ _ _ s r).trans (congrArg _ (modifyBody_admitted admits rfl))⟩
  · rintro h qmask s a rfl r
    exact serve_runs h 0x1A _ _ _ s r

/-! ## Deferred calibration commands -/

section
variable {h : Hdr} {op wait resource : Nat} {cmd : Instr} {s : State}

/-- The effect of a request that is deferred for a resource: in flight until the end of its WAIT, with its estimate (R574, R576). -/
def deferredFor (h : Hdr) (op wait : Nat) (cmd : Instr) (rs : List Nat) (resource : Nat) (s : State) : State :=
  s.interim h op (some cmd) (.deferred resource (s.tb.now + msTicks wait) s.tb.now) stDeferred
    (s.deferredResult rs resource (s.sess.effClass h) wait)

theorem admitExclusive_waits {rs : List Nat} {start : State → State} (waits : wait ≠ 0)
    (blocked : s.blockedOn rs (s.sess.effClass h) s.sess.deferred = some resource) :
    s.admitExclusive h op wait cmd rs start = deferredFor h op wait cmd rs resource s := by
  unfold State.admitExclusive
  rw [blocked]
  exact if_neg waits

theorem admitCal_waits (conv : s.convShort 2 = none) (waits : wait ≠ 0)
    (blocked : s.blockedOn (needsOf op) (s.sess.effClass h) s.sess.deferred = some resource) :
    s.admitCal h op wait cmd = deferredFor h op wait cmd (needsOf op) resource s := by
  unfold State.admitCal
  rw [conv]
  exact admitExclusive_waits waits blocked

section
variable {gate : State → Gate} (r : runs h op gate s = true)
include r

/-- The rows of SHUTTER_CAL and GAIN_CAL. -/
theorem calibration_waits (conv : (acting h op s).convShort 2 = none) (waits : wait ≠ 0)
    (blocked : (acting h op s).blockedOn (needsOf op) ((acting h op s).sess.effClass h) (acting h op s).sess.deferred = some resource) :
    live s (serve h op cmd gate (State.admitCal h op wait cmd)) =
      .next (deferredFor h op wait cmd (needsOf op) resource (acting h op s)) :=
  (serve_runs h op cmd gate _ s r).trans (congrArg _ (admitCal_waits conv waits blocked))

/-- The rows of the other commands that may be deferred. -/
theorem deferrable_waits (waits : wait ≠ 0)
    (blocked : (acting h op s).blockedOn (needsOf op) ((acting h op s).sess.effClass h) (acting h op s).sess.deferred = some resource) :
    live s (serve h op cmd gate (fun t => t.admitExclusive h op wait cmd (needsOf op) (State.startCmd cmd))) =
      .next (deferredFor h op wait cmd (needsOf op) resource (acting h op s)) :=
  (serve_runs h op cmd gate _ s r).trans (congrArg _ (admitExclusive_waits waits blocked))

end

end

/-- Settles O58: each command by the resource that it lacks, SHUTTER_CAL and GAIN_CAL with a converter that lets them run. -/
theorem calibrationCommandsDeferred : Obligations.CalibrationCommandsDeferred := by
  refine ⟨?_, ?_, ?_, ?_, ?_, ?_⟩
  · rintro h wait x y z s a resource rfl r conv waits blocked
    exact calibration_waits r conv waits blocked
  · rintro h wait x y z s a resource rfl r conv waits blocked
    exact calibration_waits r conv waits blocked
  · rintro h wait es s a resource rfl r waits blocked
    exact deferrable_waits r waits blocked
  · rintro h wait set s a resource rfl r waits blocked
    exact deferrable_waits r waits blocked
  · rintro h wait s a resource rfl r waits blocked
    exact deferrable_waits r waits blocked
  · rintro h wait first rs s a resource rfl r waits blocked
    exact deferrable_waits r waits blocked

end Sys2Proof.Proofs

/-!
PROOFS. The step of a block and what every step keeps (R849, R949 to R953), and the queries of a session (R597).
-/

namespace Sys2Proof.Proofs

open Sys2Proof Sys2Proof.Machine Sys2Proof.Safety Sys2Proof.Laws

/-! ## The step -/

section
variable {s t : State}

theorem step_command (c : Instr) (rest : List Instr) (s : State) :
    step { s with pending := c :: rest } = exec c { s with pending := rest } := rfl

theorem step_idle (empty : s.pending = []) : step s = .next (idle s) := by
  unfold step
  rw [empty]

/-- A step keeps what its command keeps of the state without that command, and on an empty queue all of it. -/
theorem step_keeps (e : step s = .next t) : Keeps { s with pending := s.pending.tail } t := by
  cases queue : s.pending with
  | nil =>
    cases (step_idle queue).symm.trans e
    exact .of ((idle_kept s).trans (congrArg (fun q => Kept.mk q s.fuse.words s.psto.mem) queue))
  | cons c rest =>
    unfold step at e
    rw [queue] at e
    exact exec_keepsNext c _ t e

end

/-- Settles O36: by the queue. -/
theorem stepRunsTheFrontCommand : Obligations.StepRunsTheFrontCommand :=
  ⟨step_command, fun s empty => ⟨idle s, step_idle empty, (kept_pending (idle_kept s)).trans empty⟩⟩

/-- Settles O38: the canonical form is among what a step keeps. -/
theorem storeStaysCanonical : Obligations.StoreStaysCanonical :=
  fun _ _ canonical e => (step_keeps e).area canonical

/-- Settles O39: so are the blown bits. -/
theorem blownFusesStay : Obligations.BlownFusesStay :=
  fun _ _ e w i blown => (step_keeps e).fuses w i blown

/-! ## PING, STATUS_GET, TIME_GET, EVENT_SUBSCRIBE -/

/-- Settles O1: each command by its body. -/
theorem systemQueriesComplete : Obligations.SystemQueriesComplete :=
  ⟨fun h _ s r => serve_runs h 0x00 _ _ _ s r, fun h s r => serve_runs h 0x06 _ _ _ s r,
    fun h s r => serve_runs h 0x0D _ _ _ s r, fun h _ s r => serve_runs h 0x07 _ _ _ s r⟩

end Sys2Proof.Proofs

/-!
PROOFS. The watchdogs: HOST_KEEPALIVE and WDG_CONFIG, the firmware's keys and period, lapse, warning, expiry and count timer (R601,
R602, R770 to R794).
-/

namespace Sys2Proof.Proofs

open Sys2Proof Sys2Proof.Machine Sys2Proof.Safety Sys2Proof.Laws

/-! ## Keys and settings -/

section
variable {h : Hdr} {s : State}

/-- A KEY_A while the host watchdog runs becomes pending (R773, R778). -/
theorem keepaliveBody_keyA (runs : s.hostRuns = true) :
    keepaliveBody h keyA s = (s.onDog true (Dog.takeA h.session h.tick)).answer h 0x0E stOk
      (keepaliveResult 0 (s.wdg.host.usToEdge s.fuse.windowK h.tick)) := by
  unfold keepaliveBody keepaliveRuns
  rw [if_pos runs]
  exact if_pos rfl

/-- A paired KEY_B in the open window, before the expiry, counts (R774, R775, R781). -/
theorem keepaliveBody_keyB (runs : s.hostRuns = true) (paired : s.wdg.host.paired h.session h.tick = true)
    (before : h.tick < s.wdg.host.start + s.wdg.host.t) (window : s.wdg.host.windowOpen s.fuse.windowK h.tick = true) :
    keepaliveBody h keyB s = (s.onDog true (Dog.counted h.tick)).answer h 0x0E stOk
      (keepaliveResult 1 ((s.wdg.host.counted h.tick).usToEdge s.fuse.windowK h.tick)) := by
  unfold keepaliveBody keepaliveRuns
  rw [if_pos runs]
  dsimp only
  rw [if_neg (by decide), paired, if_neg (by decide), if_neg (by omega), if_pos window]

/-- While the host watchdog does not run a key is answered and no violation recorded: disabled as R779 has it, suspended or stopped alike
(log entry 122). -/
theorem keepaliveBody_idle {key : Nat} (idle : s.hostRuns = false) : keepaliveBody h key s = keepaliveIdle h key s := by
  unfold keepaliveBody
  rw [if_neg (by simp [idle])]

end

section
variable {s : State} {tick pc : Nat}

/-- A key that the firmware writes while its watchdog runs. -/
theorem fwKeyWrite_runs {key : Nat} (hs : inRatings s) (runs : (s.atTick tick).fwRuns = true) :
    exec (.fwKeyWrite key tick pc) s = .next ((s.atTick tick).fwKey key tick pc) := by
  apply live_to hs
  exact if_pos runs

theorem fwKey_keyA : s.fwKey keyA tick pc = s.onDog false (Dog.takeA 0 tick) := by
  unfold State.fwKey
  exact if_pos rfl

theorem fwKey_keyB (paired : s.wdg.fw.paired 0 tick = true) (before : tick < s.wdg.fw.start + s.wdg.fw.t)
    (window : s.wdg.fw.windowOpen s.fuse.windowK tick = true) :
    s.fwKey keyB tick pc = s.onDog false (Dog.counted tick) := by
  unfold State.fwKey
  dsimp only
  rw [if_neg (by decide), if_neg (by decide), paired, if_neg (by decide), if_neg (by omega), if_pos window]

/-- A period that the firmware writes in its window applies from the next one (R786, R788). -/
theorem wdgFwCtrlWrite_window {period : Nat} (hs : inRatings s) (runs : (s.atTick tick).fwRuns = true)
    (window : s.wdg.fw.windowOpen s.fuse.windowK tick = true) :
    exec (.wdgFwCtrlWrite period tick pc) s = .next ((s.atTick tick).onDog false (fun d => { d with nextPeriod := period })) := by
  apply live_to hs
  dsimp only
  rw [runs]
  exact if_pos window

end

/-- Settles O5: a key by whether the watchdog runs, pairs and has its window open, WDG_CONFIG by its body. -/
theorem watchdogCommandsComplete : Obligations.WatchdogCommandsComplete := by
  refine ⟨?_, ?_, ?_, ?_, ?_, ?_, ?_, ?_⟩
  · intro h s r runs
    exact (serveNow_runs h 0x0E _ _ _ s r).trans (congrArg _ (keepaliveBody_keyA runs))
  · intro h s r runs paired before window
    exact (serveNow_runs h 0x0E _ _ _ s r).trans (congrArg _ (keepaliveBody_keyB runs paired before window))
  · intro h s r idle
    exact (serveNow_runs h 0x0E _ _ _ s r).trans (congrArg _ ((keepaliveBody_idle idle).trans (if_pos rfl)))
  · intro h s r idle
    exact (serveNow_runs h 0x0E _ _ _ s r).trans (congrArg _ ((keepaliveBody_idle idle).trans (if_neg (by decide))))
  · intro h period enable s r
    exact serve_runs h 0x0F _ _ _ s r
  · intro tick pc s hs runs
    exact (fwKeyWrite_runs hs runs).trans (congrArg _ fwKey_keyA)
  · intro tick pc s hs runs paired before window
    exact (fwKeyWrite_runs hs runs).trans (congrArg _ (fwKey_keyB paired before window))
  · intro period tick pc s hs runs window
    exact wdgFwCtrlWrite_window hs runs window

/-! ## The timers -/

/-- Settles O6: the lapse in any state, the warning, the expiry and the count timer by the watchdog or the core that runs. -/
theorem watchdogEventsComplete : Obligations.WatchdogEventsComplete := by
  refine ⟨?_, ?_, ?_, ?_⟩
  · intro host s hs
    exact live_in s _ hs
  · intro host s hs runs unwarned
    exact live_to hs (if_pos (by simp [runs, unwarned]))
  · intro host pc s hs runs
    exact live_to hs (if_pos runs)
  · intro s hs booted serves
    exact live_to hs (if_pos (by simp [booted, serves]))

end Sys2Proof.Proofs

/-!
PROOFS. The actuators: their commands (R615 to R620, R707 to R750), the phases of a channel (R709 to R728), faults and the trailer report
(R419, R729 to R734), scheduled fires, Chisel programs and the shutter (R736 to R756).
-/

namespace Sys2Proof.Proofs

open Sys2Proof Sys2Proof.Machine Sys2Proof.Safety Sys2Proof.Laws

/-! ## The commands -/

section
variable {h : Hdr} {code hold : Nat} {s : State}

/-- A fire of a profile that extends none waits for its slot, and so does its answer (R617, R714). -/
theorem fireBody_waits (new : (s.chan (chanOf code)).extends = false) :
    fireBody h code 0 hold s =
      (s.fire (chanOf code) 0 hold s.tb.now (.command h.session h.tag)).park h 0x32 (.slot (chanOf code)) := by
  unfold fireBody
  dsimp only
  rw [if_neg (by decide), new]
  rfl

/-- An EXTEND is answered with the switch-on of the profile that runs (R718). -/
theorem fireBody_extends (running : (s.chan (chanOf code)).extends = true) :
    fireBody h code 0 hold s = (s.fire (chanOf code) 0 hold s.tb.now (.command h.session h.tag)).answer h 0x32 stOk
      (le 8 (s.chan (chanOf code)).onAt) := by
  unfold fireBody
  dsimp only
  rw [if_neg (by decide), if_pos running]

/-- A program's fire is answered with a free value (log entry 2). -/
theorem fireBody_program : fireBody h code 1 hold s =
    ({ s.fire (chanOf code) 1 hold s.tb.now (.command h.session h.tag) with
        freeCtr := (s.fire (chanOf code) 1 hold s.tb.now (.command h.session h.tag)).freeCtr + 2 } : State).answer h 0x32 stOk
      (le 8 (freeTick s.freeCtr)) := by
  unfold fireBody
  exact if_pos rfl

theorem scheduleBody_free {p : ScheduleP} {n : Nat} (free : s.act.freeHandle = some n) :
    scheduleBody h p s = (s.onAct (fun x => { x with schedules := x.schedules ++
        [{ handle := n, session := h.session, ch := chanOf p.ch, kind := p.kind, ref := p.ref, value := p.value % 2 ^ 64,
           offset := p.offset, hold := p.hold, fireAt := if p.ref = 0 then some (p.value + p.offset) else none }] })).answer
      h 0x33 stOk [BitVec.ofNat 8 n, 0#8, 0#8, 0#8] := by
  unfold scheduleBody
  rw [free]
  rfl

end

/-- Settles O12: each command by its body, ACT_FIRE by its kind and whether it extends, SHUTTER_MOVE by its free resources. The switch-on
of a program is a free value (log entry 2). -/
theorem actuatorCommandsComplete : Obligations.ActuatorCommandsComplete := by
  refine ⟨?_, ?_, ?_, ?_, ?_, ?_, ?_, ?_, ?_⟩
  · rintro h ch c s a rfl r
    exact serve_runs h 0x30 _ _ _ s r
  · rintro h q first words s a l rfl r rfl
    exact serve_runs h 0x31 _ _ _ s r
  · rintro h wait ch hold s a rfl r new
    exact (serve_runs h 0x32 _ _ _ s r).trans (congrArg _ (fireBody_waits new))
  · rintro h wait ch hold s a rfl r running
    exact (serve_runs h 0x32 _ _ _ s r).trans (congrArg _ (fireBody_extends running))
  · rintro h wait ch hold s a rfl r
    exact ⟨_, _, rfl, (serve_runs h 0x32 _ _ _ s r).trans (congrArg _ fireBody_program)⟩
  · rintro h p s a n rfl r free
    exact (serve_runs h 0x33 _ _ _ s r).trans (congrArg _ (scheduleBody_free free))
  · rintro h x y f s a rfl r
    exact serve_runs h 0x34 _ _ _ s r
  · rintro h ch s a rfl r
    exact serve_runs h 0x35 _ _ _ s r
  · rintro h wait dir s a rfl r free
    exact deferrable_starts r free

/-! ## The phases of a channel -/

section
variable {ch tick mA : Nat} {s : State}

/-- A fire that waits and may be granted: by its test under the reference current (R730). -/
theorem actSlotGrant_tested {delta : Nat} {f : Fire} (hs : inRatings s) (waits : ((s.atTick tick).chan ch).waiting = some f)
    (may : (s.atTick tick).mayGrant ch = true) :
    exec (.actSlotGrant ch delta tick) s = .next (if refTestOk delta then (s.atTick tick).grant ch tick f
      else (s.atTick tick).bankFault (bankOf ch) 0x04) := by
  apply live_to hs
  dsimp only
  rw [waits]
  exact if_pos may

theorem slotTimeout_command {f : Fire} {session tag : Nat} (waits : (s.chan ch).waiting = some f)
    (source : f.src = .command session tag) :
    s.slotTimeout ch = s.dropWaiting ch stCapacity (slotRefusal (s.chan ch) (bankOf ch)) := by
  unfold State.slotTimeout
  rw [waits]
  dsimp only
  rw [source]

theorem slotTimeout_schedule {f : Fire} {handle : Nat} (waits : (s.chan ch).waiting = some f) (source : f.src = .schedule handle) :
    s.slotTimeout ch = s.dropWaiting ch stCapacity [] := by
  unfold State.slotTimeout
  rw [waits]
  dsimp only
  rw [source]

section
variable (boost : (s.chan ch).phase = .boost) (early : (s.chan ch).peaked = false)
include boost early

/-- The first peak of a boost (R709, R724). -/
theorem peakReached_first : s.peakReached ch mA tick =
    ((if tick - (s.chan ch).onAt < usTicks (s.chan ch).cfg.minPeak then
        (s.onChan ch (fun c =>
          { c with peaked := true, lastPeak := measuredCoil ch mA, lastTtp := min (roundDiv (tick - (s.chan ch).onAt) 100) 0xFFFF })).actDiag
            (chanCode ch) 0x01 (roundDiv (tick - (s.chan ch).onAt) 100)
      else s.onChan ch (fun c =>
          { c with peaked := true, lastPeak := measuredCoil ch mA, lastTtp := min (roundDiv (tick - (s.chan ch).onAt) 100) 0xFFFF })).boostOver
      ch).onChan ch (Chan.boostEnds tick) :=
  if_neg (by simp [boost, early])

/-- A boost that misses its peak without current, its supply present: OPEN_COIL (R729). -/
theorem peakMissed_open (low : mA < 20) (supplied : 9000 ≤ s.supplyOf ch) :
    s.peakMissed ch mA tick = (s.chanFault ch 0x01).shutterFault ch := by
  unfold State.peakMissed
  rw [if_neg (by simp [boost, early]), if_pos (by simp [low, supplied])]

/-- One that misses it with current: PEAK_TIME (R724). -/
theorem peakMissed_current (current : 20 ≤ mA) :
    s.peakMissed ch mA tick = ((s.actDiag (chanCode ch) 0x01 0xFFFFFFFF).boostOver ch).onChan ch (Chan.boostEnds tick) := by
  unfold State.peakMissed
  rw [if_neg (by simp [boost, early]), if_neg (by simp; omega)]
  dsimp only
  rw [if_pos current]

end

theorem holdEntered_decay (decay : (s.chan ch).phase = .decay) :
    s.holdEntered ch tick = (s.onChan ch (fun c => { c with phase := .hold, pathOn := false, lastSwitch := tick })).onAct
      (Act.releaseSlot ch) := if_pos decay

theorem switchOff_due (runs : (s.chan ch).profileRuns = true) (profile : (s.chan ch).chisel = false) (due : (s.chan ch).offAt ≤ tick) :
    s.switchOff ch tick = ((s.boostOver ch).chanOff ch).moveOver ch (s.chan ch).motion := if_pos (by simp [runs, profile, due])

/-- A dip of a profile in its window, with the low-side switch on (R722). -/
theorem motionDip_confirmed {dipAt : Nat} (profile : (s.chan ch).chisel = false) (boost : (s.chan ch).phase = .boost)
    (watched : 0 < (s.chan ch).cfg.dipEnd) (low : (s.chan ch).lowSide tick = true)
    (after : (s.chan ch).onAt + usTicks (s.chan ch).cfg.dipStart ≤ dipAt)
    (before : dipAt ≤ (s.chan ch).onAt + usTicks (s.chan ch).cfg.dipEnd) :
    s.motionDip ch dipAt tick = s.onChan ch (fun c =>
      { c with motion := true, lastDip := min (roundDiv (dipAt - c.onAt) 100) 0xFFFF }) := by
  unfold State.motionDip
  dsimp only
  rw [if_neg (by simp [profile]), if_pos (by simp [boost, watched, low, after, before])]

theorem dutyCut_on {duty : Nat} (on : (s.chan ch).phase ≠ .off) :
    s.dutyCut ch duty = ((((s.boostOver ch).endDriver ch).chanOff ch).actDiag (chanCode ch) 0x03 duty).moveOver ch
      ((s.chan ch).motion && !(s.chan ch).chisel) := if_neg on

end

/-- Settles O13: each event by the phase of the channel in which it acts. -/
theorem channelPhaseEventsComplete : Obligations.ChannelPhaseEventsComplete := by
  refine ⟨?_, ?_, ?_, ?_, ?_, ?_, ?_, ?_, ?_, ?_, ?_, ?_, ?_, ?_⟩
  · intro ch tick s f hs waits may
    exact (actSlotGrant_tested hs waits may).trans (congrArg _ (if_pos (by decide)))
  · intro ch tick s f hs waits may
    exact (actSlotGrant_tested hs waits may).trans (congrArg _ (if_neg (by decide)))
  · intro ch s f session tag hs waits source
    apply live_to hs
    exact slotTimeout_command waits source
  · intro ch s f handle hs waits source
    apply live_to hs
    exact slotTimeout_schedule waits source
  · intro ch mA tick s hs boost early
    refine ⟨_, _, rfl, rfl, ?_⟩
    apply live_to hs
    exact peakReached_first boost early
  · intro ch mA tick s hs boost early low supplied
    apply live_to hs
    exact peakMissed_open boost early low supplied
  · intro ch mA tick s hs boost early current
    apply live_to hs
    exact peakMissed_current boost early current
  · intro ch tick s hs decay
    apply live_to hs
    exact holdEntered_decay decay
  · intro ch tick s hs decay
    apply live_to hs
    exact holdEntered_decay decay
  · intro ch upper tick s hs
    apply live_to hs
    rfl
  · intro ch tick s hs runs profile due
    apply live_to hs
    exact switchOff_due runs profile due
  · intro ch tick s hs
    apply live_to hs
    rfl
  · intro ch dipAt tick s hs profile boost watched low after before
    apply live_to hs
    exact motionDip_confirmed profile boost watched low after before
  · intro ch duty tick s hs on
    apply live_to hs
    exact dutyCut_on on

/-! ## Faults, the supply of a bank, the trailer report -/

/-- Settles O14: each fault by its effect, the supply by its limit of 9 V. -/
theorem actuatorFaultsComplete : Obligations.ActuatorFaultsComplete := by
  refine ⟨?_, ?_, ?_, ?_, ?_, ?_, ?_⟩
  · intro ch tick s hs
    apply live_to hs
    rfl
  · intro ch tick s hs
    apply live_to hs
    rfl
  · intro bank tick s hs
    apply live_to hs
    rfl
  · intro bank tick s hs
    apply live_to hs
    rfl
  · intro bank mv tick s hs low
    apply live_to hs
    exact if_pos low
  · intro bank mv tick s hs supplied
    apply live_to hs
    exact if_neg (by omega)
  · intro ch kind tick s hs
    apply live_to hs
    rfl

/-! ## Scheduled fires, programs and the shutter -/

section
variable {seq tick : Nat} {s : State} (hs : inRatings s)
include hs

theorem scheduledFireInstant_due {handle : Nat} {x : Schedule} (due : (s.atTick tick).scheduleDue handle tick = some x) :
    exec (.scheduledFireInstant handle tick) s = .next ((s.atTick tick).scheduleFires x (x.fireAt.getD tick)) := by
  apply live_to hs
  dsimp only
  rw [due]

section
variable (runs : (s.act.chisel seq).run = true)
include runs

theorem chiselWaitEnd_due {n : Nat} (waits : (s.act.chisel seq).wait = .untilTick n) (due : n ≤ tick) :
    exec (.chiselWaitEnd seq tick) s = .next ((s.atTick tick).programGoes seq tick id) := by
  apply live_to hs
  simp [State.atTick, waits, runs, due]

theorem chiselWaitfEnd_counted (waits : (s.act.chisel seq).wait = .strobes 0) :
    exec (.chiselWaitfEnd seq tick) s = .next ((s.atTick tick).programGoes seq tick id) := by
  apply live_to hs
  simp [State.atTick, waits, runs]

theorem chiselWaitaEnd_fired {e : Nat} (waits : (s.act.chisel seq).wait = .angle e) (tracking : s.enc.state = 0) :
    exec (.chiselWaitaEnd seq tick) s = .next ((s.atTick tick).programGoes seq tick (fun c => { c with mark := tick })) := by
  apply live_to hs
  simp [State.atTick, waits, runs, tracking]

section
variable {i level deadline : Nat} {rising : Bool} (waits : (s.act.chisel seq).wait = .current i rising level deadline)
include waits

theorem chiselWaitiEnd_reached :
    exec (.chiselWaitiEnd seq tick) s = .next ((s.atTick tick).programGoes seq tick (fun x => { x with timedOut := false })) := by
  apply live_to hs
  simp [State.atTick, waits, runs]

theorem chiselWaitiTimeout_due (due : deadline ≤ tick) :
    exec (.chiselWaitiTimeout seq tick) s = .next ((s.atTick tick).programGoes seq tick (fun x => { x with timedOut := true })) := by
  apply live_to hs
  simp [State.atTick, waits, runs, due]

end

theorem chiselInstructionLimit_running (active : (s.act.chisel seq).wait = .none) :
    exec (.chiselInstructionLimit seq tick) s = .next (((s.atTick tick).programFault seq 0x04
      (wordChan seq ((s.act.chisel seq).words.getD (s.act.chisel seq).pc 0))).programMove) := by
  apply live_to hs
  exact if_pos (by simp [State.atTick, runs, active])

end

/-- A shutter program that runs too long, with its move on the bridge (R753). -/
theorem shutterProgramTimeout_moving (runs : (s.act.chisel 2).run = true)
    (moving : ((s.atTick tick).onAct (Act.endProgram 2)).act.moving = true) :
    exec (.shutterProgramTimeout tick) s = .next (((s.atTick tick).onAct (Act.endProgram 2)).shutterEnds false true) := by
  apply live_to hs
  exact (if_pos runs).trans (if_pos moving)

end

/-- VSHR that is ready outside Ride-through starts the move that waits for it (R76). -/
theorem vshrReady_starts {mv tick : Nat} {s : State} (hs : inRatings s) (ready : 18000 ≤ mv) (waits : s.act.vshrWait = true)
    (asked : s.act.move.isSome = true) (mode : s.pwr.mode ≠ .ride) {u : State}
    (hu : u = ((s.atTick tick).onPwr (fun p => { p with vshr := mv })).moveStart (s.atTick tick).tb.now) :
    exec (.vshrReady mv tick) s = .next (if u.deadMove then u.shutterEnds false true else u) := by
  have vshr : Pwr.vshrAt mv s.pwr = { s.pwr with vshr := mv } := by
    unfold Pwr.vshrAt
    rw [if_neg mode]
  have at_ : (s.atTick tick).onPwr (Pwr.vshrAt mv) = (s.atTick tick).onPwr (fun p => { p with vshr := mv }) :=
    congrArg (fun p => { s.atTick tick with pwr := p }) vshr
  subst hu
  apply live_to hs
  dsimp only
  rw [at_]
  exact if_pos (by simp [State.atTick, ready, waits, asked, mode])

/-- Settles O15: each wait by the instruction that waits, the limits and VSHR by the program or the move that they meet. -/
theorem sequencersAndShutterComplete : Obligations.SequencersAndShutterComplete := by
  refine ⟨?_, ?_, ?_, ?_, ?_, ?_, ?_, ?_, ?_, ?_⟩
  · intro handle tick s x hs due
    exact scheduledFireInstant_due hs due
  · intro seq tick s n hs waits runs due
    exact chiselWaitEnd_due hs runs waits due
  · intro seq tick s hs waits runs
    exact chiselWaitfEnd_counted hs runs waits
  · intro seq tick s e hs waits runs tracking
    exact chiselWaitaEnd_fired hs runs waits tracking
  · intro seq tick s a b c d hs waits runs
    exact chiselWaitiEnd_reached hs runs waits
  · intro seq tick s a b c d hs waits runs due
    exact chiselWaitiTimeout_due hs runs waits due
  · intro seq tick s hs active runs
    exact chiselInstructionLimit_running hs runs active
  · intro tick s hs runs moving
    exact shutterProgramTimeout_moving hs runs moving
  · intro s hs waits timed
    apply live_to hs
    exact if_pos (by simp [waits, timed])
  · intro mv tick s hs ready waits asked mode
    exact ⟨_, rfl, vshrReady_starts hs ready waits asked mode rfl⟩

end Sys2Proof.Proofs

/-!
PROOFS. The parameter store, the counters and the log: their commands (R621 to R624), the background work (R852 to R893, R912 to R960), the
bytes that a write and an erase leave (R868, R869) and the void ranges (R878).
-/

namespace Sys2Proof.Proofs

open Sys2Proof Sys2Proof.Machine Sys2Proof.Safety Sys2Proof.Laws

/-! ## The commands -/

section
variable {h : Hdr} {first count : Nat} {s : State}

theorem pstoEraseBody_waits (waits : s.eraseWaits = true) : pstoEraseBody h first count s =
    (s.accept h 0x42).onPsto (fun p => { p with queued := p.queued ++ [eraseJob h first count] }) := if_pos waits

theorem pstoEraseBody_begins (free : s.eraseWaits = false) : pstoEraseBody h first count s =
    ((s.accept h 0x42).onPsto (fun p => { p with job := some (eraseJob h first count) })).eraseGo := if_neg (by simp [free])

end

/-- Settles O16: each command by its body, PSTO_ERASE by the erase that it finds in progress. -/
theorem storageCommandsComplete : Obligations.StorageCommandsComplete := by
  refine ⟨?_, ?_, ?_, ?_, ?_, ?_, ?_, ?_⟩
  · rintro h offset count s a rfl r
    exact serve_runs h 0x40 _ _ _ s r
  · rintro h offset bytes s a rfl r
    exact serve_runs h 0x41 _ _ _ s r
  · rintro h first count s a rfl r waits
    exact (serve_runs h 0x42 _ _ _ s r).trans (congrArg _ (pstoEraseBody_waits waits))
  · rintro h first count s a rfl r free
    exact (serve_runs h 0x42 _ _ _ s r).trans (congrArg _ (pstoEraseBody_begins free))
  · rintro h code s a rfl r
    exact serve_runs h 0x43 _ _ _ s r
  · rintro h s a rfl r
    exact serve_runs h 0x44 _ _ _ s r
  · rintro h first count s a rfl r
    exact serve_runs h 0x45 _ _ _ s r
  · rintro h s a rfl r
    exact serve_runs h 0x46 _ _ _ s r

/-! ## The background work -/

/-- An event of the core whose effect on the state is known. -/
theorem core_to {f : State → State} {s t : State} (core : coreActs s = true) (ht : f s = t) : live s (onCore f) = .next t :=
  (live_core s f core).trans (congrArg _ ht)

/-- Settles O17: each event by the condition under which it acts. The hour that COUNTER_RING_WRITE counts is that of its own row (R893), and
a save that waits goes on with the retry (log entry 135). -/
theorem storageEventsComplete : Obligations.StorageEventsComplete := by
  refine ⟨?_, ?_, ?_, ?_, ?_, ?_, ?_, ?_, ?_, ?_, ?_, ?_⟩
  · intro s core due found
    apply core_to core
    exact (if_pos due).trans (if_neg (by simp [Option.isSome_iff_ne_none.mp found]))
  · intro s core due lost
    apply core_to core
    exact (if_pos due).trans (if_pos (by simp [lost]))
  · intro ok s core resolving
    apply core_to core
    exact if_pos resolving
  · intro s core done full
    apply core_to core
    exact if_pos (by simp [done, full])
  · intro vhold s core
    apply core_to core
    rfl
  · intro s hs
    apply live_to hs
    rfl
  · intro s core erases goes
    apply core_to core
    exact if_neg (by simp [erases, goes])
  · intro ring s core due
    apply core_to core
    exact if_pos due
  · intro s core
    apply core_to core
    rfl
  · intro s core entries
    apply core_to core
    exact if_neg (by simp [entries])
  · intro bad s core
    apply core_to core
    rfl
  · intro s core
    apply core_to core
    rfl

/-! ## The bytes of the user area -/

section
variable {s : State}

/-- A command that is not taken, or that a check turns away, has none of its effect. -/
theorem serveAs_withoutEffect {i : Intake} {h : Hdr} {op : Nat} {cmd : Instr} {gate : State → Gate} {body : State → State}
    (bare : (∀ dup, i ≠ .take dup) ∨
      (verdict h op (decide (i = .take true)) (gate (s.taken h op)) (s.taken h op)).isSome = true) :
    (serveAs i h op cmd gate body s).kept = s.kept := by
  cases i with
  | lost => rfl
  | wait => rfl
  | busy => exact State.refuseBusy_kept h op s
  | queue => exact State.enqueue_kept h op cmd s
  | take dup =>
    obtain never | turned := bare
    · exact absurd rfl (never dup)
    · have dup_eq : decide (Intake.take dup = .take true) = dup := by cases dup <;> rfl
      rw [dup_eq] at turned
      obtain ⟨⟨st, res⟩, refused⟩ := Option.isSome_iff_exists.mp turned
      unfold serveAs
      dsimp only
      rw [refused]
      exact (State.answer_kept h op st res _).trans (State.taken_kept h op s)

/-- The sectors of an erase that follow change no byte until their own end. -/
theorem eraseNext_kept (n : Nat) (s : State) : (s.eraseNext n).kept = s.kept := by
  induction n generalizing s with
  | zero => rfl
  | succ n ih =>
    unfold State.eraseNext
    split
    · split
      · rfl
      · exact (ih _).trans rfl
    · split
      · exact (ih _).trans (State.eraseEnds_kept _ s)
      · split
        · exact (ih _).trans (State.eraseEnds_kept _ s)
        · split
          · simp
          · exact (ih _).trans (State.eraseEnds_kept _ s)

/-- The end of a sector's erase blanks that sector (R868, R869). -/
theorem sectorErased_area : s.sectorErased.psto.mem = cellErase s.psto.mem (userOffset s.psto.erasing) 2048 := by
  have finished : (s.onPsto Psto.eraseFinish).psto.mem = cellErase s.psto.mem (userOffset s.psto.erasing) 2048 :=
    Psto.eraseFinish_mem s.psto
  rw [← finished]
  apply kept_area
  unfold State.sectorErased
  dsimp only
  split
  · exact (State.unitDone_kept _).trans (State.eraseEnds_kept _ _)
  · exact eraseNext_kept _ _

end

/-- Settles O48: a write by the run of bytes that it stores, a command without effect by what it keeps, the end of an erase by the sector
that it blanks. -/
theorem userAreaBytes : Obligations.UserAreaBytes := by
  refine ⟨?_, ?_, ?_, ?_⟩
  · intro h offset bytes s t x canonical r e
    cases (serve_runs h 0x41 _ _ _ s r).symm.trans e
    have written : ((acting h 0x41 s).psto.write offset bytes).mem = cellSetRun s.psto.mem offset bytes := Psto.write_mem _ _ _
    exact (congrArg (cellGet · x) written).trans (cellGet_cellSetRun bytes s.psto.mem offset x canonical)
  · intro h offset bytes s t bare e
    rw [← live_next e]
    exact kept_area ((serveAs_withoutEffect bare).trans (State.atTick_kept _ s))
  · intro s t x canonical core erases goes e
    have blanked : exec .pstoSectorEraseDone s = .next s.sectorErased := by
      apply core_to core
      exact if_neg (by simp [erases, goes])
    cases blanked.symm.trans e
    rw [sectorErased_area]
    exact cellGet_cellErase s.psto.mem (userOffset s.psto.erasing) 2048 x canonical
  · intro s t idle e
    have still : (decide (s.psto.erasing = 0xFF) || s.psto.suspended) = true := by simpa using idle
    rw [← live_next e]
    unfold onCore
    dsimp only
    rw [if_pos still, ite_self]

/-! ## Void ranges -/

theorem le_length (k v : Nat) : (le k v).length = k := by
  induction k generalizing v with
  | zero => rfl
  | succ k ih => exact congrArg (· + 1) (ih (v / 256))

section
variable {p : Psto} {offset : Nat}

theorem readByte_void (void : p.inVoid offset = true) : p.readByte offset = 0xFF#8 := by
  unfold Psto.readByte
  rw [if_pos (by simp [void])]

theorem readResult_byte {count k : Nat} (within : k < count) :
    (p.readResult offset count).getD (4 + k) 0 = p.readByte (offset + k) := by
  unfold Psto.readResult
  rw [List.getD_eq_getElem?_getD, List.getElem?_append_right (by rw [le_length]; omega), le_length, Nat.add_sub_cancel_left]
  simp [within]

end

/-- A write with a group in a void range is refused, as one that is not erased is (R622). -/
theorem writeState_void {offset length g : Nat} {s : State} (unprotected : offset + length ≤ protectFrom s.psto.protect)
    (named : g ∈ groupsOf offset length) (void : s.psto.inVoid (8 * g) = true) : s.writeState offset length = some stState := by
  have taken : (groupsOf offset length).any s.psto.taken = true :=
    List.any_eq_true.mpr ⟨g, named, by simp [Psto.taken, void]⟩
  unfold State.writeState
  rw [if_neg (by omega), if_pos (by simp [taken])]

/-- Settles O50: a read by the bytes of its RESULT, a write by its own condition on the state. -/
theorem voidRangesReadErased : Obligations.VoidRangesReadErased := by
  refine ⟨?_, ?_⟩
  · intro h offset count s r
    refine ⟨(acting h 0x40 s).psto.readResult offset count, serve_runs h 0x40 _ _ _ s r, ?_, ?_, ?_⟩
    · simp [Psto.readResult, le_length]
    · exact List.take_left' (le_length 4 offset)
    · intro k within void
      exact (readResult_byte within).trans (readByte_void void)
  · intro h offset bytes s a g ha hs hi hr open_ unprotected named void
    exact serve_refusedState ha hs (by decide) hi hr (by rw [open_]; decide) (writeState_void unprotected named void)

end Sys2Proof.Proofs

/-!
PROOFS. The records of the parameter store: a journal entry and a ring slot as they are programmed and read back (R860 to R863, R886,
R887).
-/

namespace Sys2Proof.Proofs

open Sys2Proof Sys2Proof.Machine Sys2Proof.Safety Sys2Proof.Laws

/-! ## Numbers in bytes -/

theorem ofLe_le (k v : Nat) : ofLe (le k v) = v % 256 ^ k := by
  induction k generalizing v with
  | zero => simp [le, ofLe, Nat.mod_one]
  | succ k ih =>
    have byte : (BitVec.ofNat 8 v).toNat = v % 256 := BitVec.toNat_ofNat v 8
    rw [le, ofLe, ih, byte, Nat.pow_succ', Nat.mod_mul]

/-- A number whose bytes stand at an offset is read back. -/
theorem bytesAt_le {bs : List Byte} {off k v : Nat} (stands : (bs.drop off).take k = le k v) (fits : v < 256 ^ k) :
    bytesAt bs off k = v := by
  unfold bytesAt
  rw [stands, ofLe_le, Nat.mod_eq_of_lt fits]

theorem crc32_lt (bs : List Byte) : (crc32 bs).toNat < 256 ^ 4 := (crc32 bs).isLt

/-! ## Groups -/

section
variable {n : Nat} {bs : List Byte}

theorem inGroups_length (n : Nat) (bs : List Byte) : (inGroups n bs).length = n := by
  induction n generalizing bs with
  | zero => rfl
  | succ n ih => exact congrArg (· + 1) (ih _)

theorem inGroups_sound (n : Nat) (bs : List Byte) : (inGroups n bs).all (fun g => !g.ue) = true := by
  induction n generalizing bs with
  | zero => rfl
  | succ n ih => exact ih _

theorem inGroups_flatten (n : Nat) (bs : List Byte) : ((inGroups n bs).map Group.bytes).flatten = bs.take (8 * n) := by
  induction n generalizing bs with
  | zero => rfl
  | succ n ih => rw [inGroups, List.map_cons, List.flatten_cons, ih, Nat.mul_succ, Nat.add_comm, List.take_add]

theorem slotBytes_inGroups (length : bs.length = 8 * n) : Slot.bytes n (inGroups n bs) = some bs := by
  unfold Slot.bytes
  rw [inGroups_length, inGroups_sound, inGroups_flatten, ← length, List.take_length]
  simp

variable {s : Slot}

/-- A slot that is cut short spells nothing (R860). -/
theorem slotBytes_cut (cut : s.length ≠ n) : Slot.bytes n s = none := by
  unfold Slot.bytes
  rw [if_neg (by simp [cut])]

/-- Nor does one with a double-bit error. -/
theorem slotBytes_ue (bad : s.any Group.ue = true) : Slot.bytes n s = none := by
  obtain ⟨g, inSlot, ue⟩ := List.any_eq_true.mp bad
  have unsound : s.all (fun g => !g.ue) = false := List.all_eq_false.mpr ⟨g, inSlot, by simp [ue]⟩
  unfold Slot.bytes
  rw [unsound, Bool.and_false, if_neg (by decide)]

theorem slotEntry_none (spellsNone : Slot.bytes 2 s = none) : Slot.entry s = none := by
  unfold Slot.entry
  rw [spellsNone]
  rfl

theorem slotRing_none {k : Nat} (spellsNone : Slot.bytes 16 s = none) : Slot.ring k s = none := by
  unfold Slot.ring
  rw [spellsNone]

theorem take_inGroups_short {m : Nat} (short : m < n) : ((inGroups n bs).take m).length ≠ n := by
  rw [List.length_take, inGroups_length]
  omega

end

/-! ## Journal entries -/

/-- Sixteen bytes spell these fields of an entry, and the CRC over the first twelve matches (R861, R863). -/
structure Spells (b : List Byte) (type sector length arg seq : Nat) : Prop where
  type : bytesAt b 0 1 = type
  sector : bytesAt b 1 1 = sector
  length : bytesAt b 2 2 = length
  arg : bytesAt b 4 4 = arg
  seq : bytesAt b 8 4 = seq
  crc : bytesAt b 12 4 = (crc32 (b.take 12)).toNat

section
variable {type sector length arg seq : Nat}

theorem entryBytes_length : (entryBytes type sector length arg seq).length = 16 := by simp [entryBytes, le_length]

theorem entryBytes_spells (htype : type < 2 ^ 8) (hsector : sector < 2 ^ 8) (hlength : length < 2 ^ 16) (harg : arg < 2 ^ 32)
    (hseq : seq < 2 ^ 32) : Spells (entryBytes type sector length arg seq) type sector length arg seq :=
  ⟨bytesAt_le rfl htype, bytesAt_le rfl hsector, bytesAt_le rfl hlength, bytesAt_le rfl harg, bytesAt_le rfl hseq,
    bytesAt_le rfl (crc32_lt _)⟩

end

theorem entry_bytes_length (e : JEntry) : e.bytes.length = 8 * 2 := by
  cases e <;> exact entryBytes_length

/-- Each entry is spelt by its bytes as it was (R861 to R863). -/
theorem ofBytes_bytes {e : JEntry} (fits : entryFits e) : JEntry.ofBytes e.bytes = some e := by
  unfold JEntry.ofBytes JEntry.bytes
  cases e with
  | header g n =>
    have f := entryBytes_spells (type := 1) (sector := 0) (length := 0) (by decide) (by decide) (by decide) fits.1 fits.2
    simp only [f.crc, f.type, f.arg, f.seq, if_true]
  | eraseStart k n =>
    have f := entryBytes_spells (type := 2) (length := 0) (arg := 0) (by decide) fits.1 (by decide) (by decide) fits.2
    simp only [f.crc, f.type, f.sector, f.seq, if_true]
  | eraseDone k n =>
    have f := entryBytes_spells (type := 3) (length := 0) (arg := 0) (by decide) fits.1 (by decide) (by decide) fits.2
    simp only [f.crc, f.type, f.sector, f.seq, if_true]
  | writeStart o l n =>
    obtain ⟨ho, hl, hn⟩ := fits
    have f := entryBytes_spells (type := 4) (sector := 0) (by decide) (by decide) hl ho hn
    simp only [f.crc, f.type, f.length, f.arg, f.seq, if_true]
  | writeCommit o l n =>
    obtain ⟨ho, hl, hn⟩ := fits
    have f := entryBytes_spells (type := 5) (sector := 0) (by decide) (by decide) hl ho hn
    simp only [f.crc, f.type, f.length, f.arg, f.seq, if_true]
  | void o l n =>
    obtain ⟨ho, hl, hn⟩ := fits
    have f := entryBytes_spells (type := 6) (sector := 0) (by decide) (by decide) hl ho hn
    simp only [f.crc, f.type, f.length, f.arg, f.seq, if_true]
  | protect c n =>
    have f := entryBytes_spells (type := 7) (sector := 0) (length := 0) (by decide) (by decide) (by decide) fits.1 fits.2
    simp only [f.crc, f.type, f.arg, f.seq, if_true]
  | run n =>
    have f := entryBytes_spells (type := 8) (sector := 0) (length := 0) (arg := 0) (by decide) (by decide) (by decide) (by decide) fits
    simp only [f.crc, f.type, f.seq, if_true]
  | cleanOff n =>
    have f := entryBytes_spells (type := 9) (sector := 0) (length := 0) (arg := 0) (by decide) (by decide) (by decide) (by decide) fits
    simp only [f.crc, f.type, f.seq, if_true]

theorem entry_inGroups {e : JEntry} (fits : entryFits e) : Slot.entry (inGroups 2 e.bytes) = some e := by
  unfold Slot.entry
  rw [slotBytes_inGroups (entry_bytes_length e)]
  exact ofBytes_bytes fits

/-! ## Ring slots -/

/-- MAGIC, SEQ and payload of a slot, over which its CRC goes (R886). -/
def slotBody (k seq : Nat) (l : List Byte) : List Byte := le 4 (0x534C4F30 + k) ++ le 4 seq ++ l

section
variable {k seq : Nat} {l : List Byte} (full : l.length = 112)
include full

theorem slotBytes_eq : slotBytes k seq l =
    slotBody k seq l ++ (le 4 (crc32 (slotBody k seq l)).toNat ++ le 4 0x5A5A5A5A) := by
  unfold slotBytes
  rw [List.take_left' full]
  exact List.append_assoc _ _ _

theorem slotBody_length : (slotBody k seq l).length = 120 := by simp [slotBody, le_length, full]

theorem slotBytes_length : (slotBytes k seq l).length = 8 * 16 := by
  simp [slotBytes_eq full, slotBody_length full, le_length]

/-- A slot as it is written is valid, with its SEQ and its payload (R887). -/
theorem ring_slotBytes (ring : k < 4) (fits : seq < 2 ^ 32) : Slot.ring k (inGroups 16 (slotBytes k seq l)) = some (seq, l) := by
  have magic : bytesAt (slotBytes k seq l) 0 4 = 0x534C4F30 + k := bytesAt_le rfl (by omega)
  have number : bytesAt (slotBytes k seq l) 4 4 = seq := bytesAt_le rfl fits
  have body : (slotBytes k seq l).take 120 = slotBody k seq l := by rw [slotBytes_eq full, List.take_left' (slotBody_length full)]
  have rest : (slotBytes k seq l).drop 120 = le 4 (crc32 (slotBody k seq l)).toNat ++ le 4 0x5A5A5A5A := by
    rw [slotBytes_eq full, List.drop_left' (slotBody_length full)]
  have crc : bytesAt (slotBytes k seq l) 120 4 = (crc32 (slotBody k seq l)).toNat :=
    bytesAt_le (by rw [rest]; rfl) (crc32_lt _)
  have commit : bytesAt (slotBytes k seq l) 124 4 = 0x5A5A5A5A :=
    bytesAt_le (by rw [← List.drop_drop (i := 4) (j := 120), rest]; rfl) (by decide)
  have payload : ((slotBytes k seq l).drop 8).take 112 = l := by
    rw [slotBytes_eq full]
    exact List.take_left' full
  unfold Slot.ring
  rw [slotBytes_inGroups (slotBytes_length full)]
  dsimp only
  rw [magic, crc, body, commit, number, payload]
  simp

end

/-! ## The slot in force -/

/-- A slot of a ring as it is found: its number, its SEQ, its payload. -/
abbrev Found := Nat × Nat × List Byte

/-- The search for the highest SEQ ends on a slot of the list, and none has a higher one. -/
theorem newest_spec {l : List Found} {x z : Found} (search : l.foldl (fun a b => if a.2.1 < b.2.1 then b else a) x = z) :
    z ∈ x :: l ∧ ∀ y ∈ x :: l, y.2.1 ≤ z.2.1 := by
  induction l generalizing x with
  | nil =>
    subst search
    simp
  | cons b l ih =>
    obtain ⟨mem, max⟩ := ih search
    obtain ⟨kept, rest⟩ := List.forall_mem_cons.mp max
    dsimp only at mem kept
    by_cases newer : x.2.1 < b.2.1
    · rw [if_pos newer] at mem kept
      exact ⟨List.mem_cons_of_mem _ mem, List.forall_mem_cons.mpr ⟨by omega, List.forall_mem_cons.mpr ⟨kept, rest⟩⟩⟩
    · rw [if_neg newer] at mem kept
      exact ⟨List.mem_cons.mpr ((List.mem_cons.mp mem).imp_right (List.mem_cons_of_mem b)),
        List.forall_mem_cons.mpr ⟨kept, List.forall_mem_cons.mpr ⟨by omega, rest⟩⟩⟩

section
variable {p : Psto} {k : Nat}

theorem inForce_spec {x : Found} (inForce : p.inForce k = some x) : x ∈ p.ringSlots k ∧ ∀ y ∈ p.ringSlots k, y.2.1 ≤ x.2.1 := by
  unfold Psto.inForce at inForce
  cases slots : p.ringSlots k with
  | nil =>
    rw [slots] at inForce
    cases inForce
  | cons y l =>
    rw [slots] at inForce
    cases inForce
    exact newest_spec rfl

theorem payload_inForce {x : Found} (inForce : p.inForce k = some x) : p.payload k = x.2.2 := by
  unfold Psto.payload
  rw [inForce]
  rfl

theorem payload_empty (empty : p.ringSlots k = []) : p.payload k = List.replicate 112 0#8 := by
  unfold Psto.payload Psto.inForce
  rw [empty]
  rfl

end

/-- Settles O57: an error and a cut by the groups that a record needs, the round trips by the fields that stand in the bytes, the slot in
force by the search for the highest SEQ. Unused fields of an entry are 0 (log entry 172). -/
theorem storedRecordsAreWhole : Obligations.StoredRecordsAreWhole := by
  refine ⟨?_, ?_, ?_, ?_, ?_⟩
  · intro s bad
    exact ⟨slotEntry_none (slotBytes_ue bad), fun k => slotRing_none (slotBytes_ue bad)⟩
  · intro e fits
    exact ⟨entry_inGroups fits, slotEntry_none (slotBytes_cut (take_inGroups_short (by decide)))⟩
  · intro k seq l ring fits full
    exact ⟨ring_slotBytes full ring fits, fun n short => slotRing_none (slotBytes_cut (take_inGroups_short short))⟩
  · intro p k x inForce
    obtain ⟨mem, max⟩ := inForce_spec inForce
    exact ⟨mem, payload_inForce inForce, max⟩
  · intro p k empty
    exact payload_empty empty

end Sys2Proof.Proofs

/-!
PROOFS. The gang (R669 to R693): its cycle, the messages, joining, the starts; and the thermal events (R812 to R837).
-/

namespace Sys2Proof.Proofs

open Sys2Proof Sys2Proof.Machine Sys2Proof.Safety Sys2Proof.Laws

/-! ## The gang -/

section
variable (t : Nat) (s : State)

theorem atTick_gang : (s.atTick t).gang = s.gang := rfl

theorem atTick_rd : (s.atTick t).rd = s.rd := rfl

theorem atTick_trig : (s.atTick t).trig = s.trig := rfl

theorem atTick_leads : (s.atTick t).leads = s.leads := rfl

end

section
variable {s : State} (hs : inRatings s)
include hs

section
variable {ns tb : Nat}

/-- A SYNC that a listening module hears brings about its join request (R676). -/
theorem gangSyncReceived_listening {session tag : Nat} (listening : s.gang.joining = .listening session tag) :
    exec (.gangSyncReceived ns tb) s = .next
      (((s.atTick (ns / 10)).onGang (fun g => { g with joining := .requested session tag })).onCxp
        (Cxp.emit [.gangJoin (s.atTick (ns / 10)).joinRequest])) := by
  apply live_to hs
  dsimp only
  rw [atTick_gang, listening]

/-- A member measures its offset (R674). -/
theorem gangSyncReceived_member (member : s.gang.joining = .none) (inGang : s.gang.state ≠ 0)
    (follows : (s.atTick (ns / 10)).leads = false) :
    exec (.gangSyncReceived ns tb) s = .next ((s.atTick (ns / 10)).syncMeasured ns tb) := by
  apply live_to hs
  dsimp only
  rw [atTick_gang, member]
  exact if_pos (by simp [inGang, follows])

end

section
variable {m : GangMsg}

section
variable (member : s.gang.joining = .none) (inGang : s.gang.state ≠ 0)
include member inGang

theorem gangMessage_leader (leader : m.leader = true) (follows : s.leads = false) :
    exec (.gangMessage m) s = .next (s.leaderMessage m) := by
  apply live_to hs
  rw [member]
  exact (if_neg inGang).trans (if_pos (by simp [leader, follows]))

theorem gangMessage_member (other : m.leader = false) : exec (.gangMessage m) s = .next (s.memberMessage m) := by
  apply live_to hs
  rw [member]
  exact ((if_neg inGang).trans (if_neg (by simp [other]))).trans (if_neg (by simp [other]))

end

/-- The leader's answer to this module's request (R676). -/
theorem gangMessage_answers {session tag k : Nat} (asked : s.gang.joining = .requested session tag) (answer : m.reply = some k)
    (leader : m.leader = true) :
    exec (.gangMessage m) s = .next (if k = 0 then s.admitted m else (s.joinEnds stState k).gangOut) := by
  apply live_to hs
  rw [asked]
  dsimp only
  rw [answer]
  exact if_pos leader

end

/-- A leader answers a request of its own FW_COMPAT in its next message (R677). -/
theorem gangJoinRequest_leader {r : GangJoinReq} (leads : s.leads = true) (inGang : s.gang.state ≠ 0) (same : r.compat = s.fwCompat) :
    exec (.gangJoinRequest r) s = .next
      ((if s.joinReason r = 0 then s.admitMember r else s).sendGangMsg s.tb.now (some (s.joinReason r))) := by
  apply live_to hs
  rw [if_neg inGang, if_neg (c := r.compat ≠ s.fwCompat) (fun differs => differs same)]
  exact if_pos leads

/-- A module that hears no gang founds one; its readout is not armed, or for a calibration only, so it is in IDLE (R676, R683). -/
theorem gangJoinListenEnd_founds {session tag : Nat} (listening : s.gang.joining = .listening session tag)
    (unarmed : s.rd.isArmed = false ∨ s.rd.forCal = true) :
    exec .gangJoinListenEnd s = .next ((s.onGang (Gang.found s.trig.gangId)).joinEnds stOk 0) := by
  have noReadout : (s.rd.isArmed && !s.rd.forCal) = false := by
    rcases unarmed with h | h <;> simp [h]
  apply live_to hs
  rw [listening, noReadout]
  rfl

/-- A joiner within 40 ns of the leader is a member (R679). -/
theorem gangJoinerAligned_within {st : Nat} (aligning : s.gang.joining = .aligning st) (within : s.gang.offset.natAbs ≤ 40) :
    exec .gangJoinerAligned s = .next
      ((s.onGang (fun g => { g with joining := .none, agree := g.agree ||| s.ownBit })).gangFollows st) := by
  apply live_to hs
  rw [aligning]
  exact if_pos within

/-- A slew changes the timebase by 2 or by 0 ticks in one clock (R273). -/
theorem gangSlewPeriod_slews {fast : Bool} (slewing : s.gang.slew = some fast) (running : s.tb.running = true) :
    exec .gangSlewPeriod s = .next (s.tbAdjust (if fast then 2 else 0) 1) := by
  apply live_to hs
  rw [slewing]
  exact if_pos running

end

/-- Settles O27: each row by its condition, the rows of a joiner by how far its join has come. A lost leader leaves the gang
state the smaller of itself and ARMED (log entry 112). -/
theorem gangEventsComplete : Obligations.GangEventsComplete := by
  refine ⟨?_, ?_, ?_, ?_, ?_, ?_, ?_, ?_, ?_, ?_, ?_, ?_, ?_, ?_, ?_⟩
  · intro tick s hs leads
    apply live_to hs
    exact if_pos leads
  · rintro ns tb s session tag a hs listening rfl
    exact gangSyncReceived_listening hs listening
  · intro ns tb s hs member inGang follows
    exact gangSyncReceived_member hs member inGang follows
  · intro m s hs member inGang leader follows
    exact gangMessage_leader hs member inGang leader follows
  · intro m s hs member inGang other
    exact gangMessage_member hs member inGang other
  · intro m s session tag k hs asked answer leader
    exact gangMessage_answers hs asked answer leader
  · rintro r s k hs leads inGang same rfl
    exact gangJoinRequest_leader hs leads inGang same
  · intro s session tag hs listening unarmed
    exact gangJoinListenEnd_founds hs listening unarmed
  · intro s st hs aligning within
    exact gangJoinerAligned_within hs aligning within
  · intro tick s hs armed follows
    apply live_to hs
    exact if_pos (by simp [armed, follows])
  · intro id s hs leads other present
    apply live_to hs
    exact if_pos (by simp [leads, other, present])
  · intro s hs inGang follows
    apply live_to hs
    exact if_pos (by simp [inGang, follows])
  · intro s fast hs slewing running
    exact gangSlewPeriod_slews hs slewing running
  · intro id ns s hs leads valid present
    apply live_to hs
    exact if_pos (by simp [leads, valid, present])
  · intro tick s hs leads runs stays armed notCal free
    apply live_to hs
    rcases free with free | free <;>
      exact if_pos (by simp [atTick_leads, atTick_gang, atTick_rd, atTick_trig, leads, runs, stays, armed, notCal, free])

/-! ## The thermal events -/

/-- Settles O33: each event by the condition under which it acts. The sample is also one of the drift estimator (log entry 56). -/
theorem thermalEventsComplete : Obligations.ThermalEventsComplete := by
  refine ⟨?_, ?_, ?_, ?_, ?_, ?_⟩
  · rintro temps tick s a core rfl
    apply core_to core
    rfl
  · intro tick s core raised
    apply core_to core
    exact if_pos raised
  · intro tick s core raised cool
    apply core_to core
    exact if_pos (by simp [raised, cool])
  · intro s core cool
    apply core_to core
    exact if_pos cool
  · intro n s hs low high powered notTripped
    apply live_to hs
    exact if_pos (by simp [low, high, powered, notTripped])
  · intro t7 t8 s hs tripped stands cool7 cool8 qualified
    apply live_to hs
    exact if_pos (by simp [tripped, stands, cool7, cool8, qualified])

end Sys2Proof.Proofs

/-!
PROOFS. Triggers and the encoder: TRIG_CONFIG, ENC_CONFIG, ANGLE_TABLE_LOAD and the GANG commands (R625 to R627), trigger edges and the
encoder's events (R638 to R665), the turn that its position keeps (R655) and the index that ends LOST (R660, R661).
-/

namespace Sys2Proof.Proofs

open Sys2Proof Sys2Proof.Machine Sys2Proof.Safety Sys2Proof.Laws

/-! ## The commands -/

/-- Settles O24: each command by its body. A join first takes the module out of the gang it is in (log entry 109). -/
theorem triggerEncoderGangCommandsComplete : Obligations.TriggerEncoderGangCommandsComplete := by
  refine ⟨?_, ?_, ?_, ?_, ?_, ?_, ?_⟩
  · rintro h p s a rfl r
    exact serve_runs h 0x50 _ _ _ s r
  · rintro h p s a rfl r
    exact serve_runs h 0x51 _ _ _ s r
  · rintro h first l s a rfl r
    exact serve_runs h 0x52 _ _ _ s r
  · rintro h members rule s a b rfl r rfl
    exact serve_runs h 0x53 _ _ _ s r
  · rintro h s a rfl r
    exact serve_runs h 0x54 _ _ _ s r
  · rintro h s a rfl r
    exact serve_runs h 0x55 _ _ _ s r
  · rintro h s a rfl r
    exact serve_runs h 0x56 _ _ _ s r

/-! ## What the encoder does at a transition and at the index -/

theorem satAdd_eq_min (top v n : Nat) : satAdd top v n = min top (v + n) := by
  unfold satAdd
  split <;> omega

theorem selected_iff (x : Trig) (rising : Bool) : x.selected rising = true ↔ rising = decide (x.cfg.edge = 0) := by
  unfold Trig.selected
  split <;> rename_i edge <;> simp [edge]

/-- A change of the encoder rests on the encoder alone. -/
theorem onEnc_eq {f g : Enc → Enc} {s : State} (same : f s.enc = g s.enc) : s.onEnc f = s.onEnc g :=
  congrArg (fun e => { s with enc := e }) same

section
variable {e : Enc}

section
variable {lineA : Bool} (on : e.cfg.mode ≠ 0)
include on

theorem Enc.legal_forward (forward : e.forward lineA = true) : Enc.legal lineA e =
    { e with
      a := if lineA then !e.a else e.a
      b := if lineA then e.b else !e.b
      position := countUp e.cfg.cpr e.position } := by
  unfold Enc.legal
  rw [if_neg on, if_pos forward]

theorem Enc.legal_backward (backward : e.forward lineA = false) : Enc.legal lineA e =
    { e with
      a := if lineA then !e.a else e.a
      b := if lineA then e.b else !e.b
      position := countDown e.cfg.cpr e.position } := by
  unfold Enc.legal
  rw [if_neg on, backward]
  rfl

theorem Enc.illegal_on (t : Nat) : Enc.illegal t e =
    { e with
      a := !e.a
      b := !e.b
      errCount := min 0xFFFFFFFF (e.errCount + 1)
      errStamps := (if e.errStamps.length < 3 then e.errStamps else e.errStamps.tail) ++ [t]
      lostDue := e.lostDue ||
        (e.state = 0 && lostWindow ((if e.errStamps.length < 3 then e.errStamps else e.errStamps.tail) ++ [t])) } := by
  unfold Enc.illegal
  rw [if_neg on, satAdd_eq_min]

theorem Enc.index_tracking (tracking : e.state = 0) : Enc.index e =
    { e with position := e.indexed, zref := some (e.zref.getD e.indexed) } := by
  unfold Enc.index
  rw [if_neg on]
  simp [tracking]

theorem Enc.index_lost (lost : e.state = 1) : Enc.index e =
    { e with
      position := e.indexed
      zref := some (e.zref.getD e.indexed)
      correction := clamp (-32768) 32767 (e.restored - e.position)
      state := 0 } := by
  unfold Enc.index
  rw [if_neg on, if_pos lost, if_pos lost]

end

theorem Enc.index_off (off : e.cfg.mode = 0) : Enc.index e = e := if_pos off

theorem Enc.indexed_clears (clears : e.cfg.clearZ = 1) : e.indexed = 0 := if_pos clears

theorem Enc.indexed_tracking (keeps : e.cfg.clearZ ≠ 1) (tracking : e.state = 0) : e.indexed = e.position := by
  unfold Enc.indexed
  rw [if_neg keeps, if_neg (by omega)]

theorem Enc.indexed_lost (keeps : e.cfg.clearZ ≠ 1) (lost : e.state = 1) : e.indexed = wrapped e.cfg.cpr e.restored := by
  unfold Enc.indexed
  rw [if_neg keeps, if_pos lost]

theorem Enc.restored_recorded {z : Nat} (keeps : e.cfg.clearZ ≠ 1) (recorded : e.zref = some z) :
    e.restored = nearest e.cfg.cpr z e.position := by
  unfold Enc.restored
  rw [if_neg keeps, recorded]

theorem Enc.restored_unrecorded (keeps : e.cfg.clearZ ≠ 1) (unrecorded : e.zref = none) : e.restored = e.position := by
  unfold Enc.restored
  rw [if_neg keeps, unrecorded]

theorem Enc.firing_lost (lost : e.state ≠ 0) : e.firing = [] := if_neg lost

end

section
variable {lineA : Bool} {t : Nat} {s : State}

theorem encStep_forward (on : s.enc.cfg.mode ≠ 0) (forward : s.enc.forward lineA = true) :
    s.encStep lineA t = (s.onEnc (Enc.legal lineA)).enc.firing.foldl (State.fireEntry t) (s.onEnc (Enc.legal lineA)) :=
  if_pos (by simp [on, forward])

theorem encStep_backward (backward : s.enc.forward lineA = false) : s.encStep lineA t = s.onEnc (Enc.legal lineA) :=
  if_neg (by simp [backward])

/-- While LOST a transition fires nothing (R658). -/
theorem encStep_lost (lost : s.enc.state = 1) : s.encStep lineA t = s.onEnc (Enc.legal lineA) := by
  have none : (s.onEnc (Enc.legal lineA)).enc.firing = [] := by
    have lost' : (s.onEnc (Enc.legal lineA)).enc.state = 1 := lost
    exact Enc.firing_lost (by omega)
  unfold State.encStep
  dsimp only
  rw [none]
  exact ite_self _

/-- What an entry fires leaves the encoder alone, so a transition changes it as the transition alone does. -/
theorem encStep_enc : (s.encStep lineA t).enc = Enc.legal lineA s.enc := by
  unfold State.encStep
  dsimp only
  split
  · simp
  · rfl

end

/-! ## Trigger edges and the events of the encoder -/

section
variable {s : State} (hs : inRatings s)
include hs

/-- An edge at a pad that is no output: its level, and a start request when the pad and the edge are selected (R638, R641). -/
theorem trigEdge_noOutput {pad tick : Nat} {rising : Bool} {a : State} (valid : pad ≤ 3) (noOutput : s.trig.isOutput pad = false)
    (ha : (s.atTick tick).onTrig (fun x => { x with levels := maskMerge (2 ^ pad) (bit rising * 2 ^ pad) x.levels }) = a) :
    exec (.trigEdge pad rising tick) s = .next
      (if s.trig.isInput pad = true ∧ rising = decide (s.trig.cfg.edge = 0) then a.startRequest (pad + 1) tick else a) := by
  have guard : (a.trig.isInput pad && a.trig.selected rising) = true ↔
      s.trig.isInput pad = true ∧ rising = decide (s.trig.cfg.edge = 0) := by
    rw [Bool.and_eq_true, selected_iff, ← ha]
    rfl
  subst ha
  apply live_to hs
  exact (if_neg (by simp [noOutput]; omega)).trans (ite_congr (propext guard) (fun _ => rfl) (fun _ => rfl))

theorem encLegalTransition_forward {lineA : Bool} {tick : Nat} (on : s.enc.cfg.mode ≠ 0) (forward : s.enc.forward lineA = true) :
    exec (.encLegalTransition lineA tick) s = .next
      (((s.atTick tick).onEnc (Enc.legal lineA)).enc.firing.foldl (State.fireEntry tick) ((s.atTick tick).onEnc (Enc.legal lineA))) := by
  apply live_to hs
  exact encStep_forward (by simpa using on) (by simpa using forward)

theorem encLegalTransition_backward {lineA : Bool} {tick : Nat} (backward : s.enc.forward lineA = false) :
    exec (.encLegalTransition lineA tick) s = .next ((s.atTick tick).onEnc (Enc.legal lineA)) := by
  apply live_to hs
  exact encStep_backward (by simpa using backward)

/-- An index changes the encoder alone. -/
theorem encIndex_to {tick : Nat} {f : Enc → Enc} (same : Enc.index s.enc = f s.enc) :
    exec (.encIndex tick) s = .next ((s.atTick tick).onEnc f) := by
  apply live_to hs
  exact onEnc_eq same

end

/-- Settles O26: each event by the encoder's or the pad's state. The window of R657 counts both of its ends, and CORRECTION is the
difference before the modulo (log entry 107). -/
theorem triggerAndEncoderEventsComplete : Obligations.TriggerAndEncoderEventsComplete := by
  refine ⟨?_, ?_, ?_, ?_, ?_, ?_, ?_, ?_⟩
  · intro pad rising tick s a hs valid noOutput ha
    exact trigEdge_noOutput hs valid noOutput ha
  · rintro lineA tick s a hs on forward rfl
    refine ⟨_, ?_, encLegalTransition_forward hs on forward⟩
    exact onEnc_eq (Enc.legal_forward on forward)
  · intro lineA tick s hs on backward
    rw [encLegalTransition_backward hs backward]
    exact congrArg _ (onEnc_eq (Enc.legal_backward on backward))
  · rintro tick s l hs on rfl
    apply live_to hs
    exact onEnc_eq (Enc.illegal_on on tick)
  · intro s hs due tracking
    apply live_to hs
    exact if_pos (by simp [due, tracking])
  · intro tick s hs on tracking clears
    apply encIndex_to hs
    rw [Enc.index_tracking on tracking, Enc.indexed_clears clears]
  · intro tick s hs on tracking keeps
    apply encIndex_to hs
    rw [Enc.index_tracking on tracking, Enc.indexed_tracking keeps tracking]
  · intro tick s z hs on lost keeps recorded
    apply encIndex_to hs
    rw [Enc.index_lost on lost, Enc.indexed_lost keeps lost, Enc.restored_recorded keeps recorded, recorded, Option.getD_some, ← recorded]

/-! ## The turn that the position keeps (R655) -/

/-- Counts of one turn: CPR, or 2^32 without one. -/
def turnOf (cpr : Nat) : Nat := if cpr = 0 then 2 ^ 32 else cpr

theorem turnOf_pos (cpr : Nat) : 0 < turnOf cpr := by
  unfold turnOf
  split <;> omega

/-- The position lies within the turn. -/
def Enc.within (e : Enc) : Prop := e.position < turnOf e.cfg.cpr

theorem Enc.within_iff (e : Enc) : Enc.within e ↔ inTurn e ∧ (e.cfg.cpr = 0 → e.position < 2 ^ 32) := by
  unfold Enc.within turnOf inTurn
  split <;> rename_i turn <;> simp [turn]

theorem countUp_eq (cpr p : Nat) : countUp cpr p = (p + 1) % turnOf cpr := by
  unfold countUp turnOf
  split <;> rfl

theorem countDown_eq (cpr p : Nat) : countDown cpr p = (p + turnOf cpr - 1) % turnOf cpr := by
  unfold countDown turnOf
  split <;> rfl

theorem wrapped_eq (cpr : Nat) (x : Int) : wrapped cpr x = (x % (turnOf cpr : Int)).toNat := by
  unfold wrapped turnOf
  split <;> rfl

theorem wrapped_lt (cpr : Nat) (x : Int) : wrapped cpr x < turnOf cpr := by
  have turn := turnOf_pos cpr
  rw [wrapped_eq]
  have low := Int.emod_nonneg x (b := turnOf cpr) (by omega)
  have high := Int.emod_lt_of_pos x (b := turnOf cpr) (by omega)
  omega

theorem wrapped_natCast {cpr n : Nat} (within : n < turnOf cpr) : wrapped cpr n = n := by
  rw [wrapped_eq, Int.emod_eq_of_lt (by omega) (by omega), Int.toNat_natCast]

section
variable {e : Enc} (within : Enc.within e)
include within

theorem Enc.within_legal (lineA : Bool) : Enc.within (Enc.legal lineA e) := by
  have turn := turnOf_pos e.cfg.cpr
  by_cases off : e.cfg.mode = 0
  · have stays : (Enc.legal lineA e).position = e.position := if_pos off
    unfold Enc.within
    rw [stays]
    exact within
  · cases forward : e.forward lineA with
    | true =>
      rw [Enc.legal_forward off forward]
      exact Nat.lt_of_le_of_lt (Nat.le_of_eq (countUp_eq _ _)) (Nat.mod_lt _ turn)
    | false =>
      rw [Enc.legal_backward off forward]
      exact Nat.lt_of_le_of_lt (Nat.le_of_eq (countDown_eq _ _)) (Nat.mod_lt _ turn)

theorem Enc.within_illegal (t : Nat) : Enc.within (Enc.illegal t e) := by
  unfold Enc.illegal
  split <;> exact within

theorem Enc.indexed_lt : e.indexed < turnOf e.cfg.cpr := by
  unfold Enc.indexed
  split
  · exact turnOf_pos _
  · split
    · exact wrapped_lt _ _
    · exact within

theorem Enc.within_index : Enc.within (Enc.index e) := by
  unfold Enc.index
  split
  · exact within
  · exact Enc.indexed_lt within

end

/-! ### What a served command that changes the encoder has passed -/

theorem all_good_of_firstBad_none {res : Option Nat} {l : List (Nat × Bool)} (good : firstBad res l = none) :
    ∀ q ∈ l, q.2 = false := by
  unfold firstBad at good
  split at good
  case h_1 => cases good
  case h_2 => cases good
  case h_3 least => simpa using least

theorem params_good_of_verdict_none {h : Hdr} {op : Nat} {dup : Bool} {g : Gate} {s : State} (passed : verdict h op dup g s = none) :
    ∀ q ∈ g.params, q.2 = false := by
  refine all_good_of_firstBad_none (res := h.res) ?_
  unfold verdict at passed
  split at passed
  · cases passed
  · split at passed
    · cases passed
    · split at passed
      · cases passed
      · assumption

/-- A served command leaves the encoder or has passed its checks and acts. -/
theorem serveAs_enc {i : Intake} {h : Hdr} {op : Nat} {cmd : Instr} {gate : State → Gate} {body : State → State} {s : State} :
    (serveAs i h op cmd gate body s).enc = s.enc ∨
      (serveAs i h op cmd gate body s = body (s.taken h op) ∧ ∀ q ∈ (gate (s.taken h op)).params, q.2 = false) := by
  cases i with
  | lost => exact .inl rfl
  | wait => exact .inl rfl
  | busy => exact .inl (State.refuseBusy_enc h op s)
  | queue => exact .inl (State.enqueue_enc h op cmd s)
  | take dup =>
    cases passed : verdict h op dup (gate (s.taken h op)) (s.taken h op) with
    | some x =>
      refine .inl ?_
      simp [serveAs, passed]
    | none =>
      refine .inr ⟨?_, params_good_of_verdict_none passed⟩
      simp [serveAs, passed]

/-- ENC_CONFIG leaves the encoder or configures it with a preset below CPR (R655, R662). -/
theorem encConfig_enc {h : Hdr} {p : EncP} {s t : State} (e : exec (.encConfig h p) s = .next t) :
    t.enc = s.enc ∨ (t.enc = Enc.configured p s.enc ∧ (p.cpr ≠ 0 → p.preset < p.cpr)) := by
  have e' := live_next (f := serve h 0x51 (.encConfig h p) (encGate h p)
    (fun t => (t.onEnc (Enc.configured p)).answer h 0x51 stOk [])) e
  rw [← e']
  rcases serveAs_enc (i := intake h 0x51 (s.atTick h.tick)) (h := h) (op := 0x51) (cmd := .encConfig h p) (gate := encGate h p)
    (body := fun t => (t.onEnc (Enc.configured p)).answer h 0x51 stOk []) (s := s.atTick h.tick) with stays | ⟨acts, good⟩
  · exact .inl (stays.trans (State.atTick_enc _ _))
  · have preset := good (8, p.cpr ≠ 0 && p.cpr ≤ p.preset) (by simp [encGate])
    refine .inr ⟨?_, ?_⟩
    · unfold serve
      rw [acts]
      simp
    · simpa using preset

/-! ### Each row of the encoder -/

section
variable {s t : State}

theorem encLegalTransition_enc {lineA : Bool} {tick : Nat} (e : exec (.encLegalTransition lineA tick) s = .next t) :
    t.enc = Enc.legal lineA s.enc := by
  rw [← live_next (f := fun u => (u.atTick tick).encStep lineA tick) e, encStep_enc, State.atTick_enc]

theorem encIndex_next {tick : Nat} (e : exec (.encIndex tick) s = .next t) : t = (s.atTick tick).onEnc Enc.index :=
  (live_next (f := fun u => (u.atTick tick).onEnc Enc.index) e).symm

theorem encIllegalTransition_enc {tick : Nat} (e : exec (.encIllegalTransition tick) s = .next t) : t.enc = Enc.illegal tick s.enc := by
  rw [← live_next (f := fun u => (u.atTick tick).onEnc (Enc.illegal tick)) e]
  rfl

/-- The declaration of LOST leaves the position and the configuration. -/
theorem encLost_within (e : exec .encLost s = .next t) (within : Enc.within s.enc) : Enc.within t.enc := by
  have e' := live_next e
  split at e'
  · rw [← e', State.raise_enc]
    exact within
  · rw [← e']
    exact within

end

/-- Settles O42: the position stays below CPR, else 2^32, because each row leaves it, counts it or takes it modulo the turn, or presets it
below CPR. -/
theorem encoderStaysInTurn : Obligations.EncoderStaysInTurn := by
  refine ⟨?_, ?_, ?_⟩
  · intro c s t row turn small next
    have within := (Enc.within_iff s.enc).mpr ⟨turn, small⟩
    rw [← Enc.within_iff]
    rcases row with ⟨lineA, tick, rfl⟩ | ⟨tick, rfl⟩ | rfl | ⟨tick, rfl⟩ | ⟨h, p, rfl, preset⟩
    · rw [encLegalTransition_enc next]
      exact Enc.within_legal within lineA
    · rw [encIllegalTransition_enc next]
      exact Enc.within_illegal within tick
    · exact encLost_within next within
    · rw [encIndex_next next]
      exact Enc.within_index within
    · rcases encConfig_enc next with stays | ⟨configured, below⟩
      · rw [stays]
        exact within
      · rw [configured, Enc.within_iff]
        exact ⟨below, fun _ => preset⟩
  · intro lineA tick s t on forward next
    rw [encLegalTransition_enc next, Enc.legal_forward on forward]
    refine ⟨fun hasTurn last => ?_, fun noTurn => if_pos noTurn⟩
    dsimp only
    rw [countUp, if_neg hasTurn, last, Nat.sub_add_cancel (by omega), Nat.mod_self]
  · intro lineA tick s t on backward next noTurn
    rw [encLegalTransition_enc next, Enc.legal_backward on backward]
    exact if_pos noTurn

/-! ## The index that ends LOST (R660, R661) -/

theorem roundDiv_near (n : Nat) {b : Nat} (hb : 0 < b) : 2 * (b * roundDiv n b) ≤ 2 * n + b ∧ 2 * n ≤ 2 * (b * roundDiv n b) + b := by
  have split : 2 * b * ((2 * n + b) / (2 * b)) + (2 * n + b) % (2 * b) = 2 * n + b := Nat.div_add_mod _ _
  have rest := Nat.mod_lt (2 * n + b) (y := 2 * b) (by omega)
  rw [Nat.mul_assoc] at split
  unfold roundDiv
  omega

/-- A rounded quotient leaves at most half of the divisor (R8). -/
theorem roundDivI_near (a : Int) {b : Nat} (hb : 0 < b) :
    2 * (b * roundDivI a b - a) ≤ b ∧ -(b : Int) ≤ 2 * (b * roundDivI a b - a) := by
  obtain ⟨low, high⟩ := roundDiv_near a.natAbs hb
  unfold roundDivI
  split
  · rw [Int.mul_neg, ← Int.natCast_mul]
    omega
  · rw [← Int.natCast_mul]
    omega

/-- The restored position is within half a turn of the one counted. -/
theorem nearest_near {cpr : Nat} (hasTurn : cpr ≠ 0) (z p : Int) :
    2 * (nearest cpr z p - p) ≤ cpr ∧ -(cpr : Int) ≤ 2 * (nearest cpr z p - p) := by
  have near := roundDivI_near (p - z) (Nat.pos_of_ne_zero hasTurn)
  unfold nearest
  rw [if_neg hasTurn]
  omega

theorem nearest_eq {cpr : Nat} (hasTurn : cpr ≠ 0) (z p : Int) : nearest cpr z p = z + cpr * roundDivI (p - z) cpr := if_neg hasTurn

/-- Modulo the turn the restored position is the reference. -/
theorem wrapped_nearest {cpr z : Nat} (below : z < turnOf cpr) (p : Int) : wrapped cpr (nearest cpr z p) = z := by
  by_cases noTurn : cpr = 0
  · rw [nearest, if_pos noTurn, wrapped_natCast below]
  · have turn : turnOf cpr = cpr := if_neg noTurn
    rw [nearest_eq noTurn, wrapped_eq, turn, Int.add_mul_emod_self_left]
    rw [turn] at below
    rw [Int.emod_eq_of_lt (by omega) (by omega), Int.toNat_natCast]

theorem clamp_bounds {lo hi : Int} (v : Int) (ordered : lo ≤ hi) : lo ≤ clamp lo hi v ∧ clamp lo hi v ≤ hi := by
  unfold clamp
  split
  · omega
  · split <;> omega

theorem clamp_eq_self {lo hi v : Int} (low : lo ≤ v) (high : v ≤ hi) : clamp lo hi v = v := by
  unfold clamp
  rw [if_neg (by omega), if_neg (by omega)]

section
variable {e : Enc} (on : e.cfg.mode ≠ 0)
include on

theorem Enc.index_position : (Enc.index e).position = e.indexed := by
  unfold Enc.index
  rw [if_neg on]

theorem Enc.index_zref : (Enc.index e).zref = some (e.zref.getD e.indexed) := by
  unfold Enc.index
  rw [if_neg on]

end

theorem encIndex_enc {s : State} (hs : inRatings s) (tick : Nat) :
    ∃ t, exec (.encIndex tick) s = .next t ∧ t.enc = Enc.index s.enc := ⟨_, encIndex_to hs rfl, rfl⟩

/-- Settles O56: while LOST the index takes the position nearest to the one counted that is a whole number of turns from Z_REF, and modulo
CPR that is Z_REF. CORRECTION is the difference before the modulo, clamped (log entry 107). -/
theorem indexRestoresTheReference : Obligations.IndexRestoresTheReference := by
  refine ⟨?_, ?_, ?_, ?_, ?_⟩
  · intro tick s z hs on lost keeps recorded small below
    obtain ⟨t, next, after⟩ := encIndex_enc hs tick
    have inTheTurn : z < turnOf s.enc.cfg.cpr := by
      unfold turnOf
      split
      · exact small ‹_›
      · exact below ‹_›
    rw [Enc.index_lost on lost, Enc.indexed_lost keeps lost, Enc.restored_recorded keeps recorded, wrapped_nearest inTheTurn, recorded]
      at after
    obtain ⟨least, most⟩ := clamp_bounds (lo := -32768) (hi := 32767) (nearest s.enc.cfg.cpr z s.enc.position - s.enc.position)
      (by decide)
    refine ⟨t, next, ?_⟩
    rw [after]
    refine ⟨rfl, rfl, rfl, rfl, least, most, fun noTurn low high => ?_, fun hasTurn short => ?_⟩
    · rw [nearest, if_pos noTurn, clamp_eq_self low high]
    · obtain ⟨high, low⟩ := nearest_near hasTurn (z : Int) s.enc.position
      rw [clamp_eq_self (by omega) (by omega)]
      exact ⟨_, congrArg (· - (s.enc.position : Int)) (nearest_eq hasTurn _ _), high, low⟩
  · intro tick s hs on lost keeps unrecorded small turn
    obtain ⟨t, next, after⟩ := encIndex_enc hs tick
    have within : s.enc.position < turnOf s.enc.cfg.cpr := (Enc.within_iff s.enc).mpr ⟨turn, fun _ => small⟩
    rw [Enc.index_lost on lost, Enc.indexed_lost keeps lost, Enc.restored_unrecorded keeps unrecorded, wrapped_natCast within, unrecorded]
      at after
    refine ⟨t, next, ?_⟩
    rw [after]
    exact ⟨rfl, rfl, rfl⟩
  · intro tick s hs on clears
    obtain ⟨t, next, after⟩ := encIndex_enc hs tick
    refine ⟨t, next, ?_⟩
    rw [after, Enc.index_position on, Enc.index_zref on, Enc.indexed_clears clears]
    exact ⟨rfl, rfl⟩
  · intro tick s t next
    rw [encIndex_next next]
    exact ⟨rfl, Enc.index_off⟩
  · intro lineA tick s t lost next
    have moved : (s.atTick tick).encStep lineA tick = t := live_next (f := fun u => (u.atTick tick).encStep lineA tick) next
    rw [encStep_lost (s := s.atTick tick) lost] at moved
    rw [← moved]
    rfl

end Sys2Proof.Proofs

/-!
PROOFS. Row-aligned starts: the grid instant that a start takes, the early one and the accepted one (R644, R648).
-/

namespace Sys2Proof.Proofs

open Sys2Proof Sys2Proof.Machine Sys2Proof.Safety Sys2Proof.Laws

/-! ## The grid -/

theorem ceilDiv_le_iff {a b j : Nat} (hb : 0 < b) : ceilDiv a b ≤ j ↔ a ≤ j * b := by
  rw [ceilDiv, Nat.div_le_iff_le_mul_add_pred hb, Nat.mul_comm]
  omega

/-- The grid instant of the most recent S_0, or of the grid's origin. -/
def Rd.gridStart (r : Rd) : Nat := if r.anyFrame then r.sPrev else r.gridOrigin

section
variable {t : Nat} {s : State}

theorem placeStart_rowAligned (mode : s.trig.cfg.mode = 0) (noGang : s.gang.state < 2) : s.placeStart t = s.rd.gridAt t := by
  unfold State.placeStart
  rw [if_neg (by omega), if_neg (by omega)]

/-- No grid instant that leaves 35 ticks is earlier (R644). -/
theorem gridAt_spec {r : Rd} (rows : 0 < r.rt) :
    t + 35 ≤ r.gridAt t ∧ ∀ j, t + 35 ≤ Rd.gridStart r + j * r.rt → r.gridAt t ≤ Rd.gridStart r + j * r.rt := by
  have le_iff := fun j => ceilDiv_le_iff (a := t + 35 - Rd.gridStart r) (j := j) rows
  have placed : r.gridAt t = Rd.gridStart r + ceilDiv (t + 35 - Rd.gridStart r) r.rt * r.rt := rfl
  rw [placed]
  refine ⟨?_, fun j late => ?_⟩
  · have reached := (le_iff _).mp (Nat.le_refl _)
    omega
  · have fewer : ceilDiv (t + 35 - Rd.gridStart r) r.rt ≤ j := (le_iff j).mpr (by omega)
    exact Nat.add_le_add_left (Nat.mul_le_mul_right _ fewer) _

/-! ## Early and accepted starts -/

theorem isEarly_iff {r : Rd} {s0 : Nat} : r.isEarly s0 = true ↔ ∃ p, r.previous = some p ∧ s0 < p + r.period := by
  unfold Rd.isEarly
  cases r.previous <;> simp

/-- An early start is counted and starts nothing (R648). -/
theorem acceptStart_early (early : s.rd.isEarly (s.placeStart t) = true) :
    s.acceptStart t = s.onTrig (fun x => { x with early := min 0xFF (x.early + 1) }) := by
  unfold State.acceptStart
  dsimp only
  rw [if_pos early, State.startEarly]
  simp only [satAdd_eq_min]

section
variable (mode : s.trig.cfg.mode = 0) (noGang : s.gang.state < 2)
include mode noGang

/-- A row-aligned start outside a gang that is armed cuts no frame (R649). -/
theorem startTaken_rowAligned (notThrottled : s.rd.throttled = false) (s0 number : Nat) : s.startTaken t s0 number =
    ((s.onRd (fun r => { r with nextS0 := some (s0, t, number), skipNext := false })).onTrig
      (fun x => { x with accepted := (x.accepted + 1) % 0x10000 })).releaseSchedules (fun x => x.ref = 1) t := by
  have cutsNothing : s.cuts s0 = false := by
    unfold State.cuts
    simp [mode, Nat.not_le.mpr noGang]
  have readout : s.onRd (fun r => { r with nextS0 := some (s0, t, number), skipNext := r.throttled }) =
      s.onRd (fun r => { r with nextS0 := some (s0, t, number), skipNext := false }) :=
    congrArg (fun b => s.onRd (fun r => { r with nextS0 := some (s0, t, number), skipNext := b })) notThrottled
  unfold State.startTaken
  rw [cutsNothing, if_neg (by decide), readout]

/-- It is the readout's own start, not the gang's (R685). -/
theorem acceptStart_rowAligned (notThrottled : s.rd.throttled = false) (due : s.rd.isEarly (s.placeStart t) = false) :
    s.acceptStart t = ((s.onRd (fun r => { r with nextS0 := some (s.placeStart t, t, r.frameNumber), skipNext := false })).onTrig
      (fun x => { x with accepted := (x.accepted + 1) % 0x10000 })).releaseSchedules (fun x => x.ref = 1) t := by
  have notRunning : ¬ s.gang.state = 3 := by omega
  unfold State.acceptStart
  dsimp only
  rw [due, notThrottled, if_neg notRunning, startTaken_rowAligned mode noGang notThrottled]
  exact if_neg notRunning

end

theorem startRequest_takes {src : Nat} (armed : s.rd.isArmed = true) (notCal : s.rd.forCal = false) (selected : s.trig.cfg.source = src)
    (noGang : s.gang.state < 2) : s.startRequest src t = s.acceptStart t :=
  if_pos (by simp [armed, notCal, selected, noGang])

end

/-- A rising edge at the selected input of an armed readout, outside an armed gang, is a start with its tick as stamp (R638, R641). -/
theorem trigEdge_starts {pad tick : Nat} {s a : State} (hs : inRatings s) (valid : pad ≤ 3) (input : s.trig.isInput pad = true)
    (rising : s.trig.cfg.edge = 0) (selected : s.trig.cfg.source = pad + 1) (noGang : s.gang.state < 2) (armed : s.rd.isArmed = true)
    (notCal : s.rd.forCal = false)
    (ha : (s.atTick tick).onTrig (fun x => { x with levels := maskMerge (2 ^ pad) (2 ^ pad) x.levels }) = a) :
    exec (.trigEdge pad true tick) s = .next (a.acceptStart tick) := by
  have noOutput : s.trig.isOutput pad = false := by
    unfold Trig.isInput at input
    rw [Bool.and_eq_true, Bool.not_eq_true'] at input
    obtain ⟨-, inward⟩ := input
    rw [Trig.isOutput, inward, Bool.and_false]
  have level : bit true * 2 ^ pad = 2 ^ pad := Nat.one_mul _
  rw [trigEdge_noOutput hs valid noOutput (by rw [level, ha]), if_pos ⟨input, by simp [rising]⟩]
  subst ha
  exact congrArg _ (startRequest_takes armed notCal selected noGang)

/-- Settles O52: the grid instant by the quotient rounded up, the accepted and the early start by the order of S_0 and S_prev + P. -/
theorem rowAlignedStarts : Obligations.RowAlignedStarts := by
  refine ⟨?_, ?_, ?_, ?_⟩
  · intro t s mode noGang rows
    rw [placeStart_rowAligned mode noGang]
    exact ⟨_, _, rfl, rfl, gridAt_spec rows⟩
  · intro t s p previous early
    exact acceptStart_early (isEarly_iff.mpr ⟨p, previous, early⟩)
  · intro pad tick s a hs valid input rising selected mode noGang armed notCal notThrottled ha due
    rw [trigEdge_starts hs valid input rising selected noGang armed notCal ha]
    have notEarly : a.rd.isEarly (a.placeStart tick) = false := by
      rw [Bool.eq_false_iff, ne_eq, isEarly_iff]
      rintro ⟨p, previous, early⟩
      subst ha
      exact absurd early (Nat.not_lt.mpr (due p previous))
    subst ha
    exact congrArg _ (acceptStart_rowAligned mode noGang notThrottled notEarly)
  · intro pad tick s a p hs valid input rising selected noGang armed notCal ha previous early
    rw [trigEdge_starts hs valid input rising selected noGang armed notCal ha]
    subst ha
    exact congrArg _ (acceptStart_early (isEarly_iff.mpr ⟨p, previous, early⟩))

end Sys2Proof.Proofs
